-- ==== Sys2Proof/Word.lean ====
section
/-!
DEFINITION. The word types of the PT-210 and their plainest arithmetic: a byte, a tick of the 32-bit timebase (R1) and
the forward interval between two ticks (R2).
-/
namespace Sys2Proof

/-- One byte of a message, of a text or of a scoreboard row. -/
abbrev Byte := BitVec 8

/-- A count of the 32-bit timebase (R1): one tick is 100 µs, and the count wraps to 0. -/
abbrev Tick := BitVec 32

/-- The interval from tick `a` to tick `b`, (b − a) mod 2^32 (R2). -/
def interval (a b : Tick) : Nat := (b - a).toNat

/-- The tick `n` ticks after `a`, modulo 2^32 (R2). -/
def later (a : Tick) (n : Nat) : Tick := a + BitVec.ofNat 32 n

end Sys2Proof
end

