-- ==== Sys2Proof/Syntax.lean ====
section
/-!
DEFINITION. The commands of the PT-210: one constructor for each row of spec/opcode_table.json, in the table's order.

A command is one step of the part, whole and indivisible (spec/95_what_each_step_holds.md). Three kinds of command carry
operands. A sample of an input pin carries the level that the sample reads. A byte received on RXD carries the byte and its
stop bit. An expiry names the line, the lane or the lamp function whose timer expires. A request carries none: its tag and
its payload are those of the frame at the head of the receive buffer, from which the request is taken (R168; log entry 4).
-/
namespace Sys2Proof

/-- The levels of the three ownership inputs at one sample, true for high (R148). -/
structure ShareLevels where
  own   : Bool
  req   : Bool
  force : Bool
deriving DecidableEq, Repr

/-- The straps, true for high: POS marks unit A (section 9.1), RATE1 and RATE0 select the bit rate (R166). -/
structure Straps where
  pos   : Bool
  rate1 : Bool
  rate0 : Bool
deriving DecidableEq, Repr

/-- The electrical levels of every input pin, true for high: the sense lines 0 to 60 (R4), FLAG, the ownership inputs and
the straps. -/
structure Pins where
  lines  : List Bool
  flag   : Bool
  share  : ShareLevels
  straps : Straps
deriving DecidableEq, Repr

/-- The PULSE functions of the Lamp Unit (R161). -/
inductive PulseId where
  | startFlash (lane : Nat)
  | bell
deriving DecidableEq, Repr

/-- The EXTENDED functions of the Lamp Unit (R162). -/
inductive ExtendedId where
  | takeoffAlert (lane : Nat)
  | record
deriving DecidableEq, Repr

/-- The commands, in the order of spec/opcode_table.json. -/
inductive Instr where
  /-- POWER_ON (R21): power is applied while the input pins read `pins`. -/
  | powerOn (pins : Pins)
  /-- RESET (R178). -/
  | reset
  /-- RESET_TAKES_EFFECT (R178). -/
  | resetTakesEffect
  /-- PENDING_EDGE (R6): a sample reads `line` at the level `high`. -/
  | pendingEdge (line : Nat) (high : Bool)
  /-- PENDING_EDGE_DROPPED (R6): a sample reads `line` at the level `high`. -/
  | pendingEdgeDropped (line : Nat) (high : Bool)
  /-- EDGE_CONFIRMED (R7): a sample reads `line` at the level `high`. -/
  | edgeConfirmed (line : Nat) (high : Bool)
  /-- PAD_HOLD_EXPIRY (R11), for the pad on `line`. -/
  | padHoldExpiry (line : Nat)
  /-- LINE_STUCK (R15), for `line`. -/
  | lineStuck (line : Nat)
  /-- BACKUP_WINDOW_EXPIRY (R78), for `lane`. -/
  | backupWindowExpiry (lane : Nat)
  /-- CLOCK_LIMIT (R56). -/
  | clockLimit
  /-- HEADER_TENTHS (R130). -/
  | headerTenths
  /-- RUNNING_SECONDS (R130). -/
  | runningSeconds
  /-- SPLIT_HOLD_EXPIRY (R129), for `lane`. -/
  | splitHoldExpiry (lane : Nat)
  /-- SLOT_EXPIRY (R136). -/
  | slotExpiry
  /-- ROW_START (R137). -/
  | rowStart
  /-- ROW_COMPLETE (R138): FLAG is sampled at the level `flag` (not read in STROBE mode). -/
  | rowComplete (flag : Bool)
  /-- BOARD_STALL (R143). -/
  | boardStall
  /-- CLAIM_WINDOW_END (R152). -/
  | claimWindowEnd
  /-- CLAIM_WITHDRAWN (R149): the ownership inputs are sampled at `levels`. -/
  | claimWithdrawn (levels : ShareLevels)
  /-- PARTNER_TOOK (R150): the ownership inputs are sampled at `levels`. -/
  | partnerTook (levels : ShareLevels)
  /-- BOARD_FREE (R150): the ownership inputs are sampled at `levels`. -/
  | boardFree (levels : ShareLevels)
  /-- CLAIM_ON_OWN_IN_INACTIVE (R153): the ownership inputs are sampled at `levels`. -/
  | claimOnOwnInInactive (levels : ShareLevels)
  /-- TAKE_WAIT_EXPIRY (R153). -/
  | takeWaitExpiry
  /-- REQ_IN_ACTIVE (R154): the ownership inputs are sampled at `levels`. -/
  | reqInActive (levels : ShareLevels)
  /-- STOP_AFTER_ROW (R144). -/
  | stopAfterRow
  /-- BOARD_LOST (R154): the ownership inputs are sampled at `levels`. -/
  | boardLost (levels : ShareLevels)
  /-- PULSE_EXPIRY (R161), for the function `f`. -/
  | pulseExpiry (f : PulseId)
  /-- EXTENDED_EXPIRY (R162), for the function `f`. -/
  | extendedExpiry (f : ExtendedId)
  /-- OFF_DELAY_EXPIRY (R163), for the FINAL_LENGTH function of `lane`. -/
  | offDelayExpiry (lane : Nat)
  /-- FRAME_COMPLETE (R168): the byte `b` is received with the stop bit at the level `stop`. -/
  | frameComplete (b : Byte) (stop : Bool)
  /-- FRAME_FAILED (R167): the byte `b` is received with the stop bit at the level `stop`. -/
  | frameFailed (b : Byte) (stop : Bool)
  /-- FRAME_TIMEOUT (R167). -/
  | frameTimeout
  /-- UNKNOWN_KIND (R168). -/
  | unknownKind
  /-- MESSAGE_START (R169). -/
  | messageStart
  /-- MESSAGE_END (R169). -/
  | messageEnd
  /-- STATUS (R173). -/
  | status
  /-- SET_OPTIONS (R174). -/
  | setOptions
  /-- READ_OPTIONS (R174). -/
  | readOptions
  /-- LINE_MASK (R19). -/
  | lineMask
  /-- LINE_LEVELS (R20). -/
  | lineLevels
  /-- LOAD_EVENT (R30). -/
  | loadEvent
  /-- SET_LANE (R31). -/
  | setLane
  /-- SET_RECORD (R33). -/
  | setRecord
  /-- CLEAR_RACE (R34). -/
  | clearRace
  /-- ARM (R38). -/
  | arm
  /-- RECALL (R50). -/
  | recallRace
  /-- STOP (R119). -/
  | stopRace
  /-- ADJUST_LENGTH_PLUS_ONE (R72). -/
  | adjustLengthPlusOne
  /-- ADJUST_LENGTH_MINUS_ONE (R73). -/
  | adjustLengthMinusOne
  /-- ADJUDICATE (R117). -/
  | adjudicate
  /-- DECLARE_DNS (R112). -/
  | declareDns
  /-- DECLARE_DNF (R113). -/
  | declareDnf
  /-- DECLARE_DQ (R114). -/
  | declareDq
  /-- DECLARE_REINSTATE (R115). -/
  | declareReinstate
  /-- CLOSE (R121). -/
  | close
  /-- READ_LANE (R175). -/
  | readLane
  /-- READ_SPLITS (R175). -/
  | readSplits
  /-- READ_RANKING (R122). -/
  | readRanking
  /-- WATCH (R171). -/
  | watch
  /-- CANCEL_WATCH (R172). -/
  | cancelWatch
  /-- BOARD_TAKE (R151). -/
  | boardTake
  /-- BOARD_RELEASE (R155). -/
  | boardRelease
  /-- BOARD_TEXT (R132). -/
  | boardText
  /-- ROW_MASK (R145). -/
  | rowMask
  /-- READ_ALARMS (R177). -/
  | readAlarms
  /-- CLEAR_ALARMS (R177). -/
  | clearAlarms
  /-- BYTE_RECEIVED (R167): the byte `b` is received with the stop bit at the level `stop`. -/
  | byteReceived (b : Byte) (stop : Bool)
  /-- FLAG_WAIT_MET (R140): FLAG is sampled at the level `flag`. -/
  | flagWaitMet (flag : Bool)
  /-- SETTLE_TIME_EXPIRY (R142). -/
  | settleTimeExpiry
  /-- STROBE_WIDTH_EXPIRY (R142). -/
  | strobeWidthExpiry
deriving DecidableEq, Repr

end Sys2Proof
end

