-- ==== Sys2Proof/Decode.lean ====
section
/-!
DEFINITION. Words of the opcode table. The table gives no row any bits: the part has no instruction words, and its commands
are events of its pins and frames of its console link. So no word spells a command. The frames of the console link, which
do have a byte layout, are read in Machine/ConsoleLink.lean and taken by Machine/Ops.lean.
-/
namespace Sys2Proof

/-- The command that a word of the table spells: none, since spec/opcode_table.json gives no row any bits. -/
def decodeTableWord (_nbits _w : Nat) : Option Instr := none

end Sys2Proof
end

