-- ==== Sys2Proof/Config.lean ====
section
/-!
DEFINITION. What is fixed for the machine: the sizes and limits the manual states, and the one free value of the model,
the order in which events of one tick are taken.
-/
namespace Sys2Proof.Config

/-- FREE VALUE (log entry 2). Where several events are due at one tick the manual lets them be taken in either order
(R9, R12, R35, R46, R53, R74, R94, R106, R123, R137, R158). The machine's own choice of the next one is this function
of a counter: it has no body, so a claim holds whichever order is taken. -/
opaque pick : Nat → Nat

/-- Lanes 0 to 9 (R4). -/
def laneCount : Nat := 10

/-- Sense lines 0 to 60 (R4). -/
def lineCount : Nat := 61

/-- Scoreboard rows 0 to 21 (section 8.1). -/
def rowCount : Nat := 22

/-- The largest race time, displayed 99:59.9999 (R54). -/
def clockLimit : Nat := 59999999

/-- The longest deglitch time, after which a leading edge is known to lie past the limit tick (R55). -/
def maxDeglitch : Nat := 250

/-- The reaction phase of a DIVE start, and the bound of every signed quantity, in ticks (R43, R47, R102). -/
def reactionPhase : Nat := 30000

/-- The notice queue holds at most 32 notices (R170). -/
def noticeCapacity : Nat := 32

/-- The alarm list holds at most 16 entries (R176). -/
def alarmCapacity : Nat := 16

/-- The receive buffer holds up to four frames (R168). -/
def bufferCapacity : Nat := 4

/-- The longest payload of a frame (R166). -/
def maxPayload : Nat := 240

/-- The gap between received bytes that a frame survives, in ticks (R167). -/
def receiveGap : Nat := 200

/-- The claim window, in ticks (R149). -/
def claimWindow : Nat := 10

/-- The bound of the refresh balance (R136). -/
def balanceBound : Int := 8

/-- The family code in the STATUS reply (R173). -/
def familyCode : Byte := 0x3A

/-- The revision in the STATUS reply (R173). -/
def revision : Byte := 2

end Sys2Proof.Config
end

