-- ==== Sys2Proof/Machine/State.lean ====
section
/-!
DEFINITION. The state of the PT-210 as plain data, block by block as 00_scope.md lists them: the timebase, the Capture Unit,
the Race Engine, the Board Link Controller, the Board Share Unit, the Lamp Unit and the Console Link Controller; the input
pins; the queue of waiting commands; and the state after power-on (R21, R37, R147, R157, R159, R178).
-/
namespace Sys2Proof.Machine

/-! ## Options (sections 1.2, 8.4, 9.2, 10.1; layout in section 11.9) -/

/-- The polarity of a line class or of FLAG. -/
inductive Polarity where
  | normal | inverted
deriving DecidableEq, Repr

/-- The START trigger edge (section 1.2). -/
inductive TriggerEdge where
  | onActivate | onRelease
deriving DecidableEq, Repr

/-- The board mode: FULL (R140), PARTIAL (R141), STROBE (R142). -/
inductive BoardMode where
  | fullMode | partialMode | strobeMode
deriving DecidableEq, Repr

/-- The PARTIAL accept transition (R141). -/
inductive Accept where
  | readyToBusy | busyToReady
deriving DecidableEq, Repr

/-- The options record (R174), its 27 fields in the order of section 11.9. -/
structure Options where
  polPad        : Polarity
  polButton     : Polarity
  polBlock      : Polarity
  polStart      : Polarity
  trigger       : TriggerEdge
  deglitchPad    : Nat
  deglitchButton : Nat
  deglitchBlock  : Nat
  deglitchStart  : Nat
  padHold       : Nat
  stuckTime     : Nat
  boardMode     : BoardMode
  flagPolarity  : Polarity
  accept        : Accept
  settle        : Nat
  strobeWidth   : Nat
  byteTimeout   : Nat
  refresh       : Nat
  splitHold     : Nat
  yieldOnRequest : Bool
  takeWhenFree   : Bool
  takeWait      : Nat
  flashWidth    : Nat
  alertWidth    : Nat
  offDelay      : Nat
  bellWidth     : Nat
  recordWidth   : Nat
deriving DecidableEq, Repr

/-- The power-on defaults (section 1.2, R147, R157, section 10.1). -/
def Options.powerOn : Options where
  polPad := .normal
  polButton := .normal
  polBlock := .normal
  polStart := .normal
  trigger := .onActivate
  deglitchPad := 20
  deglitchButton := 50
  deglitchBlock := 100
  deglitchStart := 5
  padHold := 2000
  stuckTime := 50000
  boardMode := .fullMode
  flagPolarity := .normal
  accept := .readyToBusy
  settle := 1
  strobeWidth := 2
  byteTimeout := 1000
  refresh := 11000
  splitHold := 100000
  yieldOnRequest := true
  takeWhenFree := false
  takeWait := 20000
  flashWidth := 2000
  alertWidth := 30000
  offDelay := 50000
  bellWidth := 3000
  recordWidth := 100000

/-- A timer: its start tick and its length (R2). -/
structure Timer where
  start : Tick
  width : Nat
deriving DecidableEq, Repr

/-! ## Capture Unit (section 1.3) -/

/-- The class of a sense line (R4). -/
inductive LineClass where
  | pad | button | block | start
deriving DecidableEq, Repr

/-- A change seen but not yet confirmed (R6): its leading-edge tick and its candidate level. -/
structure PendingEdge where
  lead   : Tick
  active : Bool
deriving DecidableEq, Repr

/-- The re-arm state of a line: READY, WAIT_RELEASE and HOLD of a pad (R11), READY and WAIT_RELEASE of a button (R10),
READY, ACTIVE and HELD of START (R13). A BLOCK line has none (R14). -/
inductive ReArm where
  | ready
  | waitRelease
  | hold (start : Tick)
  | active
  | held
  | unused
deriving DecidableEq, Repr

/-- What each line holds (section 1.3). -/
structure Line where
  active      : Bool                -- edge memory: the confirmed level
  pendingEdge : Option PendingEdge
  stuck       : Bool                -- line state STUCK, else NORMAL
  activeSince : Tick
  rearm       : ReArm
  masked      : Bool
deriving DecidableEq, Repr

/-! ## Race Engine: the race record (R22) -/

inductive RaceState where
  | idle | loaded | armed | running | unofficial | official
deriving DecidableEq, Repr

inductive EventKind where
  | individual | relay
deriving DecidableEq, Repr

inductive StartKind where
  | dive | water
deriving DecidableEq, Repr

/-- The event descriptor as stored (R28, R29). -/
structure EventDesc where
  number       : Nat
  pool         : Nat
  total        : Nat
  kind         : EventKind
  start        : StartKind
  farFitted    : Bool
  minLength    : Nat
  buttons      : Nat
  window       : Nat
  disagreement : Nat
  defaultLag   : Nat
  tolerance    : Nat
  recallWindow : Nat
  title        : List Byte
deriving DecidableEq, Repr

/-- An entry of the lag sample list (R84). -/
structure LagSample where
  lane  : Nat
  delta : Nat
deriving DecidableEq, Repr

inductive Relation where
  | better | matchOrBetter
deriving DecidableEq, Repr

/-- A record slot (R22, R33): the reference is held in hundredths. -/
structure RecordSlot where
  enabled   : Bool
  label     : Byte
  reference : Nat
  relation  : Relation
deriving DecidableEq, Repr

/-- The cleared record slot (R22). -/
def RecordSlot.cleared : RecordSlot :=
  { enabled := false, label := 0x20, reference := 0, relation := .better }

/-- The race record (R22). `pastLimit` is the model's own: it holds from the first tick at which the interval from the limit
tick exceeds 250 ticks until the race leaves RUNNING (R55; log entry 11). -/
structure Race where
  state     : RaceState
  event     : Option EventDesc
  startTick : Option Tick
  limitMark : Bool
  pastLimit : Bool
  lags      : List LagSample
  ranking   : List Nat
  slots     : List RecordSlot
deriving DecidableEq, Repr

/-- The cleared race record (R22). -/
def Race.cleared : Race where
  state := .idle
  event := none
  startTick := none
  limitMark := false
  pastLimit := false
  lags := []
  ranking := []
  slots := List.replicate 4 RecordSlot.cleared

/-! ## Race Engine: the lane records (R22, R23) -/

inductive LaneState where
  | vacant | ready | set | swimming | finishing | finished | review | dns | dnf
deriving DecidableEq, Repr

inductive PoolEnd where
  | near | far
deriving DecidableEq, Repr

inductive FarTiming where
  | fitted | untimed
deriving DecidableEq, Repr

inductive Tracking where
  | empty | loaded | released
deriving DecidableEq, Repr

inductive SplitKind where
  | timed | missed | untimed | inserted | final
deriving DecidableEq, Repr

/-- A split list entry (R58). -/
structure Split where
  length : Nat
  kind   : SplitKind
  time   : Option Nat
  fin    : PoolEnd
  overMark : Bool
deriving DecidableEq, Repr

/-- A race time with its over-range mark: pad evidence, a button press or the first evidence (R76). -/
structure Evidence where
  time : Nat
  overMark : Bool
deriving DecidableEq, Repr

inductive ResultSource where
  | none | pad | backup | manual
deriving DecidableEq, Repr

inductive ReviewReason where
  | none | padLate | padEarly
deriving DecidableEq, Repr

inductive ExchangeStatus where
  | none | pending | ok | early | unjudged
deriving DecidableEq, Repr

/-- An exchange record (R96). -/
structure Exchange where
  takeoff : Option Nat
  margin  : Option Int
  status  : ExchangeStatus
deriving DecidableEq, Repr

/-- The blank exchange (R96). -/
def Exchange.blank : Exchange := { takeoff := none, margin := none, status := .none }

/-- A lane record (section 2.2). `window` is the lane's backup window, a timer of the Race Engine (R78). -/
structure Lane where
  state             : LaneState
  stateAtArm        : Option LaneState
  dq                : Bool
  text              : List Byte
  earlyRelease      : Bool
  blockEmptyAtArm   : Bool
  overrange         : Bool
  countDoubt        : Bool
  farTiming         : FarTiming
  tracking          : Tracking
  takeoffs          : Nat
  reactionTick      : Option Tick
  reaction          : Option Int
  done              : Nat
  splits            : List Split
  misses            : Nat
  pad               : Option Evidence
  press1            : Option Evidence
  press2            : Option Evidence
  press3            : Option Evidence
  first             : Option Evidence
  consensus         : Option Nat
  lagUsed           : Nat
  candidate         : Option Nat
  source            : ResultSource
  reason            : ReviewReason
  place             : Option Nat
  records           : List Nat
  exchange1         : Exchange
  exchange2         : Exchange
  exchange3         : Exchange
  window            : Option Timer
deriving DecidableEq, Repr

/-- The blank lane record (R23), with no backup window. -/
def Lane.blank : Lane where
  state := .vacant
  stateAtArm := none
  dq := false
  text := []
  earlyRelease := false
  blockEmptyAtArm := false
  overrange := false
  countDoubt := false
  farTiming := .fitted
  tracking := .empty
  takeoffs := 0
  reactionTick := none
  reaction := none
  done := 0
  splits := []
  misses := 0
  pad := none
  press1 := none
  press2 := none
  press3 := none
  first := none
  consensus := none
  lagUsed := 0
  candidate := none
  source := .none
  reason := .none
  place := none
  records := []
  exchange1 := Exchange.blank
  exchange2 := Exchange.blank
  exchange3 := Exchange.blank
  window := none

/-! ## Board Link Controller (section 8) -/

/-- What the data lines and STB are driven to (R139). -/
structure Drive where
  data : Byte
  stb  : Bool
deriving DecidableEq, Repr

/-- Where the byte being passed stands in its handshake (R140 to R142). -/
inductive BytePhase where
  | waitReady     -- FULL, step 1
  | settle        -- the settle time before STB
  | waitAccept    -- FULL step 4, PARTIAL step 3
  | strobe        -- STROBE step 2
  | settleAfter   -- STROBE step 3
deriving DecidableEq, Repr

/-- The row in transmission (R134, R139): its number, whether it was chosen as the round-robin row, its changed-while-sending
flag, the bytes from the one being passed on, the phase and the tick the phase began, and the board options it started with. -/
structure Sending where
  row          : Nat
  roundRobin   : Bool
  changed      : Bool
  bytes        : List Byte
  phase        : BytePhase
  since        : Tick
  mode         : BoardMode
  flagPolarity : Polarity
  accept       : Accept
  settle       : Nat
  strobeWidth  : Nat
  byteTimeout  : Nat
deriving DecidableEq, Repr

/-- The Board Link Controller. `drive` is what the data lines and STB carry, none while they are high-impedance (R148).
`slot` is the start tick of the slot timer, none while it is stopped. `slotPeriod` is the period against which the slot in
progress is measured at this tick (R135; log entry 6). -/
structure Board where
  mask       : List Bool
  footer     : List Byte
  queue      : List Nat
  pointer    : Nat
  balance    : Int
  slot       : Option Tick
  slotPeriod : Nat
  holds      : List (Option Timer)
  sending    : Option Sending
  drive      : Option Drive
deriving DecidableEq, Repr

/-- The Board Link Controller's power-on state (R147). -/
def Board.powerOn : Board where
  mask := List.replicate 22 false
  footer := []
  queue := []
  pointer := 0
  balance := 0
  slot := none
  slotPeriod := 500
  holds := List.replicate 10 none
  sending := none
  drive := none

/-! ## Board Share Unit (section 9) -/

inductive Ownership where
  | free | owning | partnerOwns | asking | forcing
deriving DecidableEq, Repr

/-- The Board Share Unit. `claim` and `takeWait` hold the start tick of their timer while it runs. `reqRun` says that the
unit, OWNING, has already read REQ_IN active in the present run of samples (R154; log entry 19), and `reqDue` that this tick's
sample of REQ_IN, active at a unit OWNING when the tick began, has not yet been read (log entry 18). -/
structure Share where
  state          : Ownership
  unitA          : Bool
  claim          : Option Tick
  takeWait       : Option Tick
  force          : Bool
  yieldPending   : Bool
  releasePending : Bool
  reqRun         : Bool
  reqDue         : Bool
deriving DecidableEq, Repr

/-! ## Lamp Unit (section 10) -/

inductive LampKind where
  | pulse | extended | offDelay
deriving DecidableEq, Repr

/-- A function timer (R159): its kind, its FINAL_LENGTH input (off for the other kinds) and, while it runs, its start tick
and width. -/
structure LampTimer where
  kind  : LampKind
  input : Bool
  run   : Option Timer
deriving DecidableEq, Repr

/-- A stopped function timer with its input off. -/
def LampTimer.stopped (k : LampKind) : LampTimer := { kind := k, input := false, run := none }

/-- The 32 function timers (R159). -/
structure Lamps where
  startFlash   : List LampTimer
  takeoffAlert : List LampTimer
  finalLength  : List LampTimer
  bell         : LampTimer
  record       : LampTimer
deriving DecidableEq, Repr

/-- Every timer stopped and every input off (R159). -/
def Lamps.powerOn : Lamps where
  startFlash := List.replicate 10 (LampTimer.stopped .pulse)
  takeoffAlert := List.replicate 10 (LampTimer.stopped .extended)
  finalLength := List.replicate 10 (LampTimer.stopped .offDelay)
  bell := LampTimer.stopped .pulse
  record := LampTimer.stopped .extended

/-! ## Console Link Controller (section 11) -/

/-- A frame without its lead byte and check: kind, tag and payload (R166). -/
structure Frame where
  kind    : Byte
  tag     : Byte
  payload : List Byte
deriving DecidableEq, Repr

/-- The receiver (R167): HUNT, LENGTH, or BODY with the number of further bytes it expects. -/
inductive RxState where
  | hunt | length | body (n : Nat)
deriving DecidableEq, Repr

/-- The receiver with the bytes it holds, the lead byte first, and the tick of the latest byte received on the line. -/
structure Receiver where
  state : RxState
  held  : List Byte
  last  : Tick
deriving DecidableEq, Repr

/-- Which of its three sources a message being sent comes from (R169). -/
inductive TxSource where
  | watchAnswer | reply | notice
deriving DecidableEq, Repr

/-- The message on TXD: its source, its bytes, and the tick the transmitter started it with the ticks it takes (R166). -/
structure Sent where
  source : TxSource
  bytes  : List Byte
  timer  : Timer
deriving DecidableEq, Repr

/-- A pending watch: its tag and its snapshot (R171). -/
structure Watch where
  tag      : Byte
  snapshot : List Byte
deriving DecidableEq, Repr

inductive AlarmKind where
  | padStuck | buttonStuck | startStuck | boardStall | boardOverdue | boardLost | clockLimit
deriving DecidableEq, Repr

/-- An entry of the alarm list (R176). -/
structure Alarm where
  kind  : AlarmKind
  lane  : Option Nat
  first : Tick
  last  : Tick
deriving DecidableEq, Repr

/-- The Console Link Controller. The flag WATCH_PENDING is `watch.isSome` (R171). `requestTaken` says that a request has been
taken at this tick (R168). `resetPending` holds from the taking of RESET until the reset takes effect, and `resetDue` once the
last byte of its reply has ended (R178). -/
structure Link where
  receiver     : Receiver
  buffer       : List Frame
  reply        : Option Frame
  watchAnswer  : Option Frame
  notices      : List Frame
  sent         : Option Sent
  watch        : Option Watch
  noticesLost  : Bool
  alarmFull    : Bool
  alarms       : List Alarm
  rate1        : Bool
  rate0        : Bool
  requestTaken : Bool
  resetPending : Bool
  resetDue     : Bool
deriving DecidableEq, Repr

/-- The Console Link Controller's power-on state with the straps read (R178). -/
def Link.powerOn (st : Straps) : Link where
  receiver := { state := .hunt, held := [], last := 0 }
  buffer := []
  reply := none
  watchAnswer := none
  notices := []
  sent := none
  watch := none
  noticesLost := false
  alarmFull := false
  alarms := []
  rate1 := st.rate1
  rate0 := st.rate0
  requestTaken := false
  resetPending := false
  resetDue := false

/-! ## The machine -/

/-- The state of the PT-210.

`pending` is the queue of waiting commands and `pinFeed` the levels that the input pins take at the coming ticks, first in,
first out: both belong to the outside. `due` and `shareDue` hold what the samples of the present tick make due and has not
yet been taken, and `picks` counts the free choices made (log entries 1, 2, 18). `tested` holds the options against which
samples and running timers are tested at this tick (log entry 6), and `reloads` the classes whose polarity has changed since
the last sample, for PAD, BUTTON, BLOCK and START (R5). `flagBefore` is FLAG at the sample of the tick before (R141). -/
structure State where
  pending    : List Instr
  pinFeed    : List Pins
  due        : List Instr
  shareDue   : Bool
  picks      : Nat
  tick       : Tick
  pins       : Pins
  flagBefore : Bool
  options    : Options
  tested     : Options
  reloads    : List LineClass
  lines      : List Line
  race       : Race
  lanes      : List Lane
  board      : Board
  share      : Share
  lamps      : Lamps
  link       : Link
deriving DecidableEq, Repr

/-- Why the machine stops with a fault. -/
inductive Fault where
  /-- Raised by a command that names a sense line other than 0 to 60 (R4: the part has no such line). Safe: the command names
  nothing the hardware has. -/
  | noSuchLine (line : Nat)
  /-- Raised by a command that names a lane other than 0 to 9 (R4: the part has no such lane). Safe: the command names nothing
  the hardware has. -/
  | noSuchLane (lane : Nat)
deriving DecidableEq, Repr

/-- Why a command has no meaning. -/
inductive Refusal where
  /-- Raised by exec's arm of a command that has no meaning in the model. Safe. No command is left without one. -/
  | notModelled (mnemonic : String)
deriving DecidableEq, Repr

/-- Every input pin low: the levels that State.reset presumes at tick 0 (log entry 5). -/
def Pins.low : Pins where
  lines := List.replicate 61 false
  flag := false
  share := { own := false, req := false, force := false }
  straps := { pos := false, rate1 := false, rate0 := false }

/-- A line of class PAD, BUTTON or START loaded inactive, and a BLOCK line loaded inactive (R21). -/
def Line.loadedInactive (rearm : ReArm) : Line where
  active := false
  pendingEdge := none
  stuck := false
  activeSince := 0
  rearm := rearm
  masked := false

/-- The six lines of a lane port, loaded inactive: two pads, three buttons and the block (R4, R21). -/
def Line.portInactive : List Line :=
  List.replicate 5 (Line.loadedInactive .ready) ++ [Line.loadedInactive .unused]

/-- The state right after reset: the timebase at 0 (R1), every block in its power-on state (R21, R37, R147, R157, R159, R178)
and the first sample, tick 0, taken with every input pin low (log entry 5). -/
def State.reset : State where
  pending := []
  pinFeed := []
  due := []
  shareDue := false
  picks := 0
  tick := 0
  pins := Pins.low
  flagBefore := false
  options := Options.powerOn
  tested := Options.powerOn
  reloads := []
  lines := (List.replicate 10 Line.portInactive).flatten ++ [Line.loadedInactive .ready]
  race := Race.cleared
  lanes := List.replicate 10 Lane.blank
  board := Board.powerOn
  share :=
    { state := .free, unitA := false, claim := none, takeWait := none, force := false,
      yieldPending := false, releasePending := false, reqRun := false, reqDue := false }
  lamps := Lamps.powerOn
  link := Link.powerOn Pins.low.straps

end Sys2Proof.Machine
end

