-- ==== Sys2Proof/Machine/Operands.lean ====
section
/-!
DEFINITION. Operand forms: the numbering of the sense lines (R4), multibyte numbers and sets of a message, the one-byte codes
of section 11.9, and the fields of a request's payload.
-/
namespace Sys2Proof.Machine

/-! ## Sense lines (R4) -/

/-- The class of line `n`: 60 is START; in a lane port 0 and 1 are pads, 2 to 4 buttons, 5 the block (R4). -/
def lineClass (n : Nat) : LineClass :=
  if n = 60 then .start
  else if n % 6 < 2 then .pad
  else if n % 6 < 5 then .button
  else .block

/-- The lane whose port holds line `n` (R4). -/
def lineLane (n : Nat) : Nat := n / 6

/-- The end of the pad on line `n`: FAR_PAD is 6n, NEAR_PAD 6n + 1 (R4). -/
def lineEnd (n : Nat) : PoolEnd := if n % 6 = 0 then .far else .near

/-- The button number of line `n`: BTN1 is 6n + 2 (R4). -/
def lineButton (n : Nat) : Nat := n % 6 - 1

/-- The line of a lane's pad at an end (R4). -/
def padLine (lane : Nat) (e : PoolEnd) : Nat :=
  match e with
  | .far => 6 * lane
  | .near => 6 * lane + 1

/-- The line of button `b` of a lane (R4). -/
def buttonLine (lane b : Nat) : Nat := 6 * lane + 1 + b

/-- The line of a lane's block (R4). -/
def blockLine (lane : Nat) : Nat := 6 * lane + 5

/-! ## Numbers and sets in messages (section 11.9: most significant byte first) -/

/-- The last `n` bytes of a number, most significant first. -/
def bytesOf : Nat → Nat → List Byte
  | 0, _ => []
  | n + 1, x => BitVec.ofNat 8 (x / 256 ^ n) :: bytesOf n x

/-- The number that bytes spell, most significant first. -/
def numberOf (bs : List Byte) : Nat := bs.foldl (fun acc b => acc * 256 + b.toNat) 0

/-- The number in `len` bytes of a payload from offset `at0` on. -/
def field (p : List Byte) (at0 len : Nat) : Nat := numberOf ((p.drop at0).take len)

/-- The byte of a payload at an offset. -/
def byteAt (p : List Byte) (at0 : Nat) : Byte := p.getD at0 0

/-- One byte of a small number. -/
def byte (n : Nat) : Byte := BitVec.ofNat 8 n

/-- A flag as a byte: yes, on and set are 1. -/
def flagByte (b : Bool) : Byte := if b then 1 else 0

/-- A time, or 0xFFFFFFFF where it is absent. -/
def timeBytes (t : Option Nat) : List Byte := bytesOf 4 (t.getD 0xFFFFFFFF)

/-- A tick, or 0xFFFFFFFF where it is absent. -/
def tickBytes (t : Option Tick) : List Byte := timeBytes (t.map (·.toNat))

/-- A signed value in two's complement, or 0x80000000 where it is absent. -/
def signedBytes (v : Option Int) : List Byte :=
  match v with
  | some x => bytesOf 4 (BitVec.ofInt 32 x).toNat
  | none => bytesOf 4 0x80000000

/-- A lane, or 0xFF for none. -/
def laneByte (l : Option Nat) : Byte :=
  match l with
  | some n => byte n
  | none => 0xFF

/-- The number whose bit n says whether `f n` holds, for n below `k`. -/
def setBits (f : Nat → Bool) : Nat → Nat
  | 0 => 0
  | k + 1 => setBits f k + (if f k then 2 ^ k else 0)

/-- A lane set: two bytes whose bit n stands for lane n (section 11.9). -/
def laneSet (f : Nat → Bool) : List Byte := bytesOf 2 (setBits f 10)

/-- A line set: eight bytes whose bit m stands for line m (section 11.9). -/
def lineSet (f : Nat → Bool) : List Byte := bytesOf 8 (setBits f 61)

/-! ## Codes (section 11.9, enumerations) -/

/-- The reply codes. -/
inductive ReplyCode where
  | ok | clamped | wrongState | badLength | badLane | outOfRange | badEvent | noLanes | tooLate | noSource | reviewOpen
  | busy | unknownKind | cancelled
deriving DecidableEq, Repr

def replyCodeByte (c : ReplyCode) : Byte :=
  match c with
  | .ok => 0 | .clamped => 1 | .wrongState => 2 | .badLength => 3 | .badLane => 4 | .outOfRange => 5 | .badEvent => 6
  | .noLanes => 7 | .tooLate => 8 | .noSource => 9 | .reviewOpen => 10 | .busy => 11 | .unknownKind => 12
  | .cancelled => 13

def raceCode (r : RaceState) : Byte :=
  match r with
  | .idle => 0 | .loaded => 1 | .armed => 2 | .running => 3 | .unofficial => 4 | .official => 5

def laneCode (l : LaneState) : Byte :=
  match l with
  | .vacant => 0 | .ready => 1 | .set => 2 | .swimming => 3 | .finishing => 4 | .finished => 5 | .review => 6
  | .dns => 7 | .dnf => 8

def ownershipCode (o : Ownership) : Byte :=
  match o with
  | .free => 0 | .owning => 1 | .partnerOwns => 2 | .asking => 3 | .forcing => 4

def splitCode (k : SplitKind) : Byte :=
  match k with
  | .timed => 0 | .missed => 1 | .untimed => 2 | .inserted => 3 | .final => 4

def exchangeCode (e : ExchangeStatus) : Byte :=
  match e with
  | .none => 0 | .pending => 1 | .ok => 2 | .early => 3 | .unjudged => 4

def sourceCode (r : ResultSource) : Byte :=
  match r with
  | .none => 0 | .pad => 1 | .backup => 2 | .manual => 3

def reasonCode (r : ReviewReason) : Byte :=
  match r with
  | .none => 0 | .padLate => 1 | .padEarly => 2

def alarmCode (k : AlarmKind) : Byte :=
  match k with
  | .padStuck => 1 | .buttonStuck => 2 | .startStuck => 3 | .boardStall => 4 | .boardOverdue => 5 | .boardLost => 6
  | .clockLimit => 7

/-- The reasons of a LINK_ERROR notice. -/
inductive LinkError where
  | check | length | timeout | overrun
deriving DecidableEq, Repr

def linkErrorCode (e : LinkError) : Byte :=
  match e with
  | .check => 0 | .length => 1 | .timeout => 2 | .overrun => 3

/-- The reasons of a BOARD notice (R156). -/
inductive BoardReason where
  | taken | withdrawn | partnerTook | asking | forcing | takeFailed | yielded | lost | released | free | asked
deriving DecidableEq, Repr

def boardReasonCode (r : BoardReason) : Byte :=
  match r with
  | .taken => 0 | .withdrawn => 1 | .partnerTook => 2 | .asking => 3 | .forcing => 4 | .takeFailed => 5 | .yielded => 6
  | .lost => 7 | .released => 8 | .free => 9 | .asked => 10

/-- The four codes of the comparison of two times (R107). -/
inductive Comparison where
  | less | equal | greater | unordered
deriving DecidableEq, Repr

def comparisonCode (c : Comparison) : Byte :=
  match c with
  | .less => 0 | .equal => 1 | .greater => 2 | .unordered => 3

def farTimingCode (f : FarTiming) : Byte :=
  match f with
  | .fitted => 0 | .untimed => 1

def trackingCode (t : Tracking) : Byte :=
  match t with
  | .empty => 0 | .loaded => 1 | .released => 2

def polarityCode (p : Polarity) : Byte :=
  match p with
  | .normal => 0 | .inverted => 1

def triggerCode (t : TriggerEdge) : Byte :=
  match t with
  | .onActivate => 0 | .onRelease => 1

def boardModeCode (m : BoardMode) : Byte :=
  match m with
  | .fullMode => 0 | .partialMode => 1 | .strobeMode => 2

def acceptCode (a : Accept) : Byte :=
  match a with
  | .readyToBusy => 0 | .busyToReady => 1

def eventKindCode (k : EventKind) : Byte :=
  match k with
  | .individual => 0 | .relay => 1

def startKindCode (k : StartKind) : Byte :=
  match k with
  | .dive => 0 | .water => 1

/-- The POS strap in messages: 0 for unit A, 1 for unit B. -/
def posCode (unitA : Bool) : Byte := if unitA then 0 else 1

/-! ## Texts (R32) -/

/-- A byte outside 0x20 to 0x7E is stored as a space (R32). -/
def textByte (b : Byte) : Byte := if 0x20 ≤ b.toNat ∧ b.toNat ≤ 0x7E then b else 0x20

/-- The first `n` characters of a text, each as R32 stores it. -/
def storedText (n : Nat) (bs : List Byte) : List Byte := (bs.take n).map textByte

/-! ## The options record (section 11.9, R174) -/

/-- A number held to a range by the nearer end. -/
def clamp (lo hi x : Nat) : Nat := if x < lo then lo else if hi < x then hi else x

/-- The enumerated fields of the options record: number, offset and the number of values of its set (R174). -/
def optionEnums : List (Nat × Nat × Nat) :=
  [(1, 0, 2), (2, 1, 2), (3, 2, 2), (4, 3, 2), (5, 4, 2), (12, 15, 3), (13, 16, 2), (14, 17, 2), (20, 28, 2), (21, 29, 2)]

/-- The number of the first enumerated field outside its set, in field-number order (R174). -/
def badOption (p : List Byte) : Option Nat :=
  (optionEnums.find? (fun e => decide (e.2.2 ≤ (byteAt p e.2.1).toNat))).map (·.1)

def polarityAt (p : List Byte) (i : Nat) : Polarity := if byteAt p i = 0 then .normal else .inverted

/-- The options record of a payload whose enumerated fields are valid, each numeric field held to its range (R174;
ranges in section 1.2 and in R129, R135, R140, R142, R143, R153 and section 10.1). -/
def optionsOf (p : List Byte) : Options where
  polPad := polarityAt p 0
  polButton := polarityAt p 1
  polBlock := polarityAt p 2
  polStart := polarityAt p 3
  trigger := if byteAt p 4 = 0 then .onActivate else .onRelease
  deglitchPad := clamp 1 250 (field p 5 1)
  deglitchButton := clamp 1 250 (field p 6 1)
  deglitchBlock := clamp 1 250 (field p 7 1)
  deglitchStart := clamp 1 250 (field p 8 1)
  padHold := clamp 100 10000 (field p 9 2)
  stuckTime := clamp 10000 600000 (field p 11 4)
  boardMode := if byteAt p 15 = 0 then .fullMode else if byteAt p 15 = 1 then .partialMode else .strobeMode
  flagPolarity := polarityAt p 16
  accept := if byteAt p 17 = 0 then .readyToBusy else .busyToReady
  settle := clamp 1 50 (field p 18 1)
  strobeWidth := clamp 1 50 (field p 19 1)
  byteTimeout := clamp 10 10000 (field p 20 2)
  refresh := clamp 2000 60000 (field p 22 2)
  splitHold := clamp 0 300000 (field p 24 4)
  yieldOnRequest := decide (byteAt p 28 = 1)
  takeWhenFree := decide (byteAt p 29 = 1)
  takeWait := clamp 1000 100000 (field p 30 4)
  flashWidth := clamp 500 20000 (field p 34 2)
  alertWidth := clamp 1000 100000 (field p 36 4)
  offDelay := clamp 0 100000 (field p 40 4)
  bellWidth := clamp 100 20000 (field p 44 2)
  recordWidth := clamp 10000 600000 (field p 46 4)

/-- The 50 bytes of the options record (section 11.9). -/
def optionsBytes (o : Options) : List Byte :=
  [polarityCode o.polPad, polarityCode o.polButton, polarityCode o.polBlock, polarityCode o.polStart,
   triggerCode o.trigger, byte o.deglitchPad, byte o.deglitchButton, byte o.deglitchBlock, byte o.deglitchStart]
  ++ bytesOf 2 o.padHold ++ bytesOf 4 o.stuckTime
  ++ [boardModeCode o.boardMode, polarityCode o.flagPolarity, acceptCode o.accept, byte o.settle, byte o.strobeWidth]
  ++ bytesOf 2 o.byteTimeout ++ bytesOf 2 o.refresh ++ bytesOf 4 o.splitHold
  ++ [flagByte o.yieldOnRequest, flagByte o.takeWhenFree]
  ++ bytesOf 4 o.takeWait ++ bytesOf 2 o.flashWidth ++ bytesOf 4 o.alertWidth ++ bytesOf 4 o.offDelay
  ++ bytesOf 2 o.bellWidth ++ bytesOf 4 o.recordWidth

/-- Some numeric field of a 50-byte record was replaced: the record as stored differs from the record as sent (R174). -/
def optionsClamped (p : List Byte) : Bool := decide (optionsBytes (optionsOf p) ≠ p)

/-! ## The event record (section 11.9, R28, R29) -/

/-- The number of the first field of a descriptor that refuses it, in number order (R28). -/
def badEventField (p : List Byte) : Option Nat :=
  if field p 0 2 < 1 ∨ 9999 < field p 0 2 then some 1
  else if field p 2 1 ≠ 25 ∧ field p 2 1 ≠ 50 then some 2
  else if field p 3 1 < 1 ∨ 60 < field p 3 1 then some 3
  else if 1 < field p 4 1 ∨ (field p 4 1 = 1 ∧ field p 3 1 % 8 ≠ 0) then some 4
  else if 1 < field p 5 1 then some 5
  else if 1 < field p 6 1 then some 6
  else if 3 < field p 11 1 then some 8
  else none

/-- The descriptor as stored: timing fields held to their ranges, the default lag to the stored disagreement limit, the
title cut to 24 characters (R29). -/
def eventOf (p : List Byte) : EventDesc where
  number := field p 0 2
  pool := field p 2 1
  total := field p 3 1
  kind := if byteAt p 4 = 0 then .individual else .relay
  start := if byteAt p 5 = 0 then .dive else .water
  farFitted := decide (byteAt p 6 = 0)
  minLength := clamp 50000 600000 (field p 7 4)
  buttons := field p 11 1
  window := clamp 30000 300000 (field p 12 4)
  disagreement := clamp 500 10000 (field p 16 2)
  defaultLag := min (clamp 0 10000 (field p 18 2)) (clamp 500 10000 (field p 16 2))
  tolerance := clamp 0 1000 (field p 20 2)
  recallWindow := clamp 0 600000 (field p 22 4)
  title := storedText 24 (p.drop 26)

/-- Fields 1 to 13 of the event record: 26 bytes (section 11.9). -/
def eventFixedBytes (e : EventDesc) : List Byte :=
  bytesOf 2 e.number ++ [byte e.pool, byte e.total, eventKindCode e.kind, startKindCode e.start, flagByte (!e.farFitted)]
  ++ bytesOf 4 e.minLength ++ [byte e.buttons] ++ bytesOf 4 e.window ++ bytesOf 2 e.disagreement
  ++ bytesOf 2 e.defaultLag ++ bytesOf 2 e.tolerance ++ bytesOf 4 e.recallWindow

/-- The event record: fields 1 to 13 and the title's stored characters (section 11.9). -/
def eventBytes (e : EventDesc) : List Byte := eventFixedBytes e ++ e.title

/-- Some field of 7, 9, 10, 11, 12 and 13 was changed in storing the descriptor (R29). -/
def eventClamped (p : List Byte) : Bool := decide (eventFixedBytes (eventOf p) ≠ p.take 26)

/-! ## The request table (section 11.9) -/

/-- The kinds of the request table. -/
def knownKinds : List Byte :=
  [0x01, 0x02, 0x03, 0x04, 0x05, 0x08, 0x09, 0x0A, 0x0B, 0x10, 0x11, 0x12, 0x13, 0x14, 0x15, 0x16, 0x17, 0x18, 0x19, 0x1A,
   0x1B, 0x20, 0x21, 0x22, 0x23, 0x28, 0x29, 0x3F]

end Sys2Proof.Machine
end

