-- ==== Sys2Proof/Machine/Ops.lean ====
section
/-!
DEFINITION. The named operations that the meanings share: reading and updating a line, a lane or a row; handing a notice
(R170) or an alarm (R176); marking a row dirty (R133, R134); the lamp functions (R161 to R165); changing the race state (R25)
and a lane's state (R26); answering a watch (R171); taking a request and placing its reply (R168).
-/
namespace Sys2Proof.Machine

/-! ## Reading and updating -/

/-- Line `n`; a number beyond the list reads as an inactive line. -/
def State.line (s : State) (n : Nat) : Line := s.lines.getD n (Line.loadedInactive .unused)

/-- Lane `n`; a number beyond the list reads as the blank lane record. -/
def State.lane (s : State) (n : Nat) : Lane := s.lanes.getD n Lane.blank

def State.updLine (n : Nat) (f : Line → Line) (s : State) : State := { s with lines := s.lines.modify n f }

def State.updLane (n : Nat) (f : Lane → Lane) (s : State) : State := { s with lanes := s.lanes.modify n f }

/-- The lane numbers 0 to 9. -/
def laneNumbers : List Nat := List.range Config.laneCount

/-- Do `f n` for each listed number in turn. -/
def forEach (ns : List Nat) (f : Nat → State → State) (s : State) : State := ns.foldl (fun t n => f n t) s

/-! ## Notices and alarms -/

/-- A block hands a notice: it joins the tail of the notice queue, or is discarded with NOTICES_LOST set while 32 are held
(R170). A notice has tag 0. -/
def handNotice (kind : Byte) (payload : List Byte) (s : State) : State :=
  if s.link.notices.length < Config.noticeCapacity then
    { s with link.notices := s.link.notices ++ [{ kind := kind, tag := 0, payload := payload }] }
  else { s with link.noticesLost := true }

/-- The alarm list after an alarm that updates its entry (R176). -/
def touchAlarm (k : AlarmKind) (lane : Option Nat) (t : Tick) (l : List Alarm) : List Alarm :=
  l.map (fun a => if a.kind = k ∧ a.lane = lane then { a with last := t } else a)

/-- A block hands an alarm at the current tick: it updates its entry, or creates one with an ALARM notice, or is dropped with
ALARM_FULL set (R176). -/
def handAlarm (k : AlarmKind) (lane : Option Nat) (s : State) : State :=
  if s.link.alarms.any (fun a => decide (a.kind = k ∧ a.lane = lane)) then
    { s with link.alarms := touchAlarm k lane s.tick s.link.alarms }
  else if s.link.alarms.length < Config.alarmCapacity then
    handNotice 0x50 ([alarmCode k, laneByte lane] ++ tickBytes (some s.tick))
      { s with link.alarms := s.link.alarms ++ [{ kind := k, lane := lane, first := s.tick, last := s.tick }] }
  else { s with link.alarmFull := true }

/-! ## The dirty row queue (R133, R134) -/

/-- A row joins the tail of the queue unless it is there already (R133). -/
def joinQueue (r : Nat) (q : List Nat) : List Nat := if q.contains r then q else q ++ [r]

/-- A row's mask is set (R145). -/
def State.rowMasked (s : State) (r : Nat) : Bool := s.board.mask.getD r false

/-- A marking that is not ignored: the row joins the queue, and the changed-while-sending flag is set if the row is in
transmission (R133, R134). -/
def markAnyRow (r : Nat) (s : State) : State :=
  { s with board :=
    { s.board with
      queue := joinQueue r s.board.queue
      sending := s.board.sending.map (fun x => if x.row = r then { x with changed := true } else x) } }

/-- Mark a row dirty: ignored while the row's mask is set (R133). -/
def markRow (r : Nat) (s : State) : State := if s.rowMasked r then s else markAnyRow r s

/-- Mark a lane's row, lane + 1 (R127). -/
def markLaneRow (lane : Nat) (s : State) : State := markRow (lane + 1) s

/-- Mark a lane's row and its lap counter row, lane + 12 (R26). -/
def markLaneRows (lane : Nat) (s : State) : State := markRow (lane + 12) (markRow (lane + 1) s)

/-- Mark rows 0 to 21 in ascending order (R133). -/
def markAllRows (s : State) : State := forEach (List.range Config.rowCount) markRow s

/-- The number n of rows whose mask is clear (R135). -/
def unmaskedRows (mask : List Bool) : Nat := mask.countP (fun m => !m)

/-- The slot period R / n, remainder discarded; 0 where n is 0 (R135). -/
def State.period (s : State) : Nat := s.options.refresh / unmaskedRows s.board.mask

/-! ## Split holds (R129) -/

def State.hold (s : State) (lane : Nat) : Option Timer := s.board.holds.getD lane none

def State.setHold (lane : Nat) (h : Option Timer) (s : State) : State :=
  { s with board.holds := s.board.holds.modify lane (fun _ => h) }

/-- The split hold that starts at this tick. A hold of 0 expires at the tick it is started (R2), and the row is composed after
its end (R129): it starts and ends in one, and no row can start between (log entry 26). -/
def State.newHold (s : State) : Option Timer :=
  if s.options.splitHold = 0 then none else some { start := s.tick, width := s.options.splitHold }

/-- A TIMED split starts or restarts the lane's split hold, which marks the lane row; where the hold is 0 the marking of its end
finds the row queued already (R68, R129). -/
def startHold (lane : Nat) (s : State) : State := markLaneRow lane (s.setHold lane s.newHold)

/-- A running hold ends and marks the lane row (R129). -/
def endHold (lane : Nat) (s : State) : State :=
  if (s.hold lane).isSome then markLaneRow lane (s.setHold lane none) else s

/-- Every running hold is stopped (R146, R147). -/
def stopHolds (s : State) : State := { s with board.holds := s.board.holds.map (fun _ => none) }

/-! ## Lamp functions (R161 to R165) -/

/-- A trigger of a PULSE timer: ignored while it runs (R161). -/
def LampTimer.pulse (t : Tick) (width : Nat) (x : LampTimer) : LampTimer :=
  if x.run.isSome then x else { x with run := some { start := t, width := width } }

/-- A trigger of an EXTENDED timer: it starts, or starts again (R162). -/
def LampTimer.extend (t : Tick) (width : Nat) (x : LampTimer) : LampTimer :=
  { x with run := some { start := t, width := width } }

/-- The FINAL_LENGTH input is set on or off (R163). -/
def LampTimer.setInput (t : Tick) (width : Nat) (on : Bool) (x : LampTimer) : LampTimer :=
  if x.input = on then x
  else if on then { x with input := true, run := none }
  else { x with input := false, run := some { start := t, width := width } }

/-- Stopping a function: its timer stops and its input goes off (R165). -/
def LampTimer.stop (x : LampTimer) : LampTimer := { x with input := false, run := none }

/-- A function is on while its timer runs or its input is on (R159). -/
def LampTimer.on (x : LampTimer) : Bool := x.run.isSome || x.input

/-- START_FLASH of a lane is triggered (R44). -/
def triggerFlash (lane : Nat) (s : State) : State :=
  { s with lamps.startFlash := s.lamps.startFlash.modify lane (LampTimer.pulse s.tick s.options.flashWidth) }

/-- TAKEOFF_ALERT of a lane is triggered (R103). -/
def triggerAlert (lane : Nat) (s : State) : State :=
  { s with lamps.takeoffAlert := s.lamps.takeoffAlert.modify lane (LampTimer.extend s.tick s.options.alertWidth) }

/-- BELL is triggered (R70). -/
def triggerBell (s : State) : State := { s with lamps.bell := s.lamps.bell.pulse s.tick s.options.bellWidth }

/-- RECORD is triggered (R110). -/
def triggerRecord (s : State) : State := { s with lamps.record := s.lamps.record.extend s.tick s.options.recordWidth }

/-- A lane's FINAL_LENGTH input is set (R70, R163). -/
def setFinalInput (lane : Nat) (on : Bool) (s : State) : State :=
  { s with lamps.finalLength := s.lamps.finalLength.modify lane (LampTimer.setInput s.tick s.options.offDelay on) }

/-- STOP stops the lane lamp functions of every lane (R119, R165). -/
def stopLaneLamps (s : State) : State :=
  { s with lamps :=
    { s.lamps with
      startFlash := s.lamps.startFlash.map LampTimer.stop
      takeoffAlert := s.lamps.takeoffAlert.map LampTimer.stop
      finalLength := s.lamps.finalLength.map LampTimer.stop } }

/-- All 32 functions are stopped (R165). -/
def stopAllLamps (s : State) : State :=
  let t := stopLaneLamps s
  { t with lamps := { t.lamps with bell := t.lamps.bell.stop, record := t.lamps.record.stop } }

/-! ## Race state and lane states (R25, R26) -/

/-- The payload of a RACE_STATE notice (R25). -/
def raceStateBytes (new old : RaceState) (e : Option EventDesc) : List Byte :=
  [raceCode new, raceCode old] ++ bytesOf 2 ((e.map (·.number)).getD 0)
  ++ [byte ((e.map (·.pool)).getD 0), byte ((e.map (·.total)).getD 0)]

/-- The race state changes: row 0 is marked (R126) and a RACE_STATE notice is handed (R25). A state left as it was hands
nothing. `pastLimit` ends with RUNNING (R55). -/
def setRaceState (new : RaceState) (s : State) : State :=
  if s.race.state = new then s
  else
    handNotice 0x40 (raceStateBytes new s.race.state s.race.event)
      (markRow 0 { s with race := { s.race with state := new, pastLimit := false } })

/-- A lane's state changes: its rows are marked (R26), and a split hold ends with the lane leaving SWIMMING (R129). -/
def setLaneState (lane : Nat) (new : LaneState) (s : State) : State :=
  if (s.lane lane).state = new then s
  else
    let old := (s.lane lane).state
    let t := markLaneRows lane (s.updLane lane (fun l => { l with state := new }))
    if old = .swimming then endHold lane t else t

/-- The current 11-byte vector: the race state code and the state codes of lanes 0 to 9 (R171). -/
def State.vector (s : State) : List Byte := raceCode s.race.state :: s.lanes.map (fun l => laneCode l.state)

/-- The pending watch is answered in the watch answer slot and is no longer pending (R171, R172). -/
def answerWatch (w : Watch) (c : ReplyCode) (fields : List Byte) (s : State) : State :=
  { s with link :=
    { s.link with
      watch := none
      watchAnswer := some { kind := 0x98, tag := w.tag, payload := replyCodeByte c :: fields } } }

/-- After a command that writes the race state or a lane state: a pending watch whose snapshot differs from the current vector
is answered (R171). -/
def watchCheck (s : State) : State :=
  match s.link.watch with
  | none => s
  | some w => if s.vector = w.snapshot then s else answerWatch w .ok s.vector s

/-! ## Requests (R168) -/

/-- The kind of a reply: 0x80 added, a kind of 0x80 or above unchanged (R168). -/
def replyKind (k : Byte) : Byte := if k.toNat < 0x80 then k + 0x80 else k

/-- The reply to a frame is placed in the reply slot (R168). -/
def putReply (f : Frame) (c : ReplyCode) (fields : List Byte) (s : State) : State :=
  { s with link.reply := some { kind := replyKind f.kind, tag := f.tag, payload := replyCodeByte c :: fields } }

/-- The frame that the CLC takes at this tick: the head of the receive buffer, when the reply slot is empty, no request has
been taken at this tick (R168) and no reset is due (R178). -/
def State.requestReady (s : State) : Option Frame :=
  if s.link.reply.isNone ∧ s.link.requestTaken = false ∧ s.link.resetDue = false then s.link.buffer.head? else none

/-- The head of the receive buffer is taken and removed (R168). -/
def popRequest (s : State) : State := { s with link := { s.link with buffer := s.link.buffer.tail, requestTaken := true } }

/-- A request of kind `kind` whose payload is `mine` is taken: a payload of a length the kind does not allow is answered
BAD_LENGTH, with the fields `badFields`; otherwise the owning block acts (R168). Where the head of the buffer is no such
request, nothing happens (log entry 3). -/
def takeRequest (kind : Byte) (mine : List Byte → Bool) (lengthOk : Nat → Bool) (badFields : State → List Byte)
    (act : Frame → State → State) (s : State) : State :=
  match s.requestReady with
  | none => s
  | some f =>
    if f.kind = kind ∧ mine f.payload = true then
      if lengthOk f.payload.length then act f (popRequest s)
      else putReply f .badLength (badFields s) (popRequest s)
    else s

/-- A request all of whose frames are its own and whose BAD_LENGTH reply is the code alone. -/
def takePlain (kind : Byte) (lengthOk : Nat → Bool) (act : Frame → State → State) (s : State) : State :=
  takeRequest kind (fun _ => true) lengthOk (fun _ => []) act s

end Sys2Proof.Machine
end

