-- ==== Sys2Proof/Machine/Flags.lean ====
section
/-!
DEFINITION. Flag computations: the flags byte of STATUS (R173), the flags and marks bytes of a lane record (section 11.9), the
sets of LINE_LEVELS (R20), the output pins as functions of the state (R148, R159), and the raising of a lane's flags.
-/
namespace Sys2Proof.Machine

/-- WATCH_PENDING: a watch is pending (R171). -/
def State.watchPending (s : State) : Bool := s.link.watch.isSome

/-- The flags byte of STATUS: bit 0 NOTICES_LOST, 1 ALARM_FULL, 2 WATCH_PENDING (R173, section 11.9). -/
def statusFlags (s : State) : Byte :=
  byte ((if s.link.noticesLost then 1 else 0) + (if s.link.alarmFull then 2 else 0) + (if s.watchPending then 4 else 0))

/-- The flags byte of a lane record: bit 0 EARLY_RELEASE, 1 BLOCK_EMPTY_AT_ARM, 2 OVERRANGE, 3 COUNT_DOUBT. -/
def laneFlags (l : Lane) : Byte :=
  byte ((if l.earlyRelease then 1 else 0) + (if l.blockEmptyAtArm then 2 else 0) + (if l.overrange then 4 else 0)
    + (if l.countDoubt then 8 else 0))

/-- The FINAL entry of a split list (R58). -/
def finalEntry (l : List Split) : Option Split := l.find? (fun e => decide (e.kind = .final))

/-- A lane's result: the time of its FINAL entry (section 2.2). -/
def Lane.result (l : Lane) : Option Nat := (finalEntry l.splits).bind (·.time)

/-- The over-range mark of a piece of evidence, clear where it is absent. -/
def evidenceMark (e : Option Evidence) : Bool := (e.map (·.overMark)).getD false

/-- The marks byte of a lane record: bits 0 to 4 the over-range of pad evidence, presses 1 to 3 and first evidence, bit 5 of
the result (section 11.9). -/
def laneMarks (l : Lane) : Byte :=
  byte ((if evidenceMark l.pad then 1 else 0) + (if evidenceMark l.press1 then 2 else 0)
    + (if evidenceMark l.press2 then 4 else 0) + (if evidenceMark l.press3 then 8 else 0)
    + (if evidenceMark l.first then 16 else 0)
    + (if ((finalEntry l.splits).map (·.overMark)).getD false then 32 else 0))

/-- A record set as bits 0 to 3 (section 11.9). -/
def recordBits (r : List Nat) : Byte := byte (setBits (fun i => r.contains i) 4)

/-- A press past the clock limit, or a touch, sets OVERRANGE on the lane that takes it (R55). -/
def raiseOverrange (lane : Nat) (mark : Bool) (s : State) : State :=
  if mark then s.updLane lane (fun l => { l with overrange := true }) else s

/-! ## Output pins -/

/-- OWN_OUT: the unit owns the board or is claiming it (R148). -/
def State.ownOut (s : State) : Bool := decide (s.share.state = .owning) || s.share.claim.isSome

/-- REQ_OUT: the unit is asking or forcing, until a claim begins (R148). -/
def State.reqOut (s : State) : Bool :=
  (decide (s.share.state = .asking) || decide (s.share.state = .forcing)) && s.share.claim.isNone

/-- FORCE_OUT: the unit is forcing, until a claim begins (R148). -/
def State.forceOut (s : State) : Bool := decide (s.share.state = .forcing) && s.share.claim.isNone

/-- Lane lamp n is high while one of the lane's three functions is on (R159). -/
def State.lampOut (s : State) (lane : Nat) : Bool :=
  (s.lamps.startFlash.getD lane (LampTimer.stopped .pulse)).on
  || (s.lamps.takeoffAlert.getD lane (LampTimer.stopped .extended)).on
  || (s.lamps.finalLength.getD lane (LampTimer.stopped .offDelay)).on

/-- BELL is high while the BELL function is on (R159). -/
def State.bellOut (s : State) : Bool := s.lamps.bell.on

/-- RECORD is high while the RECORD function is on (R159). -/
def State.recordOut (s : State) : Bool := s.lamps.record.on

end Sys2Proof.Machine
end

