-- ==== Sys2Proof/Machine/Race.lean ====
section
/-!
DEFINITION. What the Race Engine does with the records, shared by its events and requests: race times (R54, R55), the split
list (R57 to R60, R68 to R70), exchanges (R95 to R104), finish resolution (R75 to R91), ranking and record checks (R107 to
R110) and the end of the race (R118).
-/
namespace Sys2Proof.Machine

/-! ## The event and the race clock -/

/-- What an absent event reads as. -/
def EventDesc.absent : EventDesc where
  number := 0
  pool := 0
  total := 0
  kind := .individual
  start := .dive
  farFitted := true
  minLength := 0
  buttons := 0
  window := 0
  disagreement := 0
  defaultLag := 0
  tolerance := 0
  recallWindow := 0
  title := []

/-- The stored event descriptor (R22). -/
def State.event (s : State) : EventDesc := s.race.event.getD EventDesc.absent

/-- Where a leading edge was seen: so many ticks before the start tick, so many after it and no later than the limit tick,
or after the limit tick (R55). -/
inductive Lead where
  | before (ticks : Nat)
  | after (ticks : Nat)
  | past
deriving DecidableEq, Repr

/-- A leading edge judged against a start tick at the tick `now`, as forward distances to `now` (R2, R55; log entry 10). -/
def leadFrom (start e now : Tick) : Lead :=
  if interval start now < interval e now then .before (interval e now - interval start now)
  else if Config.clockLimit < interval start e then .past
  else .after (interval start e)

/-- A leading edge judged against the race's start tick (R55). -/
def State.lead (s : State) (e : Tick) : Lead :=
  match s.race.startTick with
  | none => .before 0
  | some st => if s.race.pastLimit then .past else leadFrom st e s.tick

/-- The race time of a leading edge with its over-range mark, by the three rows of R55. -/
def State.raceTime (s : State) (e : Tick) : Evidence :=
  match s.lead e with
  | .before _ => { time := 0, overMark := false }
  | .after n => { time := n, overMark := false }
  | .past => { time := Config.clockLimit, overMark := true }

/-- The race clock at the current tick, held at the limit (R54); 0 without a start tick. -/
def State.raceClock (s : State) : Nat :=
  match s.race.startTick with
  | none => 0
  | some st => if s.race.limitMark then Config.clockLimit else min (interval st s.tick) Config.clockLimit

/-- A signed quantity held to −30,000 to +30,000 (Conventions; R47, R102). -/
def holdSigned (x : Int) : Int := max (-30000) (min 30000 x)

/-- The reaction of a release: its tick minus the start tick, held (R47, R48). -/
def reactionOf (l : Lead) : Int :=
  match l with
  | .before d => holdSigned (-(d : Int))
  | .after n => holdSigned n
  | .past => 30000

/-! ## The split list (R57 to R60) -/

/-- The end at which length `k` ends (R58). -/
def endOf (k : Nat) : PoolEnd := if k % 2 = 1 then .far else .near

/-- The list without its FINAL entry (R59). -/
def beforeFinal (l : List Split) : List Split := l.filter (fun e => decide (e.kind ≠ .final))

/-- The reference time: the time of the last TIMED entry, or 0 (R59). -/
def refTime (l : List Split) : Nat :=
  ((l.reverse.find? (fun e => decide (e.kind = .timed))).bind (·.time)).getD 0

/-- The untimed run: the number of entries after the last TIMED entry (R59). -/
def untimedRun (l : List Split) : Nat := (l.reverse.takeWhile (fun e => decide (e.kind ≠ .timed))).length

/-- The earliest race time that stands `n` lengths beyond the last timed one (R60, R86). -/
def lengthLimit (e : EventDesc) (l : Lane) (n : Nat) : Nat :=
  refTime (beforeFinal l.splits) + (untimedRun (beforeFinal l.splits) + n) * e.minLength

/-- The one-length and two-length tests, `n` being 1 or 2 (R60). -/
def passes (e : EventDesc) (l : Lane) (n t : Nat) : Bool := decide (lengthLimit e l n ≤ t)

/-! ## Exchanges (R95 to R104) -/

def Lane.exchange (l : Lane) (j : Nat) : Exchange :=
  match j with
  | 1 => l.exchange1
  | 2 => l.exchange2
  | _ => l.exchange3

def Lane.setExchange (j : Nat) (x : Exchange) (l : Lane) : Lane :=
  match j with
  | 1 => { l with exchange1 := x }
  | 2 => { l with exchange2 := x }
  | _ => { l with exchange3 := x }

/-- The exchange that falls at length `k` of a RELAY: j with k = j·L, L the total divided by 4 (R95). -/
def exchangeAt (e : EventDesc) (k : Nat) : Option Nat :=
  if e.kind = .relay ∧ 0 < e.total / 4 then
    if k = e.total / 4 then some 1
    else if k = 2 * (e.total / 4) then some 2
    else if k = 3 * (e.total / 4) then some 3
    else none
  else none

/-- An exchange of the lane other than `j` is EARLY (R103, R104). -/
def Lane.otherEarly (l : Lane) (j : Nat) : Bool :=
  [1, 2, 3].any (fun i => decide (i ≠ j ∧ (l.exchange i).status = .early))

/-- Some exchange of the lane is EARLY (R96, R128). -/
def Lane.anyEarly (l : Lane) : Bool := [1, 2, 3].any (fun i => decide ((l.exchange i).status = .early))

/-- The EXCHANGE notice of exchange `j` as it stands (R103). -/
def handExchange (lane j : Nat) (s : State) : State :=
  let x := (s.lane lane).exchange j
  handNotice 0x47 ([byte lane, byte j, exchangeCode x.status] ++ timeBytes x.takeoff ++ signedBytes x.margin) s

/-- The margin of a takeoff against an entry's time, held (R102). -/
def marginOf (takeoff entry : Nat) : Int := holdSigned ((takeoff : Int) - (entry : Int))

/-- Exchange `j` is judged from its takeoff and the time of its TIMED entry, and its notices and markings are handed
(R102, R103). -/
def judgeExchange (lane j takeoff entry : Nat) (s : State) : State :=
  let m := marginOf takeoff entry
  let early := decide (m < -(s.event.tolerance : Int))
  let other := (s.lane lane).otherEarly j
  let x : Exchange := { takeoff := some takeoff, margin := some m, status := if early then .early else .ok }
  let t := handExchange lane j (s.updLane lane (Lane.setExchange j x))
  if early then
    let u := triggerAlert lane (handNotice 0x48 ([byte lane, byte j] ++ signedBytes (some m)) t)
    if other then u else markLaneRow lane u
  else t

/-- Exchange `j` becomes UNJUDGED, its takeoff kept (R101). -/
def unjudgeExchange (lane j : Nat) (s : State) : State :=
  handExchange lane j (s.updLane lane (fun l =>
    l.setExchange j { l.exchange j with margin := none, status := .unjudged }))

/-- The entry just appended for an exchange length is handed to exchange judging (R101). -/
def exchangeAppend (lane : Nat) (e : Split) (s : State) : State :=
  match exchangeAt s.event e.length with
  | none => s
  | some j =>
    match e.kind, e.time, ((s.lane lane).exchange j).takeoff with
    | .timed, some t, some tau => judgeExchange lane j tau t s
    | .timed, _, _ => s
    | .missed, _, _ => unjudgeExchange lane j s
    | .inserted, _, _ => unjudgeExchange lane j s
    | .untimed, _, _ => s
    | .final, _, _ => s

/-- The entry of a length in a split list. -/
def entryAt (l : List Split) (k : Nat) : Option Split := l.find? (fun e => decide (e.length = k))

/-- A release becomes the next takeoff: it is stored, and the exchange becomes PENDING or is judged (R99, R100). -/
def takeTakeoff (lane : Nat) (e : Tick) (s : State) : State :=
  let l := s.lane lane
  if 3 ≤ l.takeoffs then s
  else
    let j := l.takeoffs + 1
    let tau := (s.raceTime e).time
    let t := s.updLane lane (fun l =>
      { l.setExchange j { l.exchange j with takeoff := some tau } with takeoffs := j })
    match entryAt l.splits (j * (s.event.total / 4)) with
    | none => t.updLane lane (fun l => l.setExchange j { l.exchange j with status := .pending, margin := none })
    | some x =>
      match x.kind, x.time with
      | .timed, some time => judgeExchange lane j tau time t
      | _, _ => t

/-- Removing the entry at an exchange length withdraws the exchange's judgement (R104). -/
def withdrawExchange (lane k : Nat) (s : State) : State :=
  match exchangeAt s.event k with
  | none => s
  | some j =>
    let x := (s.lane lane).exchange j
    if x.status = .none then s
    else
      let y : Exchange :=
        { x with margin := none, status := if x.takeoff.isSome then .pending else .none }
      let t := handExchange lane j (s.updLane lane (Lane.setExchange j y))
      if x.status = .early ∧ (s.lane lane).otherEarly j = false then markLaneRow lane t else t

/-! ## What an append hands on (R68 to R70) -/

/-- The SPLIT notice of an entry (R68 step 1). -/
def handSplit (lane : Nat) (e : Split) (s : State) : State :=
  handNotice 0x44 ([byte lane, byte e.length, splitCode e.kind] ++ timeBytes e.time ++ [flagByte e.overMark]) s

/-- A MISSED entry raises the inferred-miss count; at 3, a lane without COUNT_DOUBT takes the flag and hands COUNT_DOUBT
(R69). -/
def countMiss (lane : Nat) (s : State) : State :=
  let l := s.lane lane
  let t := s.updLane lane (fun l => { l with misses := l.misses + 1 })
  if l.misses + 1 = 3 ∧ l.countDoubt = false then
    handNotice 0x4B [byte lane, byte 3] (t.updLane lane (fun l => { l with countDoubt := true }))
  else t

/-- An append that brings a lane to total − 2, in an event of 8 or more lengths, triggers BELL (R70). -/
def bellCheck (lane : Nat) (s : State) : State :=
  if 8 ≤ s.event.total ∧ (s.lane lane).done + 2 = s.event.total then triggerBell s else s

/-- The entry that an append makes for the next length (R57, R58). -/
def nextEntry (l : Lane) (k : SplitKind) (time : Option Nat) (mark : Bool) : Split where
  length := l.done + 1
  kind := k
  time := time
  fin := endOf (l.done + 1)
  overMark := mark

/-- An entry joins the tail of the split list and d rises by one (R57). -/
def Lane.append (e : Split) (l : Lane) : Lane := { l with splits := l.splits ++ [e], done := l.done + 1 }

/-- An entry is appended and handed on, in the order of R68. -/
def appendSplit (lane : Nat) (k : SplitKind) (time : Option Nat) (mark : Bool) (s : State) : State :=
  let e := nextEntry (s.lane lane) k time mark
  let s1 := s.updLane lane (Lane.append e)
  let s2 := markLaneRows lane (handSplit lane e s1)
  let s3 := if k = .timed ∧ (s2.lane lane).state = .swimming then startHold lane s2 else s2
  let s4 := if k = .missed then countMiss lane s3 else s3
  bellCheck lane (exchangeAppend lane e s4)

/-- The lane is SWIMMING with d = total − 1 in an event of 8 or more lengths (R70). -/
def onFinalLength (e : EventDesc) (l : Lane) : Bool :=
  decide (8 ≤ e.total ∧ l.state = .swimming ∧ l.done + 1 = e.total)

/-- Once an event or request has been taken whole, the lane's FINAL_LENGTH input is set to match (R70). -/
def syncFinalLength (lane : Nat) (s : State) : State := setFinalInput lane (onFinalLength s.event (s.lane lane)) s

/-- The kind of the entry for a missing length (R66). -/
def missingKind (l : Lane) (k : Nat) : SplitKind :=
  if endOf k = .far ∧ l.farTiming = .untimed then .untimed else .missed

/-! ## Ranking and record checks (R107 to R110) -/

/-- The comparison of two times in hundredths (R107). -/
def compareTimes (a b : Option Nat) : Comparison :=
  match a, b with
  | some x, some y => if x < y then .less else if x = y then .equal else .greater
  | _, _ => .unordered

/-- A lane's result in hundredths, remainder discarded (R107). -/
def Lane.hundredths (l : Lane) : Option Nat := l.result.map (· / 100)

/-- A lane is ranked when it is in FINISHED or REVIEW, has a result and carries no DQ mark (R108). -/
def Lane.ranked (l : Lane) : Bool :=
  decide ((l.state = .finished ∨ l.state = .review) ∧ l.result.isSome = true ∧ l.dq = false)

/-- The place of a lane among the lanes: one plus the number of ranked lanes whose result is less (R108). -/
def placeIn (lanes : List Lane) (l : Lane) : Option Nat :=
  if l.ranked then
    some (1 + lanes.countP (fun m => m.ranked && decide (compareTimes m.hundredths l.hundredths = .less)))
  else none

/-- A lane joins the ranking table before the first entry whose result is greater (R108). -/
def insertRanked (lanes : List Lane) (n : Nat) : List Nat → List Nat
  | [] => [n]
  | m :: ms =>
    if compareTimes (lanes.getD n Lane.blank).hundredths (lanes.getD m Lane.blank).hundredths = .less then n :: m :: ms
    else m :: insertRanked lanes n ms

/-- The ranking table: the ranked lanes in ascending result, ties in ascending lane number (R108). -/
def rankingOf (lanes : List Lane) : List Nat :=
  ((List.range lanes.length).filter (fun n => (lanes.getD n Lane.blank).ranked)).foldl
    (fun acc n => insertRanked lanes n acc) []

/-- The places of lanes 0 to 9, 0xFF for none (section 11.9). -/
def placesBytes (s : State) : List Byte := laneNumbers.map (fun n => laneByte (s.lane n).place)

/-- The ranking table and every place are recomputed; changed places mark their rows and hand one PLACES notice (R109). -/
def recomputeRanking (s : State) : State :=
  let changed := laneNumbers.filter (fun n => decide ((s.lane n).place ≠ placeIn s.lanes (s.lane n)))
  let t : State :=
    { s with
      lanes := s.lanes.map (fun l => { l with place := placeIn s.lanes l })
      race := { s.race with ranking := rankingOf s.lanes } }
  let u := forEach changed markLaneRow t
  if changed = [] then u else handNotice 0x4A (placesBytes u) u

/-- A result meets a slot (R110). -/
def slotMet (x : RecordSlot) (h : Option Nat) : Bool :=
  x.enabled &&
    (match compareTimes h (some x.reference), x.relation with
     | .less, _ => true
     | .equal, .matchOrBetter => true
     | _, _ => false)

/-- The record set of a lane: empty with a DQ mark or without a result (R110). -/
def recordSetOf (slots : List RecordSlot) (l : Lane) : List Nat :=
  if l.dq then []
  else (List.range 4).filter (fun i => slotMet (slots.getD i RecordSlot.cleared) l.hundredths)

/-- The record check of a lane: a changed set hands RECORD, triggers the RECORD function if it is not empty, and marks the
lane row (R110). -/
def recordCheck (lane : Nat) (s : State) : State :=
  let set := recordSetOf s.race.slots (s.lane lane)
  if (s.lane lane).records = set then s
  else
    let t := handNotice 0x49 [byte lane, recordBits set] (s.updLane lane (fun l => { l with records := set }))
    markLaneRow lane (if set = [] then t else triggerRecord t)

/-! ## Finish resolution (R83 to R90) -/

/-- The button presses present, in button order. -/
def Lane.presses (l : Lane) : List Evidence := l.press1.toList ++ l.press2.toList ++ l.press3.toList

def Lane.press (l : Lane) (b : Nat) : Option Evidence :=
  match b with
  | 1 => l.press1
  | 2 => l.press2
  | _ => l.press3

def Lane.setPress (b : Nat) (x : Evidence) (l : Lane) : Lane :=
  match b with
  | 1 => { l with press1 := some x }
  | 2 => { l with press2 := some x }
  | _ => { l with press3 := some x }

/-- The consensus of the presses present (R83). -/
def consensusOf (ts : List Nat) : Option Nat :=
  match ts with
  | [] => none
  | [a] => some a
  | [a, b] => some ((a + b) / 2)
  | a :: b :: c :: _ => some (max (min a b) (min (max a b) c))

/-- The lag estimate: the default lag, or the mean of the samples, held to the disagreement limit (R85). -/
def lagEstimate (e : EventDesc) (lags : List LagSample) : Nat :=
  min e.disagreement
    (if lags = [] then e.defaultLag else (lags.map (·.delta)).sum / lags.length)

/-- The backup candidate (R86). -/
def candidateOf (e : EventDesc) (l : Lane) (consensus lag : Nat) : Nat :=
  (max ((consensus : Int) - (lag : Int)) (lengthLimit e l 1 : Int)).toNat

/-- What R87 decides for a resolving lane. -/
structure Decision where
  result   : Nat
  overMark : Bool
  source   : ResultSource
  state    : LaneState
  reason   : ReviewReason
  sample   : Option Nat
deriving DecidableEq, Repr

/-- The finish decision from the pad evidence, the consensus and the candidate (R87), with the result's over-range mark
(R88). A lane without evidence, which no FINISHING lane is (R76), has no decision. -/
def decideFinish (e : EventDesc) (l : Lane) (consensus candidate : Option Nat) : Option Decision :=
  match l.pad, consensus with
  | some p, some c =>
    let delta := (c : Int) - (p.time : Int)
    if 0 ≤ delta ∧ delta ≤ e.disagreement then
      some ⟨p.time, p.overMark, .pad, .finished, .none, some delta.toNat⟩
    else if delta < 0 ∧ -(e.disagreement : Int) ≤ delta then some ⟨p.time, p.overMark, .pad, .finished, .none, none⟩
    else if 0 ≤ delta then some ⟨p.time, p.overMark, .pad, .review, .padEarly, none⟩
    else some ⟨p.time, p.overMark, .pad, .review, .padLate, none⟩
  | some p, none => some ⟨p.time, p.overMark, .pad, .finished, .none, none⟩
  | none, some _ => some ⟨candidate.getD 0, l.presses.any (·.overMark), .backup, .finished, .none, none⟩
  | none, none => none

/-- The payload of a LANE_RESOLVED notice (R90). -/
def resolvedBytes (lane : Nat) (l : Lane) : List Byte :=
  [byte lane, laneCode l.state, sourceCode l.source, reasonCode l.reason] ++ timeBytes l.result
  ++ [flagByte (((finalEntry l.splits).map (·.overMark)).getD false)] ++ timeBytes (l.pad.map (·.time))
  ++ timeBytes l.consensus ++ bytesOf 2 l.lagUsed ++ timeBytes l.candidate

/-- A lane's sample joins the tail of the lag sample list (R84). -/
def appendLag (lane : Nat) (sample : Option Nat) (s : State) : State :=
  match sample with
  | some d => { s with race := { s.race with lags := s.race.lags ++ [{ lane := lane, delta := d }] } }
  | none => s

/-- A resolution, steps 1 to 6 of R89. -/
def resolveLane (lane : Nat) (s : State) : State :=
  let e := s.event
  let l := s.lane lane
  let consensus := consensusOf (l.presses.map (·.time))
  let lag := lagEstimate e s.race.lags
  let candidate := consensus.map (fun c => candidateOf e l c lag)
  match decideFinish e l consensus candidate with
  | none => s
  | some d =>
    let s1 := s.updLane lane (fun l =>
      { l with consensus := consensus, lagUsed := lag, candidate := candidate, source := d.source, reason := d.reason
               window := none })
    let s2 := appendSplit lane .final (some d.result) d.overMark (setLaneState lane d.state s1)
    let s3 := appendLag lane d.sample s2
    let s4 := handNotice 0x45 (resolvedBytes lane (s3.lane lane)) s3
    recordCheck lane (recomputeRanking s4)

/-- A lane that keeps the race going: SET, SWIMMING or FINISHING (R118). -/
def Lane.underWay (l : Lane) : Bool :=
  decide (l.state = .set ∨ l.state = .swimming ∨ l.state = .finishing)

/-- The end-of-race check (R118; step 7 of R89). -/
def endOfRaceCheck (s : State) : State :=
  if s.race.state = .running ∧ s.lanes.any Lane.underWay = false then setRaceState .unofficial s else s

/-! ## The backup window (R76 to R81) -/

/-- Every in-use button of the lane whose line is unmasked has a press present (R81). -/
def buttonsComplete (s : State) (lane : Nat) : Bool :=
  [1, 2, 3].all (fun b =>
    decide (s.event.buttons < b) || (s.line (buttonLine lane b)).masked || ((s.lane lane).press b).isSome)

/-- Pad evidence is present, or none can come (R81). -/
def padSettled (s : State) (lane : Nat) : Bool :=
  (s.lane lane).pad.isSome || (s.line (padLine lane (endOf s.event.total))).masked
  || decide (endOf s.event.total = .far ∧ (s.lane lane).farTiming = .untimed)

/-- The early-close check: if it holds, the lane is resolved at once, and the end-of-race check follows (R81, R89). -/
def earlyCloseCheck (lane : Nat) (s : State) : State :=
  if buttonsComplete s lane ∧ padSettled s lane then endOfRaceCheck (resolveLane lane s) else s

/-- The finish opens with a touch (`button` absent) or a press (R76): the lane goes to FINISHING, the evidence is recorded,
the backup window starts at its leading-edge tick (R78), and the early-close check is made. -/
def openFinish (lane : Nat) (e : Tick) (ev : Evidence) (button : Option Nat) (s : State) : State :=
  let s1 := setLaneState lane .finishing s
  let s2 := s1.updLane lane (fun l =>
    let l1 := { l with first := some ev, window := some { start := e, width := s.event.window } }
    match button with
    | none => { l1 with pad := some ev }
    | some b => l1.setPress b ev)
  earlyCloseCheck lane s2

end Sys2Proof.Machine
end

