-- ==== Sys2Proof/Machine/RaceEvents.lean ====
section
/-!
DEFINITION. How the Race Engine takes the capture events that the Capture Unit delivers (R36, R41 to R49, R61 to R67, R75 to
R81, R97 to R99), and the meanings of the race's own timed commands: BACKUP_WINDOW_EXPIRY and CLOCK_LIMIT.
-/
namespace Sys2Proof.Machine

/-! ## Touches (R61 to R67, R80) -/

/-- The classes of a touch (R62). -/
inductive TouchClass where
  | stray | ordinary | finish | missedTurn
deriving DecidableEq, Repr

/-- The class of a touch at end `at0` and race time `t` of a SWIMMING lane: the first condition of R62 that holds. -/
def classifyTouch (e : EventDesc) (l : Lane) (at0 : PoolEnd) (t : Nat) : TouchClass :=
  if at0 = .far ∧ l.farTiming = .untimed then .stray
  else if at0 = endOf (l.done + 1) ∧ l.done + 1 < e.total ∧ passes e l 1 t then .ordinary
  else if at0 = endOf (l.done + 1) ∧ l.done + 1 = e.total ∧ passes e l 1 t then .finish
  else if at0 ≠ endOf (l.done + 1) ∧ l.done + 2 ≤ e.total ∧ passes e l 2 t then .missedTurn
  else .stray

/-- A touch of a SWIMMING lane, by its class (R63 to R65, R67). -/
def touchSwimming (lane : Nat) (at0 : PoolEnd) (e : Tick) (ev : Evidence) (s : State) : State :=
  let l := s.lane lane
  match classifyTouch s.event l at0 ev.time with
  | .stray => s
  | .ordinary => appendSplit lane .timed (some ev.time) ev.overMark s
  | .finish => openFinish lane e ev none s
  | .missedTurn =>
    let t := appendSplit lane (missingKind l (l.done + 1)) none false s
    if l.done + 2 < s.event.total then appendSplit lane .timed (some ev.time) ev.overMark t
    else openFinish lane e ev none t

/-- A touch of a FINISHING lane: the first at the finish end that passes the one-length test is pad evidence (R80). -/
def touchFinishing (lane : Nat) (at0 : PoolEnd) (ev : Evidence) (s : State) : State :=
  let l := s.lane lane
  if l.pad.isSome ∨ (at0 = .far ∧ l.farTiming = .untimed) ∨ at0 ≠ endOf s.event.total
      ∨ passes s.event l 1 ev.time = false then s
  else earlyCloseCheck lane (s.updLane lane (fun l => { l with pad := some ev }))

/-- A PAD_MAKE is handled by the lane's state (R61); OVERRANGE follows R55, and the FINAL_LENGTH input R70. -/
def takePadMake (lane : Nat) (at0 : PoolEnd) (e : Tick) (s : State) : State :=
  let ev := s.raceTime e
  match (s.lane lane).state with
  | .swimming => syncFinalLength lane (touchSwimming lane at0 e ev (raiseOverrange lane ev.overMark s))
  | .finishing => touchFinishing lane at0 ev (raiseOverrange lane ev.overMark s)
  | _ => s

/-! ## Button presses (R75, R77, R79) -/

/-- A press of a SWIMMING lane: finish evidence, finish evidence one length short, or stray (R75, R77). -/
def pressSwimming (lane b : Nat) (e : Tick) (ev : Evidence) (s : State) : State :=
  let l := s.lane lane
  if s.event.buttons < b then s
  else if l.done + 1 = s.event.total ∧ passes s.event l 1 ev.time then openFinish lane e ev (some b) s
  else if l.done + 2 = s.event.total ∧ passes s.event l 2 ev.time then
    openFinish lane e ev (some b) (appendSplit lane (missingKind l (l.done + 1)) none false s)
  else s

/-- A press of a FINISHING lane: counted once for each in-use button (R79). -/
def pressFinishing (lane b : Nat) (ev : Evidence) (s : State) : State :=
  if s.event.buttons < b ∨ ((s.lane lane).press b).isSome then s
  else earlyCloseCheck lane (s.updLane lane (Lane.setPress b ev))

/-- A BUTTON_PRESS is judged as finish evidence or as stray (R61, R75, R79). -/
def takeButtonPress (lane b : Nat) (e : Tick) (s : State) : State :=
  let ev := s.raceTime e
  match (s.lane lane).state with
  | .swimming => syncFinalLength lane (pressSwimming lane b e ev (raiseOverrange lane ev.overMark s))
  | .finishing => pressFinishing lane b ev (raiseOverrange lane ev.overMark s)
  | _ => s

/-! ## Block events (R42, R43, R47 to R49, R97 to R99) -/

/-- Block tracking is updated in SET, SWIMMING and FINISHING (R42), the states of a lane under way. -/
def takeBlockLoad (lane : Nat) (s : State) : State :=
  if (s.lane lane).underWay then s.updLane lane (fun l => { l with tracking := .loaded }) else s

/-- A leading edge was seen no later than 30,000 ticks after the start tick (R43). -/
def Lead.inPhase (l : Lead) : Bool :=
  match l with
  | .before _ => true
  | .after n => decide (n ≤ Config.reactionPhase)
  | .past => false

/-- A lane's reaction is stored; below 0 the lane takes EARLY_RELEASE (R47, R48). -/
def storeReaction (lane : Nat) (r : Int) (s : State) : State :=
  s.updLane lane (fun l => { l with reaction := some r, earlyRelease := l.earlyRelease || decide (r < 0) })

/-- The EARLY_RELEASE notice (R47, R48). -/
def handEarlyRelease (lane : Nat) (r : Int) (s : State) : State := handNotice 0x43 (byte lane :: signedBytes (some r)) s

/-- A release taken from LOADED is classified: reaction release, takeoff candidate or ignored (R43, R48, R97, R98). -/
def classifyRelease (lane : Nat) (e : Tick) (s : State) : State :=
  let l := s.lane lane
  if s.event.start = .dive ∧ l.reactionTick = none
      ∧ (s.race.state = .armed ∨ (s.race.state = .running ∧ (s.lead e).inPhase = true)) then
    let t := s.updLane lane (fun l => { l with reactionTick := some e })
    if s.race.state = .running then
      let r := reactionOf (s.lead e)
      let u := storeReaction lane r t
      if r < 0 then handEarlyRelease lane r u else u
    else t
  else if s.event.kind = .relay ∧ s.race.state = .running
      ∧ (s.event.start = .water ∨ (l.reactionTick ≠ none ∧ (s.lead e).inPhase = false)) then
    takeTakeoff lane e s
  else s

/-- A BLOCK_RELEASE: from LOADED the tracking becomes RELEASED and the release is classified; otherwise it is ignored
(R42). -/
def takeBlockRelease (lane : Nat) (e : Tick) (s : State) : State :=
  if (s.lane lane).underWay ∧ (s.lane lane).tracking = .loaded then
    classifyRelease lane e (s.updLane lane (fun l => { l with tracking := .released }))
  else s

/-! ## The start (R44 to R47) -/

/-- A lane at an accepted START: a SET lane goes to SWIMMING, and in a DIVE event a held reaction release gives its reaction
(R44 steps 2 and 3, R47). -/
def startLane (start : Tick) (lane : Nat) (s : State) : State :=
  let l := s.lane lane
  if l.state = .set then
    let t := setLaneState lane .swimming s
    match s.event.start, l.reactionTick with
    | .dive, some r => storeReaction lane (reactionOf (leadFrom start r s.tick)) t
    | _, _ => t
  else s

/-- The EARLY_RELEASE notice of a lane that received EARLY_RELEASE at the START (R44 step 5). -/
def startNotice (lane : Nat) (s : State) : State :=
  match (s.lane lane).reaction with
  | some r => if r < 0 then handEarlyRelease lane r s else s
  | none => s

/-- A START accepted: the six steps of R44. -/
def startRace (e : Tick) (s : State) : State :=
  let swimmers := laneNumbers.filter (fun n => decide ((s.lane n).state = .set))
  let s1 : State := { s with race := { s.race with startTick := some e } }
  let s2 := setRaceState .running (forEach laneNumbers (startLane e) s1)
  let s3 := handNotice 0x41 (tickBytes (some e) ++ laneSet (fun n => swimmers.contains n)) s2
  forEach swimmers triggerFlash (forEach swimmers startNotice s3)

/-- A START event: accepted in ARMED with a SET lane (R44), otherwise answered START_IGNORED (R45). -/
def takeStart (e : Tick) (s : State) : State :=
  if s.race.state = .armed ∧ laneNumbers.any (fun n => decide ((s.lane n).state = .set)) then startRace e s
  else handNotice 0x42 (tickBytes (some e) ++ [raceCode s.race.state]) s

/-! ## Capture events (R9) -/

/-- A capture event: its kind with lane, end or button, and its leading-edge tick (R9). -/
inductive CaptureEvent where
  | padMake (lane : Nat) (at0 : PoolEnd) (tick : Tick)
  | buttonPress (lane b : Nat) (tick : Tick)
  | blockLoad (lane : Nat) (tick : Tick)
  | blockRelease (lane : Nat) (tick : Tick)
  | start (tick : Tick)
deriving DecidableEq, Repr

/-- The Race Engine takes a capture event at the tick of its confirmation (R9), and a pending watch sees the state it leaves
(R171). -/
def takeCapture (c : CaptureEvent) (s : State) : State :=
  match c with
  | .padMake lane at0 e => watchCheck (takePadMake lane at0 e s)
  | .buttonPress lane b e => watchCheck (takeButtonPress lane b e s)
  | .blockLoad lane _ => takeBlockLoad lane s
  | .blockRelease lane e => takeBlockRelease lane e s
  | .start e => watchCheck (takeStart e s)

/-! ## The race's timed commands -/

/-- A lane's backup window has expired: a FINISHING lane with its window run out (R78). -/
def windowExpired (lane : Nat) (s : State) : Bool :=
  match (s.lane lane).window with
  | some w => decide ((s.lane lane).state = .finishing ∧ w.width ≤ interval w.start s.tick)
  | none => false

/-- BACKUP_WINDOW_EXPIRY (R78): the lane is resolved with the evidence it holds, and the end-of-race check follows (R89). -/
def execBackupWindowExpiry (lane : Nat) (s : State) : Host.Outcome State Fault Refusal :=
  if Config.laneCount ≤ lane then .fault (.noSuchLane lane)
  else if windowExpired lane s then .next (watchCheck (endOfRaceCheck (resolveLane lane s)))
  else .next s

/-- The limit tick of the race has come with the mark clear (R56). -/
def limitReached (s : State) : Bool :=
  match s.race.startTick with
  | some st => decide (s.race.state = .running ∧ s.race.limitMark = false ∧ s.tick = later st Config.clockLimit)
  | none => false

/-- CLOCK_LIMIT (R56): the clock-limit mark is set and the alarm handed. -/
def execClockLimit (s : State) : Host.Outcome State Fault Refusal :=
  if limitReached s then .next (handAlarm .clockLimit none { s with race := { s.race with limitMark := true } }) else .next s

end Sys2Proof.Machine
end

