-- ==== Sys2Proof/Machine/RaceRequests.lean ====
section
/-!
DEFINITION. The requests that act on the race record and the lane records: LOAD_EVENT, SET_LANE, SET_RECORD, CLEAR_RACE (02),
ARM, RECALL (03), ADJUST_LENGTH (04), DECLARE, ADJUDICATE, STOP, CLOSE (07), and the reads READ_LANE, READ_SPLITS and
READ_RANKING (R122, R175). Checks are made in the order of R27; the first that fails decides the reply code.
-/
namespace Sys2Proof.Machine

/-! ## LOAD_EVENT, SET_LANE, SET_RECORD, CLEAR_RACE -/

/-- What LOAD_EVENT and CLEAR_RACE clear: the race record but for its state and `event`, every lane, the split holds and the
lamps; every row is marked (R30, R34, R146). -/
def clearField (e : Option EventDesc) (s : State) : State :=
  markAllRows (stopAllLamps (stopHolds
    { s with race := { Race.cleared with state := s.race.state, event := e }
             lanes := s.lanes.map (fun _ => Lane.blank) }))

/-- LOAD_EVENT after its length check (R28 to R30). -/
def actLoadEvent (f : Frame) (s : State) : State :=
  if s.race.state ≠ .idle ∧ s.race.state ≠ .loaded ∧ s.race.state ≠ .official then putReply f .wrongState [] s
  else
    match badEventField f.payload with
    | some n => putReply f .badEvent [byte n] s
    | none =>
      let e := eventOf f.payload
      let t := watchCheck (setRaceState .loaded (clearField (some e) s))
      putReply f (if eventClamped f.payload then .clamped else .ok) (eventBytes e) t

/-- LOAD_EVENT (R30). -/
def execLoadEvent (s : State) : Host.Outcome State Fault Refusal :=
  .next (takePlain 0x08 (fun n => decide (26 ≤ n)) actLoadEvent s)

/-- SET_LANE after its length check (R31). -/
def actSetLane (f : Frame) (s : State) : State :=
  let n := (byteAt f.payload 0).toNat
  let use := byteAt f.payload 1
  if s.race.state ≠ .loaded then putReply f .wrongState [] s
  else if Config.laneCount ≤ n then putReply f .badLane [] s
  else if 1 < use.toNat then putReply f .outOfRange [] s
  else if (s.lane n).state ≠ .vacant ∧ (s.lane n).state ≠ .ready then putReply f .wrongState [] s
  else
    let t := setLaneState n (if use = 1 then .ready else .vacant) s
    let u := t.updLane n (fun l => { l with text := storedText 16 (f.payload.drop 2) })
    putReply f .ok [] (watchCheck (markLaneRow n u))

/-- SET_LANE (R31). -/
def execSetLane (s : State) : Host.Outcome State Fault Refusal :=
  .next (takePlain 0x09 (fun n => decide (2 ≤ n)) actSetLane s)

/-- SET_RECORD after its length check (R33). -/
def actSetRecord (f : Frame) (s : State) : State :=
  let n := (byteAt f.payload 0).toNat
  let enabled := byteAt f.payload 1
  let reference := field f.payload 3 4
  let relation := byteAt f.payload 7
  if s.race.state ≠ .loaded then putReply f .wrongState [] s
  else if 3 < n then putReply f .outOfRange [] s
  else if 1 < enabled.toNat then putReply f .outOfRange [] s
  else if 599999 < reference then putReply f .outOfRange [] s
  else if 1 < relation.toNat then putReply f .outOfRange [] s
  else
    let x : RecordSlot :=
      { enabled := decide (enabled = 1), label := textByte (byteAt f.payload 2), reference := reference
        relation := if relation = 0 then .better else .matchOrBetter }
    putReply f .ok [] { s with race := { s.race with slots := s.race.slots.modify n (fun _ => x) } }

/-- SET_RECORD (R33). -/
def execSetRecord (s : State) : Host.Outcome State Fault Refusal :=
  .next (takePlain 0x0A (fun n => decide (n = 8)) actSetRecord s)

/-- A pending watch is answered with the vector as it stands, whether or not a code changed (R34 step 6, R172). -/
def answerClear (s : State) : State :=
  match s.link.watch with
  | some w => answerWatch w .ok s.vector s
  | none => s

/-- CLEAR_RACE after its length check (R34, R35). -/
def actClearRace (f : Frame) (s : State) : State :=
  putReply f .ok [] (answerClear (setRaceState .idle (clearField none s)))

/-- CLEAR_RACE (R34). -/
def execClearRace (s : State) : Host.Outcome State Fault Refusal :=
  .next (takePlain 0x0B (fun n => decide (n = 0)) actClearRace s)

/-! ## ARM and RECALL -/

/-- The far timing fixed at ARM (R39). -/
def farTimingAtArm (s : State) (n : Nat) : FarTiming :=
  if s.event.farFitted = false ∨ (s.line (padLine n .far)).masked = true then .untimed else .fitted

/-- A lane at ARM: READY goes to SET with its far timing, block tracking and BLOCK_EMPTY_AT_ARM fixed, DNS stays (R38 to R40).
The split list of every lane is empty (R38, R57). -/
def armLane (n : Nat) (s : State) : State :=
  let empty := s.updLane n (fun l => { l with splits := [], done := 0, misses := 0, countDoubt := false })
  match (s.lane n).state with
  | .ready =>
    let loaded := (s.line (blockLine n)).active
    (setLaneState n .set empty).updLane n (fun l =>
      { l with stateAtArm := some .ready, farTiming := farTimingAtArm s n
               tracking := if loaded then .loaded else .empty, takeoffs := 0, reactionTick := none
               blockEmptyAtArm := !loaded && decide (s.event.start = .dive) })
  | .dns => empty.updLane n (fun l => { l with stateAtArm := some .dns })
  | _ => empty

/-- ARM after its length check (R38). -/
def actArm (f : Frame) (s : State) : State :=
  if s.race.state ≠ .loaded then putReply f .wrongState [] s
  else if s.lanes.all (fun l => decide (l.state ≠ .ready)) then putReply f .noLanes [] s
  else
    let t := watchCheck (setRaceState .armed (forEach laneNumbers armLane s))
    putReply f .ok (laneSet (fun n => (t.lane n).blockEmptyAtArm)) t

/-- ARM (R38). -/
def execArm (s : State) : Host.Outcome State Fault Refusal :=
  .next (takePlain 0x10 (fun n => decide (n = 0)) actArm s)

/-- A lane record returned to blank except for its state and display text (R50, R52). -/
def Lane.recalled (st : LaneState) (l : Lane) : Lane := { Lane.blank with state := st, text := l.text }

/-- A lane at RECALL from ARMED: SET goes to READY, and every lane but a VACANT one returns to blank (R50). -/
def recallArmedLane (n : Nat) (s : State) : State :=
  let st := (s.lane n).state
  if st = .vacant then s
  else
    let new := if st = .set then .ready else st
    (setLaneState n new s).updLane n (Lane.recalled new)

/-- A lane at RECALL from RUNNING takes its state at ARM (R52 step 2). -/
def Lane.recallRunning (l : Lane) : Lane :=
  if l.state = .vacant then l else l.recalled (l.stateAtArm.getD l.state)

/-- A RECALL accepted in RUNNING: the five steps of R52. -/
def recallRunning (s : State) : State :=
  let placed := s.lanes.any (fun l => l.place.isSome)
  let t : State :=
    { s with race := { s.race with startTick := none, limitMark := false, lags := [], ranking := [] }
             lanes := s.lanes.map Lane.recallRunning }
  let u := setRaceState .loaded (markAllRows (stopAllLamps (stopHolds t)))
  if placed then handNotice 0x4A (placesBytes u) u else u

/-- RECALL after its length check (R50, R51). -/
def actRecall (f : Frame) (s : State) : State :=
  match s.race.state with
  | .armed =>
    putReply f .ok [] (watchCheck (setRaceState .loaded (forEach laneNumbers recallArmedLane s)))
  | .running =>
    if s.event.recallWindow < s.raceClock then putReply f .tooLate [] s
    else putReply f .ok [] (watchCheck (recallRunning s))
  | _ => putReply f .wrongState [] s

/-- RECALL (R50 to R53). -/
def execRecall (s : State) : Host.Outcome State Fault Refusal :=
  .next (takePlain 0x11 (fun n => decide (n = 0)) actRecall s)

/-! ## STOP and CLOSE -/

/-- A SWIMMING lane becomes DNF: its FINAL_LENGTH input goes off and its split hold ends (R113). -/
def dnfLane (n : Nat) (s : State) : State := syncFinalLength n (setLaneState n .dnf s)

/-- The lanes in a state. -/
def State.lanesIn (s : State) (st : LaneState) : List Nat := laneNumbers.filter (fun n => decide ((s.lane n).state = st))

/-- STOP after its length check: the four steps of R119. -/
def actStop (f : Frame) (s : State) : State :=
  if s.race.state ≠ .running then putReply f .wrongState [] s
  else
    let finishing := s.lanesIn .finishing
    let swimming := s.lanesIn .swimming
    let t := setRaceState .unofficial
      (stopLaneLamps (forEach swimming dnfLane (forEach finishing resolveLane s)))
    putReply f .ok (laneSet (fun n => finishing.contains n) ++ laneSet (fun n => swimming.contains n)) (watchCheck t)

/-- STOP (R119). -/
def execStop (s : State) : Host.Outcome State Fault Refusal :=
  .next (takePlain 0x12 (fun n => decide (n = 0)) actStop s)

/-- CLOSE after its length check (R121). -/
def actClose (f : Frame) (s : State) : State :=
  let review := laneSet (fun n => decide ((s.lane n).state = .review))
  if s.race.state ≠ .unofficial then putReply f .wrongState [] s
  else if s.lanes.any (fun l => decide (l.state = .review)) then putReply f .reviewOpen review s
  else putReply f .ok review (watchCheck (setRaceState .official s))

/-- CLOSE (R121). -/
def execClose (s : State) : Host.Outcome State Fault Refusal :=
  .next (takePlain 0x1A (fun n => decide (n = 0)) actClose s)

/-! ## ADJUST_LENGTH (R72, R73) -/

/-- An ADJUST_LENGTH payload is taken by the command of direction `d`, or by either command where it spells no direction
(log entry 4). -/
def adjustMine (d : Byte) (p : List Byte) : Bool :=
  decide (p.length ≠ 2 ∨ byteAt p 1 = d ∨ (byteAt p 1 ≠ 0x01 ∧ byteAt p 1 ≠ 0xFF))

/-- The checks of R72; none where the request is accepted. -/
def adjustCheck (p : List Byte) (s : State) : Option ReplyCode :=
  let n := (byteAt p 0).toNat
  if s.race.state ≠ .running then some .wrongState
  else if Config.laneCount ≤ n then some .badLane
  else if (s.lane n).state ≠ .swimming then some .wrongState
  else if byteAt p 1 ≠ 0x01 ∧ byteAt p 1 ≠ 0xFF then some .outOfRange
  else if byteAt p 1 = 0x01 ∧ s.event.total ≤ (s.lane n).done + 1 then some .outOfRange
  else if byteAt p 1 = 0xFF ∧ (s.lane n).done = 0 then some .outOfRange
  else none

/-- The reply of an accepted ADJUST_LENGTH: the lane and its lengths done (R72). -/
def adjustReply (f : Frame) (n : Nat) (s : State) : State := putReply f .ok [byte n, byte (s.lane n).done] s

/-- ADJUST_LENGTH +1 after its length check: an INSERTED entry is appended (R72). -/
def actAdjustPlus (f : Frame) (s : State) : State :=
  let n := (byteAt f.payload 0).toNat
  match adjustCheck f.payload s with
  | some c => putReply f c [] s
  | none => adjustReply f n (syncFinalLength n (appendSplit n .inserted none false s))

/-- ADJUST_LENGTH_PLUS_ONE (R72). -/
def execAdjustLengthPlusOne (s : State) : Host.Outcome State Fault Refusal :=
  .next (takeRequest 0x13 (adjustMine 0x01) (fun n => decide (n = 2)) (fun _ => []) actAdjustPlus s)

/-- The tail entry of a lane's split list is removed: d falls by one, and the inferred-miss count with a MISSED entry (R73). -/
def Lane.removeTail (l : Lane) : Lane :=
  { l with
    splits := l.splits.dropLast
    done := l.done - 1
    misses := if (l.splits.getLast?.map (·.kind)) = some .missed then l.misses - 1 else l.misses }

/-- A removal with its markings, the withdrawal of an exchange and the FINAL_LENGTH input (R73, R104). -/
def removeTail (n : Nat) (s : State) : State :=
  syncFinalLength n (withdrawExchange n (s.lane n).done (markLaneRows n (s.updLane n Lane.removeTail)))

/-- ADJUST_LENGTH −1 after its length check: the tail entry is removed (R73). -/
def actAdjustMinus (f : Frame) (s : State) : State :=
  let n := (byteAt f.payload 0).toNat
  match adjustCheck f.payload s with
  | some c => putReply f c [] s
  | none => adjustReply f n (removeTail n s)

/-- ADJUST_LENGTH_MINUS_ONE (R73). -/
def execAdjustLengthMinusOne (s : State) : Host.Outcome State Fault Refusal :=
  .next (takeRequest 0x13 (adjustMine 0xFF) (fun n => decide (n = 2)) (fun _ => []) actAdjustMinus s)

/-! ## ADJUDICATE (R116, R117) -/

/-- The new time, over-range mark and source of an ADJUDICATE whose source is one of the three; none where the source has no
time (R116 step 5, R117 step 1). -/
def adjudicated (p : List Byte) (l : Lane) : Option (Evidence × ResultSource) :=
  if byteAt p 1 = 0 then l.pad.map (fun ev => (ev, .pad))
  else if byteAt p 1 = 1 then
    l.candidate.map (fun c => ({ time := c, overMark := l.presses.any (·.overMark) }, .backup))
  else some ({ time := field p 2 4, overMark := false }, .manual)

/-- The checks of R116 before the time is formed. -/
def adjudicateCheck (p : List Byte) (s : State) : Option ReplyCode :=
  let n := (byteAt p 0).toNat
  let l := s.lane n
  if s.race.state ≠ .running ∧ s.race.state ≠ .unofficial then some .wrongState
  else if Config.laneCount ≤ n then some .badLane
  else if l.state ≠ .finished ∧ l.state ≠ .review then some .wrongState
  else if 2 < (byteAt p 1).toNat then some .outOfRange
  else if (adjudicated p l).isNone then some .noSource
  else if byteAt p 1 = 2 ∧ (field p 2 4 < lengthLimit s.event l 1 ∨ Config.clockLimit < field p 2 4) then some .outOfRange
  else none

/-- The time and mark of the FINAL entry are replaced, with the source, and no review reason stands (R117 steps 1 and 2). -/
def Lane.adjudicate (ev : Evidence) (src : ResultSource) (l : Lane) : Lane :=
  { l with
    splits := l.splits.map (fun e => if e.kind = .final then { e with time := some ev.time, overMark := ev.overMark } else e)
    source := src
    reason := .none }

/-- An accepted ADJUDICATE: the five steps of R117. -/
def adjudicateLane (n : Nat) (ev : Evidence) (src : ResultSource) (s : State) : State :=
  let s1 := setLaneState n .finished (s.updLane n (Lane.adjudicate ev src))
  let e : Split :=
    { length := s.event.total, kind := .final, time := some ev.time, fin := endOf s.event.total, overMark := ev.overMark }
  recordCheck n (recomputeRanking (markLaneRows n (handSplit n e s1)))

/-- ADJUDICATE after its length check (R116, R117). -/
def actAdjudicate (f : Frame) (s : State) : State :=
  let n := (byteAt f.payload 0).toNat
  match adjudicateCheck f.payload s, adjudicated f.payload (s.lane n) with
  | none, some (ev, src) =>
    putReply f .ok ([byte n] ++ timeBytes (some ev.time) ++ [sourceCode src]) (watchCheck (adjudicateLane n ev src s))
  | some c, _ => putReply f c [] s
  | none, none => putReply f .noSource [] s

/-- ADJUDICATE (R116, R117). -/
def execAdjudicate (s : State) : Host.Outcome State Fault Refusal :=
  .next (takePlain 0x14 (fun n => decide (n = 6)) actAdjudicate s)

/-! ## DECLARE (R111 to R115) -/

/-- A DECLARE payload is taken by the command of declaration `d`, or by any of the four where it spells no declaration (log
entry 4). -/
def declareMine (d : Byte) (p : List Byte) : Bool :=
  decide (p.length ≠ 2 ∨ byteAt p 1 = d ∨ 3 < (byteAt p 1).toNat)

/-- The checks of R111, with the race states and the lane states that the declaration takes. -/
def declareCheck (raceOk : RaceState → Bool) (laneOk : Lane → Bool) (p : List Byte) (s : State) : Option ReplyCode :=
  let n := (byteAt p 0).toNat
  if 3 < (byteAt p 1).toNat then some .outOfRange
  else if raceOk s.race.state = false then some .wrongState
  else if Config.laneCount ≤ n then some .badLane
  else if (s.lane n).state = .vacant then some .badLane
  else if laneOk (s.lane n) = false then some .wrongState
  else none

/-- A DECLARE after its length check: refused by its checks, or carried out and answered with the lane, its state and its DQ
mark (R111). -/
def actDeclare (raceOk : RaceState → Bool) (laneOk : Lane → Bool) (effect : Nat → State → State) (f : Frame)
    (s : State) : State :=
  let n := (byteAt f.payload 0).toNat
  match declareCheck raceOk laneOk f.payload s with
  | some c => putReply f c [] s
  | none =>
    let t := watchCheck (effect n s)
    putReply f .ok [byte n, laneCode (t.lane n).state, flagByte (t.lane n).dq] t

/-- The lane states in which DNS is taken (R111, R112). -/
def dnsLane (l : Lane) : Bool :=
  decide (l.state = .ready ∨ l.state = .set ∨ (l.state = .swimming ∧ l.done = 0))

/-- DECLARE DNS on its lane (R112). -/
def declareDnsLane (n : Nat) (s : State) : State := endOfRaceCheck (syncFinalLength n (setLaneState n .dns s))

/-- DECLARE_DNS (R112). -/
def execDeclareDns (s : State) : Host.Outcome State Fault Refusal :=
  .next (takeRequest 0x1B (declareMine 0) (fun n => decide (n = 2)) (fun _ => [])
    (actDeclare (fun r => decide (r = .loaded ∨ r = .armed ∨ r = .running)) dnsLane declareDnsLane) s)

/-- DECLARE DNF on its lane (R113). -/
def declareDnfLane (n : Nat) (s : State) : State := endOfRaceCheck (dnfLane n s)

/-- DECLARE_DNF (R113). -/
def execDeclareDnf (s : State) : Host.Outcome State Fault Refusal :=
  .next (takeRequest 0x1B (declareMine 1) (fun n => decide (n = 2)) (fun _ => [])
    (actDeclare (fun r => decide (r = .running)) (fun l => decide (l.state = .swimming)) declareDnfLane) s)

/-- The race states in which DQ and REINSTATE are taken (R111). -/
def judgingState (r : RaceState) : Bool := decide (r = .running ∨ r = .unofficial)

/-- The lane states in which DQ is taken (R111, R114). -/
def dqLane (l : Lane) : Bool :=
  decide (l.state = .swimming ∨ l.state = .finishing ∨ l.state = .finished ∨ l.state = .review)

/-- The mark is set or cleared, the ranking recomputed, the record check made and the lane row marked (R114, R115). -/
def markDq (dq : Bool) (n : Nat) (s : State) : State :=
  markLaneRow n (recordCheck n (recomputeRanking (s.updLane n (fun l => { l with dq := dq }))))

/-- DECLARE DQ on its lane: nothing where the mark stands already (R114). -/
def declareDqLane (n : Nat) (s : State) : State := if (s.lane n).dq then s else markDq true n s

/-- DECLARE_DQ (R114). -/
def execDeclareDq (s : State) : Host.Outcome State Fault Refusal :=
  .next (takeRequest 0x1B (declareMine 2) (fun n => decide (n = 2)) (fun _ => [])
    (actDeclare judgingState dqLane declareDqLane) s)

/-- DECLARE REINSTATE on its lane: nothing where the lane carries no mark (R115). -/
def declareReinstateLane (n : Nat) (s : State) : State := if (s.lane n).dq then markDq false n s else s

/-- DECLARE_REINSTATE (R115). -/
def execDeclareReinstate (s : State) : Host.Outcome State Fault Refusal :=
  .next (takeRequest 0x1B (declareMine 3) (fun n => decide (n = 2)) (fun _ => [])
    (actDeclare judgingState (fun _ => true) declareReinstateLane) s)

/-! ## The reads (R122, R175; layouts in section 11.9) -/

/-- An exchange record, 9 bytes. -/
def exchangeBytes (x : Exchange) : List Byte := timeBytes x.takeoff ++ signedBytes x.margin ++ [exchangeCode x.status]

/-- A state at ARM, 0xFF where it is absent. -/
def stateAtArmByte (st : Option LaneState) : Byte :=
  match st with
  | some x => laneCode x
  | none => 0xFF

/-- A text padded with spaces to `n` positions. -/
def padText (n : Nat) (t : List Byte) : List Byte := t ++ List.replicate (n - t.length) 0x20

/-- The lane record, 101 bytes (section 11.9). -/
def laneBytes (n : Nat) (l : Lane) : List Byte :=
  [byte n, laneCode l.state, stateAtArmByte l.stateAtArm, flagByte l.dq, laneFlags l, farTimingCode l.farTiming,
   trackingCode l.tracking, byte l.takeoffs]
  ++ signedBytes l.reaction ++ tickBytes l.reactionTick ++ [byte l.done, byte l.misses]
  ++ timeBytes (l.pad.map (·.time)) ++ timeBytes (l.press1.map (·.time)) ++ timeBytes (l.press2.map (·.time))
  ++ timeBytes (l.press3.map (·.time)) ++ timeBytes (l.first.map (·.time)) ++ [laneMarks l]
  ++ timeBytes l.consensus ++ bytesOf 2 l.lagUsed ++ timeBytes l.candidate
  ++ [sourceCode l.source, reasonCode l.reason, laneByte l.place, recordBits l.records]
  ++ timeBytes l.result ++ exchangeBytes l.exchange1 ++ exchangeBytes l.exchange2 ++ exchangeBytes l.exchange3
  ++ [byte l.text.length] ++ padText 16 l.text

/-- READ_LANE after its length check (R175). -/
def actReadLane (f : Frame) (s : State) : State :=
  let n := (byteAt f.payload 0).toNat
  if Config.laneCount ≤ n then putReply f .badLane [] s else putReply f .ok (laneBytes n (s.lane n)) s

/-- READ_LANE (R175). -/
def execReadLane (s : State) : Host.Outcome State Fault Refusal :=
  .next (takePlain 0x15 (fun n => decide (n = 1)) actReadLane s)

/-- A split entry, 7 bytes (section 11.9). -/
def splitBytes (e : Split) : List Byte :=
  [byte e.length, splitCode e.kind] ++ timeBytes e.time
  ++ [byte ((if e.fin = .far then 1 else 0) + (if e.overMark then 2 else 0))]

/-- READ_SPLITS after its length check: up to 20 entries from the start length on (R175). -/
def actReadSplits (f : Frame) (s : State) : State :=
  let n := (byteAt f.payload 0).toNat
  let k := (byteAt f.payload 1).toNat
  if Config.laneCount ≤ n then putReply f .badLane [] s
  else if k < 1 ∨ 60 < k then putReply f .outOfRange [] s
  else
    let l := s.lane n
    let c := min 20 (l.done + 1 - k)
    putReply f .ok
      ([byte n, byte l.done, byte k, byte c] ++ (((l.splits.drop (k - 1)).take c).map splitBytes).flatten) s

/-- READ_SPLITS (R175). -/
def execReadSplits (s : State) : Host.Outcome State Fault Refusal :=
  .next (takePlain 0x16 (fun n => decide (n = 2)) actReadSplits s)

/-- The ranking entries of READ_RANKING, each compared with the entry before it (R122). -/
def rankingBytes (s : State) : Option Nat → List Nat → List Byte
  | _, [] => []
  | before, n :: ns =>
    let l := s.lane n
    [byte n, laneByte l.place] ++ timeBytes l.result
    ++ [flagByte (((finalEntry l.splits).map (·.overMark)).getD false),
        comparisonCode (compareTimes l.hundredths before)]
    ++ rankingBytes s l.hundredths ns

/-- The fields of the READ_RANKING reply (R122, section 11.9). -/
def rankingReply (s : State) : List Byte :=
  [raceCode s.race.state] ++ bytesOf 2 s.event.number ++ tickBytes s.race.startTick
  ++ [flagByte s.race.limitMark, byte s.race.lags.length]
  ++ (s.race.lags.map (fun x => byte x.lane :: bytesOf 2 x.delta)).flatten
  ++ [byte s.race.ranking.length] ++ rankingBytes s none s.race.ranking

/-- READ_RANKING (R122). -/
def execReadRanking (s : State) : Host.Outcome State Fault Refusal :=
  .next (takePlain 0x17 (fun n => decide (n = 0)) (fun f t => putReply f .ok (rankingReply t) t) s)

end Sys2Proof.Machine
end

