-- ==== Sys2Proof/Machine/Rows.lean ====
section
/-!
DEFINITION. The row composer: the content of each scoreboard row from the records as they stand (R124 to R128, R131) and the
frame that carries it (R139; byte contents in section 11.9).
-/
namespace Sys2Proof.Machine

def space : Byte := 0x20

def spaces (n : Nat) : List Byte := List.replicate n space

/-- The decimal digit of a number's last place, as a character. -/
def digit (n : Nat) : Byte := byte (0x30 + n % 10)

/-- A number right-aligned in `k` positions with leading spaces (R126, R127). -/
def rightAligned : Nat → Nat → List Byte
  | 0, _ => []
  | k + 1, n => (if n < 10 ^ k ∧ k ≠ 0 then space else digit (n / 10 ^ k)) :: rightAligned k n

/-- A text filled with spaces to `n` positions (R124). -/
def filled (n : Nat) (t : List Byte) : List Byte := (t ++ spaces n).take n

/-- "MM:SS" as every format lays it out: minutes of 0 and the colon are spaces and then a leading zero of the seconds is a
space; minutes of 1 to 9 have a leading space (R125). -/
def minutesSeconds (m sec : Nat) : List Byte :=
  if m = 0 then spaces 3 ++ rightAligned 2 sec
  else rightAligned 2 m ++ [0x3A, digit (sec / 10), digit sec]

/-- Hundredths "MM:SS.hh", 8 positions (R125). -/
def showHundredths (t : Nat) : List Byte :=
  let h := t / 100
  minutesSeconds (h / 6000) (h / 100 % 60) ++ [0x2E, digit (h % 100 / 10), digit h]

/-- Tenths "MM:SS.t", 7 positions (R125). -/
def showTenths (t : Nat) : List Byte :=
  let u := t / 1000
  minutesSeconds (u / 600) (u / 10 % 60) ++ [0x2E, digit u]

/-- Whole seconds "MM:SS" followed by 3 spaces (R125). -/
def showSeconds (t : Nat) : List Byte :=
  let v := t / 10000
  minutesSeconds (v / 60) (v % 60) ++ spaces 3

/-- The header clock by race state (R126). -/
def headerClock (s : State) : List Byte :=
  match s.race.state with
  | .armed => showTenths 0
  | .running => showTenths s.raceClock
  | _ => spaces 7

/-- Row 0: event number, title and clock (R126). -/
def headerRow (s : State) : List Byte :=
  match s.race.state with
  | .idle => spaces 35
  | _ => rightAligned 4 s.event.number ++ filled 24 s.event.title ++ headerClock s

/-- The marker character: 'Q', 'T', the label of the lowest-numbered slot of the record set, or a space (R128). -/
def marker (s : State) (l : Lane) : Byte :=
  if l.dq then 0x51
  else if l.anyEarly then 0x54
  else
    match l.records with
    | i :: _ => (s.race.slots.getD i RecordSlot.cleared).label
    | [] => space

/-- The time of the last TIMED entry of a split list (R127). -/
def lastTimed (l : Lane) : Option Nat := (l.splits.reverse.find? (fun e => decide (e.kind = .timed))).bind (·.time)

/-- The time field of a lane row by lane state (R127). -/
def laneTime (s : State) (n : Nat) (l : Lane) : List Byte :=
  match l.state with
  | .swimming =>
    match s.hold n, lastTimed l with
    | some _, some t => showHundredths t
    | _, _ => showSeconds s.raceClock
  | .finishing => showHundredths ((l.first.map (·.time)).getD 0)
  | .finished => showHundredths (l.result.getD 0)
  | .review => showHundredths (l.result.getD 0)
  | .dns => spaces 5 ++ [0x44, 0x4E, 0x53]
  | .dnf => spaces 5 ++ [0x44, 0x4E, 0x46]
  | _ => spaces 8

/-- The place field: shown in FINISHED and REVIEW (R127). -/
def lanePlace (l : Lane) : List Byte :=
  match l.state, l.place with
  | .finished, some p => rightAligned 2 p
  | .review, some p => rightAligned 2 p
  | _, _ => spaces 2

/-- The marker field: blank in VACANT, READY and SET (R127). -/
def laneMarker (s : State) (l : Lane) : Byte :=
  match l.state with
  | .vacant => space
  | .ready => space
  | .set => space
  | _ => marker s l

/-- A lane row: place, lane number, text, time and marker (R127). -/
def laneRow (s : State) (n : Nat) : List Byte :=
  let l := s.lane n
  match l.state with
  | .vacant => spaces 28
  | _ => lanePlace l ++ [digit n] ++ filled 16 l.text ++ laneTime s n l ++ [laneMarker s l]

/-- The lap counter value: total lengths minus lengths done (R71). -/
def lapValue (s : State) (n : Nat) : Nat := s.event.total - (s.lane n).done

/-- A lap counter row: three digit positions in SWIMMING and FINISHING, otherwise blank (R131). -/
def lapRow (s : State) (n : Nat) : List Byte :=
  let v := lapValue s n
  match (s.lane n).state with
  | .swimming => [byte (v / 100 % 10), byte (v / 10 % 10), byte (v % 10)]
  | .finishing => [byte (v / 100 % 10), byte (v / 10 % 10), byte (v % 10)]
  | _ => [0x0F, 0x0F, 0x0F]

/-- The blank content of a row (R124). -/
def blankRow (r : Nat) : List Byte :=
  if r = 0 then spaces 35 else if r ≤ 10 then spaces 28 else if r = 11 then spaces 32 else [0x0F, 0x0F, 0x0F]

/-- The content of a row composed at this tick; a row whose mask is set is blank (R124). -/
def composeRow (s : State) (r : Nat) : List Byte :=
  if s.rowMasked r then blankRow r
  else if r = 0 then headerRow s
  else if r ≤ 10 then laneRow s (r - 1)
  else if r = 11 then filled 32 s.board.footer
  else lapRow s (r - 12)

/-- The frame of a row: lead byte, row number, content, end byte and the sum of row number and content modulo 256 (R139). -/
def rowFrame (r : Nat) (content : List Byte) : List Byte :=
  [0x02, byte r] ++ content ++ [0x03, (byte r :: content).sum]

end Sys2Proof.Machine
end

