-- ==== Sys2Proof/Machine/BoardLink.lean ====
section
/-!
DEFINITION. The Board Link Controller: the scheduler (R135 to R138), the handshakes (R139 to R144), the markings that follow the
race clock (R130), the end of a split hold (R129), and BOARD_TEXT (R132) and ROW_MASK (R145).
-/
namespace Sys2Proof.Machine

/-! ## FLAG (R139) -/

/-- FLAG reads READY (R139). -/
def flagReady (p : Polarity) (high : Bool) : Bool :=
  match p with
  | .normal => !high
  | .inverted => high

/-- FLAG is sampled at a level. -/
def State.sampleFlag (high : Bool) (s : State) : State := { s with pins := { s.pins with flag := high } }

/-- A wait on FLAG is met by this tick's sample, no later than the byte timeout: READY before the byte, BUSY after the tick of
STB in FULL mode, the selected transition after it in PARTIAL mode (R140, R141, R143). -/
def waitMet (x : Sending) (before high : Bool) (now : Tick) : Bool :=
  let ready := flagReady x.flagPolarity high
  let was := flagReady x.flagPolarity before
  match x.phase, x.mode with
  | .waitReady, _ => ready && decide (interval x.since now ≤ x.byteTimeout)
  | .waitAccept, .fullMode => !ready && decide (1 ≤ interval x.since now ∧ interval x.since now ≤ x.byteTimeout)
  | .waitAccept, .partialMode =>
    (match x.accept with
     | .readyToBusy => was && !ready
     | .busyToReady => !was && ready)
    && decide (1 ≤ interval x.since now ∧ interval x.since now ≤ x.byteTimeout)
  | _, _ => false

/-! ## Passing bytes (R140 to R142) -/

/-- The data lines take a byte, STB unchanged. -/
def driveByte (b : Byte) (s : State) : State :=
  { s with board := { s.board with drive := s.board.drive.map (fun d => { d with data := b }) } }

/-- STB is asserted or released. -/
def driveStb (level : Bool) (s : State) : State :=
  { s with board := { s.board with drive := s.board.drive.map (fun d => { d with stb := level }) } }

/-- The row in transmission enters a phase at this tick. -/
def enterPhase (p : BytePhase) (x : Sending) (s : State) : State :=
  { s with board := { s.board with sending := some { x with phase := p, since := s.tick } } }

/-- The first of `x.bytes` begins at this tick: FULL mode waits for READY, the others drive it at once (R140 to R142). -/
def beginByte (x : Sending) (s : State) : State :=
  match x.mode with
  | .fullMode => enterPhase .waitReady x s
  | _ => enterPhase .settle x (driveByte (x.bytes.headD 0) s)

/-- The byte being passed ends and the next begins (R139). -/
def nextByte (x : Sending) (s : State) : State := beginByte { x with bytes := x.bytes.tail } (driveStb false s)

/-- The byte being passed is the last of its frame. -/
def Sending.lastByte (x : Sending) : Bool := decide (x.bytes.length ≤ 1)

/-- A FLAG wait other than the one that ends the row is met at the level `high` (R140, R141). -/
def flagStep (high : Bool) (s : State) : State :=
  match s.board.sending with
  | none => s
  | some x =>
    if waitMet x s.flagBefore high s.tick then
      match x.phase with
      | .waitReady => enterPhase .settle x (driveByte (x.bytes.headD 0) s)
      | _ => if x.lastByte then s else nextByte x s
    else s

/-- FLAG_WAIT_MET (R140, R141). -/
def execFlagWaitMet (flag : Bool) (s : State) : Host.Outcome State Fault Refusal := .next (flagStep flag (s.sampleFlag flag))

/-- A settle time has expired (R140 to R142). -/
def settleExpired (x : Sending) (now : Tick) : Bool :=
  match x.phase with
  | .settle => decide (x.settle ≤ interval x.since now)
  | .settleAfter => decide (x.settle ≤ interval x.since now) && !x.lastByte
  | _ => false

/-- SETTLE_TIME_EXPIRY: STB is asserted, or in STROBE mode after the strobe the next byte begins (R140 to R142). -/
def execSettleTimeExpiry (s : State) : Host.Outcome State Fault Refusal :=
  match s.board.sending with
  | none => .next s
  | some x =>
    if settleExpired x s.tick then
      match x.phase, x.mode with
      | .settle, .strobeMode => .next (enterPhase .strobe x (driveStb true s))
      | .settle, _ => .next (enterPhase .waitAccept x (driveStb true s))
      | _, _ => .next (nextByte x s)
    else .next s

/-- The strobe width has expired (R142). -/
def strobeExpired (x : Sending) (now : Tick) : Bool :=
  decide (x.phase = .strobe ∧ x.strobeWidth ≤ interval x.since now)

/-- STROBE_WIDTH_EXPIRY: STB is released and the second settle wait begins (R142). -/
def execStrobeWidthExpiry (s : State) : Host.Outcome State Fault Refusal :=
  match s.board.sending with
  | none => .next s
  | some x => if strobeExpired x s.tick then .next (enterPhase .settleAfter x (driveStb false s)) else .next s

/-! ## The scheduler (R135 to R138) -/

/-- The round-robin row: the first unmasked row at or after the pointer, from 21 back to 0 (R137). -/
def roundRobinRow (s : State) : Option Nat :=
  ((List.range Config.rowCount).map (fun i => (s.board.pointer + i) % Config.rowCount)).find? (fun r => !s.rowMasked r)

/-- The row that the scheduler chooses, and whether as the round-robin row: the first case of R137 that holds. -/
def rowChoice (s : State) : Option (Nat × Bool) :=
  if s.board.balance = -Config.balanceBound ∧ 0 < unmaskedRows s.board.mask then (roundRobinRow s).map (fun r => (r, true))
  else
    match s.board.queue with
    | r :: _ => some (r, false)
    | [] =>
      if s.board.balance < Config.balanceBound ∧ 0 < unmaskedRows s.board.mask then
        (roundRobinRow s).map (fun r => (r, true))
      else none

/-- The unit is OWNING, no row is in transmission and no stop is pending (R137). -/
def linkFree (s : State) : Bool :=
  decide (s.share.state = .owning) && s.board.sending.isNone && !s.share.yieldPending && !s.share.releasePending

/-- A row's transmission begins: it is composed, and the options of the moment are kept for it (R134, R139). -/
def startRow (r : Nat) (roundRobin : Bool) (s : State) : State :=
  beginByte
    { row := r, roundRobin := roundRobin, changed := false, bytes := rowFrame r (composeRow s r), phase := .waitReady
      since := s.tick, mode := s.options.boardMode, flagPolarity := s.options.flagPolarity, accept := s.options.accept
      settle := s.options.settle, strobeWidth := s.options.strobeWidth, byteTimeout := s.options.byteTimeout } s

/-- The row that starts at this tick, if any (R137). -/
def rowToStart (s : State) : Option (Nat × Bool) := if linkFree s then rowChoice s else none

/-- ROW_START (R137). -/
def execRowStart (s : State) : Host.Outcome State Fault Refusal :=
  match rowToStart s with
  | some (r, rr) => .next (startRow r rr s)
  | none => .next s

/-- The last byte of the row ends at this tick: its FLAG wait is met, or in STROBE mode the second settle wait expires
(R138, R140 to R142). -/
def rowEnds (x : Sending) (before high : Bool) (now : Tick) : Bool :=
  x.lastByte &&
    (match x.phase with
     | .waitAccept => waitMet x before high now
     | .settleAfter => decide (x.settle ≤ interval x.since now)
     | _ => false)

/-- What a complete send does to the queue, the balance and the pointer; a set changed-while-sending flag then marks the row
again, its mask notwithstanding (R134, R138). -/
def completeBoard (x : Sending) (b : Board) : Board :=
  let q := b.queue.erase x.row
  { b with
    queue := if x.changed then joinQueue x.row q else q
    balance := if x.roundRobin then min Config.balanceBound (b.balance + 1) else b.balance
    pointer := if x.roundRobin then (x.row + 1) % Config.rowCount else b.pointer
    sending := none }

/-- ROW_COMPLETE (R138). -/
def execRowComplete (flag : Bool) (s : State) : Host.Outcome State Fault Refusal :=
  let t := s.sampleFlag flag
  match t.board.sending with
  | none => .next t
  | some x =>
    if rowEnds x t.flagBefore flag t.tick then
      .next (driveStb false { t with board := completeBoard x t.board })
    else .next t

/-- A wait on FLAG has lasted longer than the byte timeout (R143). -/
def waitFailed (x : Sending) (now : Tick) : Bool :=
  decide ((x.phase = .waitReady ∨ x.phase = .waitAccept) ∧ x.byteTimeout < interval x.since now)

/-- The row in transmission is abandoned: STB is released, and the queue, the balance and the pointer are unchanged
(R143, R144). -/
def abandonRow (s : State) : State := driveStb false { s with board := { s.board with sending := none } }

/-- BOARD_STALL (R143). -/
def execBoardStall (s : State) : Host.Outcome State Fault Refusal :=
  match s.board.sending with
  | none => .next s
  | some x => if waitFailed x s.tick then .next (handAlarm .boardStall none (abandonRow s)) else .next s

/-- The slot in progress has lasted its period (R135). -/
def slotExpired (s : State) : Bool :=
  match s.board.slot with
  | some st => decide (s.board.slotPeriod ≤ interval st s.tick)
  | none => false

/-- SLOT_EXPIRY: a new slot starts, and the balance falls by 1, or at −8 BOARD_OVERDUE is handed (R135, R136). -/
def execSlotExpiry (s : State) : Host.Outcome State Fault Refusal :=
  if slotExpired s then
    let t : State := { s with board := { s.board with slot := some s.tick } }
    if -Config.balanceBound < s.board.balance then
      .next { t with board := { t.board with balance := s.board.balance - 1 } }
    else .next (handAlarm .boardOverdue none t)
  else .next s

/-! ## Markings that follow the race clock (R130) and split holds (R129) -/

/-- The race is RUNNING and its clock, below the limit, reaches a whole multiple of `n` ticks (R130). -/
def clockMultiple (n : Nat) (s : State) : Bool :=
  decide (s.race.state = .running ∧ s.raceClock < Config.clockLimit ∧ s.raceClock % n = 0)

/-- HEADER_TENTHS (R130). -/
def execHeaderTenths (s : State) : Host.Outcome State Fault Refusal :=
  if clockMultiple 1000 s then .next (markRow 0 s) else .next s

/-- The swimming lanes whose split hold is not running (R130). -/
def runningLanes (s : State) : List Nat :=
  laneNumbers.filter (fun n => decide ((s.lane n).state = .swimming) && (s.hold n).isNone)

/-- RUNNING_SECONDS (R130). -/
def execRunningSeconds (s : State) : Host.Outcome State Fault Refusal :=
  if clockMultiple 10000 s then .next (forEach (runningLanes s) markLaneRow s) else .next s

/-- A lane's split hold has run its length (R129). -/
def holdExpired (lane : Nat) (s : State) : Bool :=
  match s.hold lane with
  | some h => decide (h.width ≤ interval h.start s.tick)
  | none => false

/-- SPLIT_HOLD_EXPIRY (R129). -/
def execSplitHoldExpiry (lane : Nat) (s : State) : Host.Outcome State Fault Refusal :=
  if Config.laneCount ≤ lane then .fault (.noSuchLane lane)
  else if holdExpired lane s then .next (endHold lane s)
  else .next s

/-! ## BOARD_TEXT (R132) and ROW_MASK (R145) -/

/-- BOARD_TEXT on its payload: the footer text is stored and row 11 marked (R132). -/
def actBoardText (f : Frame) (s : State) : State :=
  putReply f .ok [] (markRow 11 { s with board := { s.board with footer := storedText 32 f.payload } })

/-- BOARD_TEXT (R132). -/
def execBoardText (s : State) : Host.Outcome State Fault Refusal := .next (takePlain 0x22 (fun _ => true) actBoardText s)

/-- The slot timer starts from the current tick with the period of the moment (R135). -/
def startSlot (s : State) : State := { s with board := { s.board with slot := some s.tick, slotPeriod := s.period } }

/-- The slot timer after a change of n: stopped at 0, started on a rise from 0, while OWNING (R135). -/
def adjustSlot (before : Nat) (s : State) : State :=
  let n := unmaskedRows s.board.mask
  if s.share.state ≠ .owning then s
  else if n = 0 then { s with board := { s.board with slot := none } }
  else if before = 0 then startSlot s
  else s

/-- The row mask that a ROW_MASK payload carries, row r by bit r (R145, section 11.9). -/
def rowMaskOf (p : List Byte) : List Bool := (List.range Config.rowCount).map (fun r => (numberOf p).testBit r)

/-- ROW_MASK after its length check: the masks are set, and each row whose mask changed is marked, in ascending order,
whatever its mask (R145). -/
def actRowMask (f : Frame) (s : State) : State :=
  let new := rowMaskOf f.payload
  let changed := (List.range Config.rowCount).filter (fun r => decide (s.rowMasked r ≠ new.getD r false))
  let t : State := { s with board := { s.board with mask := new } }
  putReply f .ok [] (adjustSlot (unmaskedRows s.board.mask) (forEach changed markAnyRow t))

/-- ROW_MASK (R145). -/
def execRowMask (s : State) : Host.Outcome State Fault Refusal :=
  .next (takePlain 0x23 (fun n => decide (n = 3)) actRowMask s)

end Sys2Proof.Machine
end

