-- ==== Sys2Proof/Machine/BoardShare.lean ====
section
/-!
DEFINITION. The Board Share Unit: claims (R149), the states driven by the partner's lines (R150), gaining and losing the board
(R151 to R155), BOARD_TAKE, BOARD_RELEASE and the BOARD notices (R156).
-/
namespace Sys2Proof.Machine

/-- The ownership inputs are sampled: a run of samples with REQ_IN active ends at an inactive one (R148, R154). -/
def State.sampleShare (v : ShareLevels) (s : State) : State :=
  { s with
    pins := { s.pins with share := v }
    share := { s.share with reqRun := s.share.reqRun && v.req } }

/-- The BOARD notice of a change from `old` to the present ownership state (R156). -/
def handBoard (old : Ownership) (r : BoardReason) (s : State) : State :=
  handNotice 0x51 [ownershipCode s.share.state, ownershipCode old, posCode s.share.unitA, boardReasonCode r] s

/-- The ownership state changes, with its BOARD notice (R156). This tick's sample has then been judged (log entry 18). -/
def setOwnership (new : Ownership) (r : BoardReason) (s : State) : State :=
  handBoard s.share.state r { s with share := { s.share with state := new }, shareDue := false }

/-- A claim begins: OWN_OUT is asserted, REQ_OUT and FORCE_OUT drop with the take wait (R149, R153). -/
def beginClaim (s : State) : State := { s with share := { s.share with claim := some s.tick, takeWait := none } }

/-- The unit enters FREE, other than by BOARD_RELEASE: with take-when-free on it begins a claim after its notice (R150). -/
def enterFree (r : BoardReason) (s : State) : State :=
  let t := setOwnership .free r s
  if t.options.takeWhenFree then beginClaim t else t

/-- A claim or an ask ends with every ownership output dropped (R149, R153, R155). -/
def dropAsk (s : State) : State := { s with share := { s.share with claim := none, takeWait := none } }

/-! ## Gaining and losing the board (R152) -/

/-- The unit enters OWNING: the gate opens with 0x00 and STB released, B is 0, the slot timer starts, the repaint marks every
row, and BOARD TAKEN is handed (R152). -/
def gainBoard (s : State) : State :=
  let old := s.share.state
  let t : State :=
    { s with
      share := { s.share with state := .owning, claim := none, takeWait := none, reqRun := false, reqDue := false }
      board := { s.board with drive := some { data := 0, stb := false }, balance := 0, slot := none }
      shareDue := false }
  handBoard old .taken (markAllRows (adjustSlot 0 t))

/-- The unit leaves OWNING: the gate closes, B becomes 0, the slot timer stops, no row is in transmission, and no stop is
pending (R152). -/
def loseBoard (s : State) : State :=
  { s with
    share := { s.share with yieldPending := false, releasePending := false, reqRun := false, reqDue := false }
    board := { s.board with drive := none, balance := 0, slot := none, sending := none } }

/-- The unit leaves OWNING by a yield (R154). -/
def leaveByYield (s : State) : State := setOwnership .partnerOwns .yielded (loseBoard s)

/-- The unit leaves OWNING by a release, or by a yield where one is pending too: to PARTNER_OWNS if a yield is pending or OWN_IN
reads active, otherwise to FREE without a claim (R155). -/
def leaveByRelease (s : State) : State :=
  if s.share.yieldPending then leaveByYield s
  else if s.pins.share.own then setOwnership .partnerOwns .released (loseBoard s)
  else setOwnership .free .released (loseBoard s)

/-! ## Timed and sampled commands -/

/-- The claim window has ended, and this unit has not lost the claim to OWN_IN (R149). -/
def claimWon (s : State) : Bool :=
  match s.share.claim with
  | some c => decide (Config.claimWindow ≤ interval c s.tick) && (s.share.unitA || !s.pins.share.own)
  | none => false

/-- CLAIM_WINDOW_END (R149, R152). -/
def execClaimWindowEnd (s : State) : Host.Outcome State Fault Refusal :=
  if claimWon s then .next (gainBoard s) else .next s

/-- Unit B, claiming, reads OWN_IN active at a sample from the tick after the claim's start on (R149). -/
def withdraws (s : State) : Bool :=
  match s.share.claim with
  | some c => decide (1 ≤ interval c s.tick) && !s.share.unitA && s.pins.share.own
  | none => false

/-- CLAIM_WITHDRAWN (R149). -/
def execClaimWithdrawn (levels : ShareLevels) (s : State) : Host.Outcome State Fault Refusal :=
  let t := s.sampleShare levels
  if withdraws t then .next (setOwnership .partnerOwns .withdrawn (dropAsk t)) else .next t

/-- A FREE unit without a claim reads OWN_IN active (R150). -/
def partnerTakes (s : State) : Bool :=
  decide (s.share.state = .free) && s.share.claim.isNone && s.pins.share.own

/-- PARTNER_TOOK (R150). -/
def execPartnerTook (levels : ShareLevels) (s : State) : Host.Outcome State Fault Refusal :=
  let t := s.sampleShare levels
  if partnerTakes t then .next (setOwnership .partnerOwns .partnerTook t) else .next t

/-- A PARTNER_OWNS unit reads OWN_IN and REQ_IN inactive (R150). -/
def boardIsFree (s : State) : Bool :=
  decide (s.share.state = .partnerOwns) && !s.pins.share.own && !s.pins.share.req

/-- BOARD_FREE (R150). -/
def execBoardFree (levels : ShareLevels) (s : State) : Host.Outcome State Fault Refusal :=
  let t := s.sampleShare levels
  if boardIsFree t then .next (enterFree .free t) else .next t

/-- The unit is ASKING or FORCING (R153). -/
def askingOrForcing (s : State) : Bool := decide (s.share.state = .asking) || decide (s.share.state = .forcing)

/-- An ASKING or FORCING unit without a claim reads OWN_IN inactive (R153). -/
def claimOpens (s : State) : Bool := askingOrForcing s && s.share.claim.isNone && !s.pins.share.own

/-- CLAIM_ON_OWN_IN_INACTIVE (R153). -/
def execClaimOnOwnInInactive (levels : ShareLevels) (s : State) : Host.Outcome State Fault Refusal :=
  let t := s.sampleShare levels
  if claimOpens t then .next { beginClaim t with shareDue := false } else .next t

/-- The take wait has run, measured against the option of this tick (R153; log entry 6). -/
def takeWaitExpired (s : State) : Bool :=
  match s.share.takeWait with
  | some st => askingOrForcing s && s.share.claim.isNone && decide (s.tested.takeWait ≤ interval st s.tick)
  | none => false

/-- The take wait's expiry: ASKING with the force flag moves to FORCING with a new wait, otherwise the take fails (R153). It
leaves this tick's sample of OWN_IN to be judged in the new state. -/
def failOrForce (s : State) : State :=
  let due := s.shareDue
  let t :=
    if s.share.state = .asking ∧ s.share.force = true then
      setOwnership .forcing .forcing { s with share := { s.share with takeWait := some s.tick } }
    else setOwnership .partnerOwns .takeFailed (dropAsk s)
  { t with shareDue := due }

/-- TAKE_WAIT_EXPIRY (R153). -/
def execTakeWaitExpiry (s : State) : Host.Outcome State Fault Refusal :=
  if takeWaitExpired s then .next (failOrForce s) else .next s

/-- A pending yield or release finds the link free (R144, R154, R155). -/
def stopReady (s : State) : Bool :=
  decide (s.share.state = .owning) && (s.share.yieldPending || s.share.releasePending) && s.board.sending.isNone

/-- An OWNING unit reads REQ_IN active (R154). Once the row that a stop waits for has ended, the unit leaves OWNING at that tick,
and REQ_IN is not read (R155, R158). -/
def readsRequest (s : State) : Bool := decide (s.share.state = .owning) && s.pins.share.req && !stopReady s

/-- What an OWNING unit does at a sample with REQ_IN active (R154): with yield on it begins a yield, unless one is pending; with
yield off it hands ASKED at the first sample of the run. Whichever it does, the run and this tick's sample have been read (log
entries 18, 19). -/
def onRequest (s : State) : State :=
  let t : State := { s with share := { s.share with reqRun := true, reqDue := false } }
  if s.options.yieldOnRequest then
    if s.share.yieldPending then t
    else if s.board.sending.isNone then leaveByYield t
    else { t with share := { t.share with yieldPending := true } }
  else if s.share.reqRun then t
  else handBoard .owning .asked t

/-- REQ_IN_ACTIVE (R154). -/
def execReqInActive (levels : ShareLevels) (s : State) : Host.Outcome State Fault Refusal :=
  let t := s.sampleShare levels
  if readsRequest t then .next (onRequest t) else .next t

/-- STOP_AFTER_ROW (R144, R154, R155). -/
def execStopAfterRow (s : State) : Host.Outcome State Fault Refusal :=
  if stopReady s then .next (leaveByRelease s) else .next s

/-- An OWNING unit reads FORCE_IN active (R154). Where the completion of the row that a stop waits for has been taken first, the
unit leaves by yield or release and FORCE_IN is not read (R158). -/
def forcedOff (s : State) : Bool := decide (s.share.state = .owning) && s.pins.share.force && !stopReady s

/-- BOARD_LOST: the row is aborted, the gate closes, the alarm and then the notice are handed (R154, R144). -/
def execBoardLost (levels : ShareLevels) (s : State) : Host.Outcome State Fault Refusal :=
  let t := s.sampleShare levels
  if forcedOff t then .next (setOwnership .partnerOwns .lost (handAlarm .boardLost none (loseBoard (abandonRow t))))
  else .next t

/-! ## BOARD_TAKE (R151) and BOARD_RELEASE (R155) -/

/-- The ownership state as the last reply field. -/
def ownershipField (s : State) : List Byte := [ownershipCode s.share.state]

/-- A BOARD_TAKE in PARTNER_OWNS: the force flag is stored and the take wait starts (R151). A claim begins at the next sample at
the earliest (R153). -/
def beginAsk (force : Bool) (s : State) : State :=
  setOwnership .asking .asking { s with share := { s.share with force := force, takeWait := some s.tick } }

/-- BOARD_TAKE after its length check, by the ownership state (R151). -/
def actBoardTake (f : Frame) (s : State) : State :=
  let flag := byteAt f.payload 0
  if 1 < flag.toNat then putReply f .outOfRange (ownershipField s) s
  else
    match s.share.state with
    | .free =>
      if s.share.claim.isSome then putReply f .busy (ownershipField s) s
      else putReply f .ok (ownershipField s) (beginClaim s)
    | .owning => putReply f .ok (ownershipField s) s
    | .partnerOwns =>
      let t := beginAsk (decide (flag = 1)) s
      putReply f .ok (ownershipField t) t
    | .asking => putReply f .busy (ownershipField s) s
    | .forcing => putReply f .busy (ownershipField s) s

/-- BOARD_TAKE (R151): the ownership state is carried with every code (section 11.9; log entry 12). -/
def execBoardTake (s : State) : Host.Outcome State Fault Refusal :=
  .next (takeRequest 0x20 (fun _ => true) (fun n => decide (n = 1)) ownershipField actBoardTake s)

/-- BOARD_RELEASE by the ownership state (R155). -/
def releaseBoard (s : State) : State :=
  match s.share.state with
  | .owning =>
    if s.share.yieldPending || s.share.releasePending then s
    else if s.board.sending.isNone then leaveByRelease s
    else { s with share := { s.share with releasePending := true } }
  | .free => { s with share := { s.share with claim := none } }
  | .partnerOwns => s
  | .asking => setOwnership (if s.pins.share.own then .partnerOwns else .free) .released (dropAsk s)
  | .forcing => setOwnership (if s.pins.share.own then .partnerOwns else .free) .released (dropAsk s)

/-- BOARD_RELEASE after its length check (R155). -/
def actBoardRelease (f : Frame) (s : State) : State :=
  let t := releaseBoard s
  putReply f .ok (ownershipField t) t

/-- BOARD_RELEASE (R155). -/
def execBoardRelease (s : State) : Host.Outcome State Fault Refusal :=
  .next (takePlain 0x21 (fun n => decide (n = 0)) actBoardRelease s)

end Sys2Proof.Machine
end

