-- ==== Sys2Proof/Machine/LampUnit.lean ====
section
/-!
DEFINITION. The expiries of the Lamp Unit's timers (R159, R161 to R163).
-/
namespace Sys2Proof.Machine

/-- A running timer has kept its function on for its width (R159). -/
def LampTimer.expired (now : Tick) (x : LampTimer) : Bool :=
  match x.run with
  | some r => decide (r.width ≤ interval r.start now)
  | none => false

/-- An expired timer stops; a timer that is stopped or has not run its width is left as it is (R161 to R163). -/
def LampTimer.expire (now : Tick) (x : LampTimer) : LampTimer := if x.expired now then { x with run := none } else x

/-- PULSE_EXPIRY (R161). -/
def execPulseExpiry (f : PulseId) (s : State) : Host.Outcome State Fault Refusal :=
  match f with
  | .startFlash lane =>
    if Config.laneCount ≤ lane then .fault (.noSuchLane lane)
    else .next { s with lamps.startFlash := s.lamps.startFlash.modify lane (LampTimer.expire s.tick) }
  | .bell => .next { s with lamps.bell := s.lamps.bell.expire s.tick }

/-- EXTENDED_EXPIRY (R162). -/
def execExtendedExpiry (f : ExtendedId) (s : State) : Host.Outcome State Fault Refusal :=
  match f with
  | .takeoffAlert lane =>
    if Config.laneCount ≤ lane then .fault (.noSuchLane lane)
    else .next { s with lamps.takeoffAlert := s.lamps.takeoffAlert.modify lane (LampTimer.expire s.tick) }
  | .record => .next { s with lamps.record := s.lamps.record.expire s.tick }

/-- OFF_DELAY_EXPIRY (R163): DELAY goes to IDLE. -/
def execOffDelayExpiry (lane : Nat) (s : State) : Host.Outcome State Fault Refusal :=
  if Config.laneCount ≤ lane then .fault (.noSuchLane lane)
  else .next { s with lamps.finalLength := s.lamps.finalLength.modify lane (LampTimer.expire s.tick) }

end Sys2Proof.Machine
end

