-- ==== Sys2Proof/Machine/Capture.lean ====
section
/-!
DEFINITION. The Capture Unit: normalised levels (R3), pending edges (R6), confirmation (R7), delivery and re-arm (R10 to R14,
R17, R18), stuck lines (R15), the loading of lines (R5, R21), LINE_MASK (R19) and LINE_LEVELS (R20).
-/
namespace Sys2Proof.Machine

/-! ## Samples (R3) -/

/-- The polarity of a class (section 1.2). -/
def Options.polarity (o : Options) (c : LineClass) : Polarity :=
  match c with
  | .pad => o.polPad
  | .button => o.polButton
  | .block => o.polBlock
  | .start => o.polStart

/-- The deglitch time of a class (section 1.2). -/
def Options.deglitch (o : Options) (c : LineClass) : Nat :=
  match c with
  | .pad => o.deglitchPad
  | .button => o.deglitchButton
  | .block => o.deglitchBlock
  | .start => o.deglitchStart

/-- The normalised level, true for active: the high level under NORMAL polarity, the low level under INVERTED (R3). -/
def normalised (p : Polarity) (high : Bool) : Bool :=
  match p with
  | .normal => high
  | .inverted => !high

/-- The normalised level of a sample of line `n`, under the polarity in force at the sample (R3, R5). -/
def State.level (s : State) (n : Nat) (high : Bool) : Bool := normalised (s.tested.polarity (lineClass n)) high

/-- Line `n` is sampled at a level. -/
def State.sampleLine (n : Nat) (high : Bool) (s : State) : State :=
  { s with pins := { s.pins with lines := s.pins.lines.set n high } }

/-! ## Loading a line (R5, R21) -/

/-- The re-arm state of a line loaded at a level (R21); a BLOCK line has none (R14). -/
def loadedRearm (c : LineClass) (active : Bool) : ReArm :=
  match c with
  | .pad => if active then .waitRelease else .ready
  | .button => if active then .waitRelease else .ready
  | .start => if active then .held else .ready
  | .block => .unused

/-- A line is loaded at a level at a tick, its mask kept: no pending edge, NORMAL, re-arm state by the level, and the active
time of a line loaded active measured from that tick (R5). -/
def Line.load (c : LineClass) (active : Bool) (now : Tick) (l : Line) : Line :=
  { l with
    active := active
    pendingEdge := none
    stuck := false
    activeSince := if active then now else l.activeSince
    rearm := loadedRearm c active }

/-! ## Pending edges (R6) -/

/-- R6 records a pending edge: none is pending and the level differs from the edge memory. -/
def Line.startsEdge (level : Bool) (l : Line) : Bool := l.pendingEdge.isNone && (level != l.active)

/-- R6 drops the pending edge: one is pending and the level equals the edge memory. -/
def Line.dropsEdge (level : Bool) (l : Line) : Bool := l.pendingEdge.isSome && (level == l.active)

/-- R7 confirms the pending edge: the level equals its candidate and the interval from its leading-edge tick reaches the
deglitch time. -/
def Line.confirms (level : Bool) (deglitch : Nat) (now : Tick) (l : Line) : Option PendingEdge :=
  match l.pendingEdge with
  | some e => if level = e.active ∧ deglitch ≤ interval e.lead now then some e else none
  | none => none

/-- PENDING_EDGE (R6). -/
def execPendingEdge (line : Nat) (high : Bool) (s : State) : Host.Outcome State Fault Refusal :=
  if Config.lineCount ≤ line then .fault (.noSuchLine line)
  else
    let t := s.sampleLine line high
    let level := t.level line high
    if (t.line line).startsEdge level then
      .next (t.updLine line (fun l => { l with pendingEdge := some { lead := t.tick, active := level } }))
    else .next t

/-- PENDING_EDGE_DROPPED (R6). -/
def execPendingEdgeDropped (line : Nat) (high : Bool) (s : State) : Host.Outcome State Fault Refusal :=
  if Config.lineCount ≤ line then .fault (.noSuchLine line)
  else
    let t := s.sampleLine line high
    if (t.line line).dropsEdge (t.level line high) then .next (t.updLine line (fun l => { l with pendingEdge := none }))
    else .next t

/-! ## Confirmed edges (R7, R10 to R14, R17, R18) -/

/-- The re-arm state after a confirmed edge (R10, R11, R13, R14). A break whose hold has run out at the tick of its
confirmation passes through HOLD to READY (R11). -/
def rearmAfter (c : LineClass) (e : PendingEdge) (now : Tick) (hold : Nat) (r : ReArm) : ReArm :=
  match c, e.active with
  | .pad, true => .waitRelease
  | .pad, false =>
    if r = .waitRelease then (if hold ≤ interval e.lead now then .ready else .hold e.lead) else r
  | .button, true => .waitRelease
  | .button, false => .ready
  | .start, true => if r = .ready then .active else r
  | .start, false => .ready
  | .block, _ => .unused

/-- The line after its pending edge `e` is confirmed (R7): a confirmed release ends STUCK (R17). -/
def Line.confirmed (c : LineClass) (e : PendingEdge) (now : Tick) (hold : Nat) (l : Line) : Line :=
  { l with
    active := e.active
    pendingEdge := none
    stuck := l.stuck && e.active
    activeSince := if e.active then e.lead else l.activeSince
    rearm := rearmAfter c e now hold l.rearm }

/-- The capture event that a confirmed edge of an unmasked NORMAL line delivers, if its re-arm state allows one (R10 to
R14). -/
def captureOf (n : Nat) (l : Line) (e : PendingEdge) (trigger : TriggerEdge) : Option CaptureEvent :=
  match lineClass n, e.active with
  | .pad, true => if l.rearm = .ready then some (.padMake (lineLane n) (lineEnd n) e.lead) else none
  | .pad, false => none
  | .button, true => if l.rearm = .ready then some (.buttonPress (lineLane n) (lineButton n) e.lead) else none
  | .button, false => none
  | .block, true => some (.blockLoad (lineLane n) e.lead)
  | .block, false => some (.blockRelease (lineLane n) e.lead)
  | .start, true => if l.rearm = .ready ∧ trigger = .onActivate then some (.start e.lead) else none
  | .start, false => if l.rearm = .active ∧ trigger = .onRelease then some (.start e.lead) else none

/-- The capture event delivered, if any: none from a masked or a STUCK line (R10, R16, R18). -/
def delivered (n : Nat) (l : Line) (e : PendingEdge) (trigger : TriggerEdge) : Option CaptureEvent :=
  if l.masked ∨ l.stuck then none else captureOf n l e trigger

/-- A pending edge is confirmed: the line is updated, and the event, if one is delivered, is taken by the Race Engine (R7,
R9). -/
def confirmEdge (n : Nat) (e : PendingEdge) (s : State) : State :=
  let t := s.updLine n (Line.confirmed (lineClass n) e s.tick s.tested.padHold)
  match delivered n (s.line n) e s.options.trigger with
  | some c => takeCapture c t
  | none => t

/-- EDGE_CONFIRMED (R7). -/
def execEdgeConfirmed (line : Nat) (high : Bool) (s : State) : Host.Outcome State Fault Refusal :=
  if Config.lineCount ≤ line then .fault (.noSuchLine line)
  else
    let t := s.sampleLine line high
    match (t.line line).confirms (t.level line high) (t.tested.deglitch (lineClass line)) t.tick with
    | some e => .next (confirmEdge line e t)
    | none => .next t

/-! ## The release hold and stuck lines (R11, R12, R15) -/

/-- The hold timer of a pad has run out, measured against the option of this tick (R11, R12). -/
def padHoldExpired (n : Nat) (s : State) : Bool :=
  match (s.line n).rearm with
  | .hold start => decide (s.tested.padHold ≤ interval start s.tick)
  | _ => false

/-- PAD_HOLD_EXPIRY (R11): the pad goes from HOLD to READY. -/
def execPadHoldExpiry (line : Nat) (s : State) : Host.Outcome State Fault Refusal :=
  if Config.lineCount ≤ line then .fault (.noSuchLine line)
  else if padHoldExpired line s then .next (s.updLine line (fun l => { l with rearm := .ready }))
  else .next s

/-- The stuck alarm of a line, with its lane (R15); a BLOCK line has no stuck check (R14). -/
def stuckAlarm (n : Nat) : Option (AlarmKind × Option Nat) :=
  match lineClass n with
  | .pad => some (.padStuck, some (lineLane n))
  | .button => some (.buttonStuck, some (lineLane n))
  | .start => some (.startStuck, none)
  | .block => none

/-- A NORMAL active line has been active for longer than the stuck time (R15). -/
def stuckDue (n : Nat) (s : State) : Bool :=
  let l := s.line n
  (stuckAlarm n).isSome && !l.stuck && l.active && decide (s.tested.stuckTime < interval l.activeSince s.tick)

/-- LINE_STUCK (R15): the line goes to STUCK and its alarm is handed. -/
def execLineStuck (line : Nat) (s : State) : Host.Outcome State Fault Refusal :=
  if Config.lineCount ≤ line then .fault (.noSuchLine line)
  else
    match stuckAlarm line with
    | some (k, lane) =>
      if stuckDue line s then .next (handAlarm k lane (s.updLine line (fun l => { l with stuck := true })))
      else .next s
    | none => .next s

/-! ## LINE_MASK and LINE_LEVELS (R18 to R20) -/

/-- A line takes the mask setting carried for it: a mask newly set drops the pending edge (R18). -/
def Line.setMask (mask : Bool) (l : Line) : Line :=
  { l with masked := mask, pendingEdge := if mask && !l.masked then none else l.pendingEdge }

/-- LINE_MASK after its length check: every line takes its setting (R19). -/
def actLineMask (f : Frame) (s : State) : State :=
  putReply f .ok []
    { s with lines := s.lines.zipIdx.map (fun x => x.1.setMask ((numberOf f.payload).testBit x.2)) }

/-- LINE_MASK (R19). -/
def execLineMask (s : State) : Host.Outcome State Fault Refusal :=
  .next (takePlain 0x04 (fun n => decide (n = 8)) actLineMask s)

/-- The three sets of a LINE_LEVELS reply: confirmed levels, stuck lines, masks (R20, section 11.9). -/
def lineLevels (s : State) : List Byte :=
  lineSet (fun n => (s.line n).active) ++ lineSet (fun n => (s.line n).stuck) ++ lineSet (fun n => (s.line n).masked)

/-- LINE_LEVELS (R20). -/
def execLineLevels (s : State) : Host.Outcome State Fault Refusal :=
  .next (takePlain 0x05 (fun n => decide (n = 0)) (fun f t => putReply f .ok (lineLevels t) t) s)

end Sys2Proof.Machine
end

