-- ==== Sys2Proof/Machine/ConsoleLink.lean ====
section
/-!
DEFINITION. The Console Link Controller: frames and their check (R166), the receiver (R167), the receive buffer (R168), the
transmitter (R169), and the requests of the link itself: STATUS (R173), the options record (R174), WATCH (R171, R172), the
alarm list (R177) and RESET (R178).
-/
namespace Sys2Proof.Machine

/-! ## The frame and its check (R166) -/

/-- One bit of the check: the register is shifted left, and the polynomial is added where the bit shifted out is set. -/
def crcBit (r : BitVec 16) : BitVec 16 := if r.msb then (r <<< 1) ^^^ 0x1021 else r <<< 1

/-- One byte of the check, shifted in most significant bit first. -/
def crcByte (r : BitVec 16) (b : Byte) : BitVec 16 :=
  crcBit (crcBit (crcBit (crcBit (crcBit (crcBit (crcBit (crcBit (r ^^^ (b.zeroExtend 16 <<< 8)))))))))

/-- The CRC-16 of a run of bytes: the register starts at 0xFFFF (R166). -/
def crc (bs : List Byte) : BitVec 16 := bs.foldl crcByte 0xFFFF

/-- Bytes 1 to N + 3 of a frame: length, tag, kind and payload. -/
def Frame.body (f : Frame) : List Byte := [byte f.payload.length, f.tag, f.kind] ++ f.payload

/-- The bytes of a frame on the line: lead byte, body and check, high byte first (R166, section 11.9). -/
def Frame.bytes (f : Frame) : List Byte := 0xA7 :: f.body ++ bytesOf 2 (crc f.body).toNat

/-- The bit rate that the straps select, in bit/s (R166). -/
def bitRate (rate1 rate0 : Bool) : Nat :=
  match rate1, rate0 with
  | false, false => 57600
  | false, true => 115200
  | true, false => 230400
  | true, true => 460800

/-- The ticks that a message of `len` bytes takes: the smallest whole number not less than 100,000 × L / r (R166). -/
def sendTicks (len rate : Nat) : Nat := (100000 * len + rate - 1) / rate

/-! ## The receiver (R167) -/

/-- What one received byte does (R167): the receiver goes on, a frame completes, or the frame fails with the bytes to examine
again. -/
inductive RxOutcome where
  | waiting (state : RxState) (held : List Byte)
  | complete (f : Frame)
  | failed (reason : LinkError) (again : List Byte)
deriving DecidableEq, Repr

/-- The frame that held bytes make, the lead byte first and the two check bytes last. -/
def frameOf (held : List Byte) : Frame where
  kind := byteAt held 3
  tag := byteAt held 2
  payload := (held.drop 4).take (held.length - 6)

/-- The check of held bytes matches (R166). -/
def checkMatches (held : List Byte) : Bool :=
  decide (held.drop (held.length - 2) = bytesOf 2 (crc ((held.drop 1).take (held.length - 3))).toNat)

/-- The table of R167: what the byte `b` does in a state with the bytes held. -/
def rxTake (state : RxState) (held : List Byte) (b : Byte) : RxOutcome :=
  match state with
  | .hunt => if b = 0xA7 then .waiting .length [b] else .waiting .hunt []
  | .length =>
    if b.toNat ≤ Config.maxPayload then .waiting (.body (b.toNat + 4)) (held ++ [b])
    else .failed .length ((held ++ [b]).drop 1)
  | .body n =>
    if 1 < n then .waiting (.body (n - 1)) (held ++ [b])
    else if checkMatches (held ++ [b]) then .complete (frameOf (held ++ [b]))
    else .failed .check ((held ++ [b]).drop 1)

/-- The receiver takes a state with the bytes it holds. -/
def setReceiver (state : RxState) (held : List Byte) (s : State) : State :=
  { s with link := { s.link with receiver := { s.link.receiver with state := state, held := held } } }

/-- The LINK_ERROR notice (R167, R168): kind and tag are 0 except for OVERRUN. -/
def handLinkError (reason : LinkError) (kind tag : Byte) (s : State) : State :=
  handNotice 0x52 [linkErrorCode reason, kind, tag] s

/-- A complete frame joins the tail of the receive buffer, or is discarded with a LINK_ERROR notice, reason OVERRUN, while
four are held (R168). -/
def joinBuffer (f : Frame) (s : State) : State :=
  if s.link.buffer.length < Config.bufferCapacity then
    { s with link := { s.link with buffer := s.link.buffer ++ [f] } }
  else handLinkError .overrun f.kind f.tag s

/-- What a byte's outcome does to the part, but for the bytes to examine again (R167, R168). -/
def rxEffect (o : RxOutcome) (s : State) : State :=
  match o with
  | .waiting st held => setReceiver st held s
  | .complete f => joinBuffer f (setReceiver .hunt [] s)
  | .failed reason _ => handLinkError reason 0 0 (setReceiver .hunt [] s)

/-- The bytes that an outcome puts before those not yet examined (R167). -/
def RxOutcome.again (o : RxOutcome) : List Byte :=
  match o with
  | .failed _ again => again
  | .waiting _ _ => []
  | .complete _ => []

/-- Bytes are examined in order, and after a further failure the bytes held behind its lead byte are examined again (R167; log
entry 15). The first argument bounds the number of examinations. -/
def examine : Nat → List Byte → State → State
  | 0, _, s => s
  | _ + 1, [], s => s
  | k + 1, b :: bs, s =>
    let o := rxTake s.link.receiver.state s.link.receiver.held b
    examine k (o.again ++ bs) (rxEffect o s)

/-- As many examinations as `n` bytes can need. -/
def examinations (n : Nat) : Nat := n * n + n

/-- What the receiver does with the byte `b`. -/
def State.rxOutcome (s : State) (b : Byte) : RxOutcome := rxTake s.link.receiver.state s.link.receiver.held b

/-- The tick of the latest byte received on the line is the current tick (R167). -/
def stampByte (s : State) : State :=
  { s with link := { s.link with receiver := { s.link.receiver with last := s.tick } } }

/-- A byte is received, with the examination of held bytes that a failure brings (R167). -/
def receiveByte (b : Byte) (s : State) : State :=
  let o := s.rxOutcome b
  examine (examinations o.again.length) o.again (rxEffect o (stampByte s))

/-- BYTE_RECEIVED (R167): a byte that neither completes a frame nor makes one fail. A byte whose stop bit reads low is dropped
(R166). -/
def execByteReceived (b : Byte) (stop : Bool) (s : State) : Host.Outcome State Fault Refusal :=
  match stop, s.rxOutcome b with
  | true, .waiting _ _ => .next (receiveByte b s)
  | _, _ => .next s

/-- FRAME_COMPLETE (R168): the last byte of a frame whose check matches. A byte whose stop bit reads low is dropped (R166). -/
def execFrameComplete (b : Byte) (stop : Bool) (s : State) : Host.Outcome State Fault Refusal :=
  match stop, s.rxOutcome b with
  | true, .complete _ => .next (receiveByte b s)
  | _, _ => .next s

/-- FRAME_FAILED (R167): a byte with which the frame fails, reason CHECK or LENGTH. A byte whose stop bit reads low is dropped
(R166). -/
def execFrameFailed (b : Byte) (stop : Bool) (s : State) : Host.Outcome State Fault Refusal :=
  match stop, s.rxOutcome b with
  | true, .failed _ _ => .next (receiveByte b s)
  | _, _ => .next s

/-- In LENGTH or BODY, the gap since the last byte received exceeds 200 ticks (R167). -/
def gapExceeded (s : State) : Bool :=
  decide (s.link.receiver.state ≠ .hunt ∧ Config.receiveGap < interval s.link.receiver.last s.tick)

/-- FRAME_TIMEOUT (R167): the frame fails with reason TIMEOUT, and its held bytes are dropped. -/
def execFrameTimeout (s : State) : Host.Outcome State Fault Refusal :=
  if gapExceeded s then .next (handLinkError .timeout 0 0 (setReceiver .hunt [] s)) else .next s

/-! ## Unknown kinds (R168) -/

/-- UNKNOWN_KIND (R168): the head of the receive buffer has a kind that the request table lacks. -/
def execUnknownKind (s : State) : Host.Outcome State Fault Refusal :=
  match s.requestReady with
  | none => .next s
  | some f => if knownKinds.contains f.kind then .next s else .next (putReply f .unknownKind [] (popRequest s))

/-! ## The transmitter (R169) -/

/-- The message that the transmitter would start: the watch answer, else the reply, else the notice at the head of the queue
(R169). -/
def State.nextMessage (s : State) : Option (TxSource × Frame) :=
  match s.link.watchAnswer, s.link.reply, s.link.notices with
  | some f, _, _ => some (.watchAnswer, f)
  | none, some f, _ => some (.reply, f)
  | none, none, f :: _ => some (.notice, f)
  | none, none, [] => none

/-- The message that the transmitter starts at this tick: TXD is free and no reset is due (R169, R178). -/
def State.messageToStart (s : State) : Option (TxSource × Frame) :=
  if s.link.sent.isNone ∧ s.link.resetDue = false then s.nextMessage else none

/-- A message starts on TXD; a notice leaves the queue (R166, R169). -/
def startMessage (src : TxSource) (f : Frame) (s : State) : State :=
  { s with link :=
    { s.link with
      sent := some
        { source := src, bytes := f.bytes
          timer := { start := s.tick, width := sendTicks f.bytes.length (bitRate s.link.rate1 s.link.rate0) } }
      notices := if src = .notice then s.link.notices.tail else s.link.notices } }

/-- MESSAGE_START (R169). -/
def execMessageStart (s : State) : Host.Outcome State Fault Refusal :=
  match s.messageToStart with
  | some (src, f) => .next (startMessage src f s)
  | none => .next s

/-- The message whose last byte has ended (R166, R169). -/
def State.messageDone (s : State) : Option TxSource :=
  match s.link.sent with
  | some m => if m.timer.width ≤ interval m.timer.start s.tick then some m.source else none
  | none => none

/-- The message on TXD ends: its slot empties, and the reply to RESET makes the reset due (R169, R178; log entry 14). -/
def endMessage (src : TxSource) (s : State) : State :=
  { s with link :=
    { s.link with
      sent := none
      watchAnswer := if src = .watchAnswer then none else s.link.watchAnswer
      reply := if src = .reply then none else s.link.reply
      resetDue := s.link.resetDue || (decide (src = .reply) && s.link.resetPending) } }

/-- MESSAGE_END (R169). -/
def execMessageEnd (s : State) : Host.Outcome State Fault Refusal :=
  match s.messageDone with
  | some src => .next (endMessage src s)
  | none => .next s

/-! ## STATUS (R173) and the options record (R174) -/

/-- The fields of the STATUS reply (R173, section 11.9). -/
def statusBytes (s : State) : List Byte :=
  [Config.familyCode, Config.revision, posCode s.share.unitA, raceCode s.race.state, ownershipCode s.share.state,
   byte s.link.alarms.length, statusFlags s] ++ tickBytes (some s.tick)

/-- STATUS after its length check: once the reply is composed, NOTICES_LOST and ALARM_FULL are cleared (R173). -/
def actStatus (f : Frame) (s : State) : State :=
  putReply f .ok (statusBytes s) { s with link := { s.link with noticesLost := false, alarmFull := false } }

/-- STATUS (R173). -/
def execStatus (s : State) : Host.Outcome State Fault Refusal :=
  .next (takePlain 0x01 (fun n => decide (n = 0)) actStatus s)

/-- The classes whose polarity differs between two options records (R5). -/
def polarityChanges (old new : Options) : List LineClass :=
  [LineClass.pad, .button, .block, .start].filter (fun c => decide (old.polarity c ≠ new.polarity c))

/-- The whole options record is stored, and the classes whose polarity changes are to be reloaded at the next sample (R174,
R5; log entry 7). -/
def storeOptions (o : Options) (s : State) : State :=
  { s with
    options := o
    reloads := s.reloads ++ (polarityChanges s.options o).filter (fun c => !s.reloads.contains c) }

/-- SET_OPTIONS after its length check (R174). -/
def actSetOptions (f : Frame) (s : State) : State :=
  if s.race.state = .armed ∨ s.race.state = .running then putReply f .wrongState [] s
  else
    match badOption f.payload with
    | some n => putReply f .outOfRange [byte n] s
    | none =>
      let o := optionsOf f.payload
      putReply f (if optionsClamped f.payload then .clamped else .ok) (optionsBytes o) (storeOptions o s)

/-- SET_OPTIONS (R174). -/
def execSetOptions (s : State) : Host.Outcome State Fault Refusal :=
  .next (takePlain 0x02 (fun n => decide (n = 50)) actSetOptions s)

/-- READ_OPTIONS (R174). -/
def execReadOptions (s : State) : Host.Outcome State Fault Refusal :=
  .next (takePlain 0x03 (fun n => decide (n = 0)) (fun f t => putReply f .ok (optionsBytes t.options) t) s)

/-! ## WATCH and CANCEL_WATCH (R171, R172) -/

/-- A watch becomes pending: nothing is placed in the reply slot (R171). -/
def holdWatch (f : Frame) (s : State) : State :=
  { s with link := { s.link with watch := some { tag := f.tag, snapshot := f.payload } } }

/-- WATCH after its length check (R171): BUSY while a watch is pending or an answer waits (log entry 13), otherwise answered at
once or held. -/
def actWatch (f : Frame) (s : State) : State :=
  if s.link.watch.isSome ∨ s.link.watchAnswer.isSome then putReply f .busy [] s
  else if f.payload ≠ s.vector then putReply f .ok s.vector s
  else holdWatch f s

/-- WATCH (R171). -/
def execWatch (s : State) : Host.Outcome State Fault Refusal :=
  .next (takePlain 0x18 (fun n => decide (n = 11)) actWatch s)

/-- CANCEL_WATCH after its length check: a pending watch is answered CANCELLED, then the reply is placed (R172). -/
def actCancelWatch (f : Frame) (s : State) : State :=
  match s.link.watch with
  | some w => putReply f .ok [] (answerWatch w .cancelled [] s)
  | none => putReply f .ok [] s

/-- CANCEL_WATCH (R172). -/
def execCancelWatch (s : State) : Host.Outcome State Fault Refusal :=
  .next (takePlain 0x19 (fun n => decide (n = 0)) actCancelWatch s)

/-! ## The alarm requests (R177) and RESET (R178) -/

/-- An alarm entry: kind, lane, first tick, last tick (section 11.9). -/
def alarmBytes (a : Alarm) : List Byte :=
  [alarmCode a.kind, laneByte a.lane] ++ tickBytes (some a.first) ++ tickBytes (some a.last)

/-- The fields of the READ_ALARMS reply (R177). -/
def alarmsReply (s : State) : List Byte := byte s.link.alarms.length :: (s.link.alarms.map alarmBytes).flatten

/-- READ_ALARMS (R177). -/
def execReadAlarms (s : State) : Host.Outcome State Fault Refusal :=
  .next (takePlain 0x28 (fun n => decide (n = 0)) (fun f t => putReply f .ok (alarmsReply t) t) s)

/-- CLEAR_ALARMS after its length check: the list empties, ALARM_FULL stays (R177). -/
def actClearAlarms (f : Frame) (s : State) : State :=
  putReply f .ok [] { s with link := { s.link with alarms := [] } }

/-- CLEAR_ALARMS (R177). -/
def execClearAlarms (s : State) : Host.Outcome State Fault Refusal :=
  .next (takePlain 0x29 (fun n => decide (n = 0)) actClearAlarms s)

/-- RESET after its length check: the OK reply is placed, and the reset takes effect when it has been sent (R178). -/
def actReset (f : Frame) (s : State) : State :=
  putReply f .ok [] { s with link := { s.link with resetPending := true } }

/-- RESET (R178). -/
def execReset (s : State) : Host.Outcome State Fault Refusal :=
  .next (takePlain 0x3F (fun n => decide (n = 0)) actReset s)

end Sys2Proof.Machine
end

