-- ==== Sys2Proof/Machine/Power.lean ====
section
/-!
DEFINITION. Power-on and the taking effect of RESET: the timebase restarts at 0 and every block takes its power-on state (R1,
R21, R37, R147, R157, R159, R178).
-/
namespace Sys2Proof.Machine

/-- The lines as loaded by the sample of tick 0 under the default polarities (R21). -/
def loadedLines (levels : List Bool) : List Line :=
  (List.range Config.lineCount).map (fun n =>
    Line.load (lineClass n) (normalised (Options.powerOn.polarity (lineClass n)) (levels.getD n false)) 0
      (Line.loadedInactive .unused))

/-- The Board Share Unit's power-on state: PARTNER_OWNS where OWN_IN reads active at tick 0, otherwise FREE without a claim, and
no notice (R157). The POS strap is read (R148). -/
def loadedShare (pins : Pins) : Share where
  state := if pins.share.own then .partnerOwns else .free
  unitA := pins.straps.pos
  claim := none
  takeWait := none
  force := false
  yieldPending := false
  releasePending := false
  reqRun := false
  reqDue := false

/-- Every block takes its power-on state while the input pins read `pins`; the sample of tick 0 is these levels (R1, R21, R37,
R147, R157, R159, R178). The queue of commands, the coming pin levels and the counter of free choices belong to no block (log
entry 23). DESIGN CHOICE (log entry 25): R105 counts RESET among the requests before which notices stay queued and by which every
row is marked; R170 and R178 empty the notice queue at RESET and R147 the dirty row queue, and the model follows these. -/
def powerOn (pins : Pins) (s : State) : State where
  pending := s.pending
  pinFeed := s.pinFeed
  due := []
  shareDue := false
  picks := s.picks
  tick := 0
  pins := pins
  flagBefore := pins.flag
  options := Options.powerOn
  tested := Options.powerOn
  reloads := []
  lines := loadedLines pins.lines
  race := Race.cleared
  lanes := List.replicate 10 Lane.blank
  board := Board.powerOn
  share := loadedShare pins
  lamps := Lamps.powerOn
  link := Link.powerOn pins.straps

/-- POWER_ON (R21). -/
def execPowerOn (pins : Pins) (s : State) : Host.Outcome State Fault Refusal := .next (powerOn pins s)

/-- The reply to RESET has been sent: the reset is due, or the reply's last byte ends at this tick (R178). -/
def resetReady (s : State) : Bool :=
  s.link.resetDue || (s.link.resetPending && decide (s.messageDone = some .reply))

/-- RESET_TAKES_EFFECT (R178): the pins read at this tick are the sample of tick 0. -/
def execResetTakesEffect (s : State) : Host.Outcome State Fault Refusal :=
  if resetReady s then .next (powerOn s.pins s) else .next s

end Sys2Proof.Machine
end

