-- ==== Sys2Proof/Machine/Tick.lean ====
section
/-!
DEFINITION. What the part does on an empty queue of commands: it takes what is due at the present tick, one command at a time,
in an order that the manual leaves open, and when nothing is due a tick passes (log entries 1 and 2).
-/
namespace Sys2Proof.Machine

/-! ## What the samples of a tick make due -/

/-- The Capture Unit's command for a sample of line `n`, if the sample changes anything (R6, R7). -/
def lineSample (n : Nat) (s : State) : List Instr :=
  let high := s.pins.lines.getD n false
  let level := s.level n high
  let l := s.line n
  if l.startsEdge level then [.pendingEdge n high]
  else if l.dropsEdge level then [.pendingEdgeDropped n high]
  else if (l.confirms level (s.tested.deglitch (lineClass n)) s.tick).isSome then [.edgeConfirmed n high]
  else []

/-- The markings that follow the race clock at this tick (R130). -/
def clockMarks (s : State) : List Instr :=
  (if clockMultiple 1000 s then [.headerTenths] else []) ++ (if clockMultiple 10000 s then [.runningSeconds] else [])

/-- The Board Share Unit's commands for this tick's sample of the ownership inputs (R149, R150, R153, R154). -/
def shareSample (s : State) : List Instr :=
  let v := s.pins.share
  (if withdraws s then [.claimWithdrawn v] else [])
  ++ (if partnerTakes s then [.partnerTook v] else [])
  ++ (if boardIsFree s then [.boardFree v] else [])
  ++ (if claimOpens s then [.claimOnOwnInInactive v] else [])
  ++ (if s.share.reqDue && readsRequest s then [.reqInActive v] else [])
  ++ (if forcedOff s then [.boardLost v] else [])

/-- What the samples of the tick just begun make due. -/
def samplesDue (s : State) : List Instr :=
  ((List.range Config.lineCount).map (fun n => lineSample n s)).flatten ++ clockMarks s

/-! ## The passing of a tick (R1) -/

/-- The lines of the classes whose polarity has changed are loaded at the first sample after the change (R5). -/
def reloadLines (s : State) : State :=
  { s with
    lines := s.lines.zipIdx.map (fun x =>
      if s.reloads.contains (lineClass x.2) then
        Line.load (lineClass x.2) (s.level x.2 (s.pins.lines.getD x.2 false)) s.tick x.1
      else x.1)
    reloads := [] }

/-- The interval from the limit tick of a RUNNING race with its clock-limit mark set exceeds 250 ticks (R55). -/
def pastTheLimit (s : State) : Bool :=
  match s.race.startTick with
  | some st =>
    decide (s.race.state = .running ∧ s.race.limitMark = true
      ∧ Config.maxDeglitch < interval (later st Config.clockLimit) s.tick)
  | none => false

/-- The count advances by one, the input pins take their next levels, and what holds from the beginning of a tick is fixed: the
options that samples and timers are tested against, the slot period, the run of REQ_IN samples, the latch of R55. -/
def beginTick (s : State) : State :=
  let pins := s.pinFeed.headD s.pins
  { s with
    tick := s.tick + 1
    pinFeed := s.pinFeed.tail
    pins := pins
    flagBefore := s.pins.flag
    tested := s.options
    race := { s.race with pastLimit := s.race.pastLimit || pastTheLimit { s with tick := s.tick + 1 } }
    board := { s.board with slotPeriod := s.period }
    share := { s.share with
      reqRun := s.share.reqRun && pins.share.req
      reqDue := decide (s.share.state = .owning) && pins.share.req }
    link := { s.link with requestTaken := false } }

/-- What the samples of the new tick make due is noted. DESIGN CHOICE (log entry 27): R150, R155 and R158 leave open whether a
BOARD_RELEASE that ends unit A's claim in FREE is taken before or behind this tick's sample of an active OWN_IN. A sample that
makes nothing due as the tick begins, as that of the claiming unit A, counts as read before any request of the tick, so that
PARTNER_TOOK comes at the next tick. -/
def noteSamples (s : State) : State := { s with due := samplesDue s, shareDue := !(shareSample s).isEmpty }

/-- A tick passes (R1). -/
def advanceTick (s : State) : State := noteSamples (reloadLines (beginTick s))

/-! ## What the state of a tick makes due -/

def whenDue (b : Bool) (i : Instr) : List Instr := if b then [i] else []

/-- The command that takes the frame at the head of the receive buffer, by its kind (R168). -/
def requestCommand (f : Frame) : Instr :=
  if f.kind = 0x01 then .status
  else if f.kind = 0x02 then .setOptions
  else if f.kind = 0x03 then .readOptions
  else if f.kind = 0x04 then .lineMask
  else if f.kind = 0x05 then .lineLevels
  else if f.kind = 0x08 then .loadEvent
  else if f.kind = 0x09 then .setLane
  else if f.kind = 0x0A then .setRecord
  else if f.kind = 0x0B then .clearRace
  else if f.kind = 0x10 then .arm
  else if f.kind = 0x11 then .recallRace
  else if f.kind = 0x12 then .stopRace
  else if f.kind = 0x13 then (if byteAt f.payload 1 = 0xFF then .adjustLengthMinusOne else .adjustLengthPlusOne)
  else if f.kind = 0x14 then .adjudicate
  else if f.kind = 0x15 then .readLane
  else if f.kind = 0x16 then .readSplits
  else if f.kind = 0x17 then .readRanking
  else if f.kind = 0x18 then .watch
  else if f.kind = 0x19 then .cancelWatch
  else if f.kind = 0x1A then .close
  else if f.kind = 0x1B then
    (if byteAt f.payload 1 = 1 then .declareDnf
     else if byteAt f.payload 1 = 2 then .declareDq
     else if byteAt f.payload 1 = 3 then .declareReinstate
     else .declareDns)
  else if f.kind = 0x20 then .boardTake
  else if f.kind = 0x21 then .boardRelease
  else if f.kind = 0x22 then .boardText
  else if f.kind = 0x23 then .rowMask
  else if f.kind = 0x28 then .readAlarms
  else if f.kind = 0x29 then .clearAlarms
  else if f.kind = 0x3F then .reset
  else .unknownKind

/-- The timers of the lines that have run out (R11, R15). -/
def linesDue (s : State) : List Instr :=
  ((List.range Config.lineCount).map (fun n =>
    whenDue (padHoldExpired n s) (.padHoldExpiry n) ++ whenDue (stuckDue n s) (.lineStuck n))).flatten

/-- The timers of the lanes that have run out: backup window, split hold, lane lamps (R78, R129, R161 to R163). -/
def lanesDue (s : State) : List Instr :=
  (laneNumbers.map (fun n =>
    whenDue (windowExpired n s) (.backupWindowExpiry n)
    ++ whenDue (holdExpired n s) (.splitHoldExpiry n)
    ++ whenDue ((s.lamps.startFlash.getD n (LampTimer.stopped .pulse)).expired s.tick) (.pulseExpiry (.startFlash n))
    ++ whenDue ((s.lamps.takeoffAlert.getD n (LampTimer.stopped .extended)).expired s.tick)
        (.extendedExpiry (.takeoffAlert n))
    ++ whenDue ((s.lamps.finalLength.getD n (LampTimer.stopped .offDelay)).expired s.tick)
        (.offDelayExpiry n))).flatten

/-- What the row in transmission, or the free link, makes due (R136, R137, R138, R140 to R144). -/
def boardDue (s : State) : List Instr :=
  let flag := s.pins.flag
  whenDue (slotExpired s) .slotExpiry
  ++ whenDue (rowToStart s).isSome .rowStart
  ++ (match s.board.sending with
      | none => []
      | some x =>
        whenDue (rowEnds x s.flagBefore flag s.tick) (.rowComplete flag)
        ++ whenDue (waitMet x s.flagBefore flag s.tick && !rowEnds x s.flagBefore flag s.tick) (.flagWaitMet flag)
        ++ whenDue (settleExpired x s.tick) .settleTimeExpiry
        ++ whenDue (strobeExpired x s.tick) .strobeWidthExpiry
        ++ whenDue (waitFailed x s.tick) .boardStall)
  ++ whenDue (stopReady s) .stopAfterRow

/-- The other blocks' events: the clock limit, the ownership timers, BELL and RECORD, the console link and its requests. -/
def blocksDue (s : State) : List Instr :=
  whenDue (limitReached s) .clockLimit
  ++ whenDue (claimWon s) .claimWindowEnd
  ++ whenDue (takeWaitExpired s) .takeWaitExpiry
  ++ whenDue (s.lamps.bell.expired s.tick) (.pulseExpiry .bell)
  ++ whenDue (s.lamps.record.expired s.tick) (.extendedExpiry .record)
  ++ whenDue (gapExceeded s) .frameTimeout
  ++ (s.requestReady.map requestCommand).toList
  ++ whenDue s.messageToStart.isSome .messageStart
  ++ whenDue s.messageDone.isSome .messageEnd
  ++ whenDue (resetReady s) .resetTakesEffect

/-- The commands due at this tick that come from the state and not from `due`. -/
def stateDue (s : State) : List Instr :=
  (if s.shareDue then shareSample s else []) ++ linesDue s ++ lanesDue s ++ boardDue s ++ blocksDue s

/-! ## The next command of an empty queue -/

/-- Everything due at this tick. -/
def allDue (s : State) : List Instr := s.due ++ stateDue s

/-- The command taken next of those due: where several are, a free choice (log entry 2). -/
def chooseDue (s : State) : Option Instr :=
  match allDue s with
  | [] => none
  | [i] => some i
  | i :: j :: is => some ((i :: j :: is).getD (Config.pick s.picks % (is.length + 2)) i)

/-- The state in which the chosen command is taken: it leaves what is due, and a free choice is counted. -/
def takeDue (i : Instr) (s : State) : State :=
  { s with due := s.due.erase i, picks := if 1 < (allDue s).length then s.picks + 1 else s.picks }

end Sys2Proof.Machine
end

