-- ==== Sys2Proof/Machine/Dispatch.lean ====
section
/-! DEFINITION. One arm for each command: the call of its meaning. -/
namespace Sys2Proof.Machine

-- The effect of a command on everything but the queue of waiting commands.
def exec (i : Instr) (s : State) : Host.Outcome State Fault Refusal :=
  match i with
  | .powerOn pins => Sys2Proof.Machine.execPowerOn pins s
  | .reset => Sys2Proof.Machine.execReset s
  | .resetTakesEffect => Sys2Proof.Machine.execResetTakesEffect s
  | .pendingEdge line high => Sys2Proof.Machine.execPendingEdge line high s
  | .pendingEdgeDropped line high => Sys2Proof.Machine.execPendingEdgeDropped line high s
  | .edgeConfirmed line high => Sys2Proof.Machine.execEdgeConfirmed line high s
  | .padHoldExpiry line => Sys2Proof.Machine.execPadHoldExpiry line s
  | .lineStuck line => Sys2Proof.Machine.execLineStuck line s
  | .backupWindowExpiry lane => Sys2Proof.Machine.execBackupWindowExpiry lane s
  | .clockLimit => Sys2Proof.Machine.execClockLimit s
  | .headerTenths => Sys2Proof.Machine.execHeaderTenths s
  | .runningSeconds => Sys2Proof.Machine.execRunningSeconds s
  | .splitHoldExpiry lane => Sys2Proof.Machine.execSplitHoldExpiry lane s
  | .slotExpiry => Sys2Proof.Machine.execSlotExpiry s
  | .rowStart => Sys2Proof.Machine.execRowStart s
  | .rowComplete flag => Sys2Proof.Machine.execRowComplete flag s
  | .boardStall => Sys2Proof.Machine.execBoardStall s
  | .claimWindowEnd => Sys2Proof.Machine.execClaimWindowEnd s
  | .claimWithdrawn levels => Sys2Proof.Machine.execClaimWithdrawn levels s
  | .partnerTook levels => Sys2Proof.Machine.execPartnerTook levels s
  | .boardFree levels => Sys2Proof.Machine.execBoardFree levels s
  | .claimOnOwnInInactive levels => Sys2Proof.Machine.execClaimOnOwnInInactive levels s
  | .takeWaitExpiry => Sys2Proof.Machine.execTakeWaitExpiry s
  | .reqInActive levels => Sys2Proof.Machine.execReqInActive levels s
  | .stopAfterRow => Sys2Proof.Machine.execStopAfterRow s
  | .boardLost levels => Sys2Proof.Machine.execBoardLost levels s
  | .pulseExpiry f => Sys2Proof.Machine.execPulseExpiry f s
  | .extendedExpiry f => Sys2Proof.Machine.execExtendedExpiry f s
  | .offDelayExpiry lane => Sys2Proof.Machine.execOffDelayExpiry lane s
  | .frameComplete b stop => Sys2Proof.Machine.execFrameComplete b stop s
  | .frameFailed b stop => Sys2Proof.Machine.execFrameFailed b stop s
  | .frameTimeout => Sys2Proof.Machine.execFrameTimeout s
  | .unknownKind => Sys2Proof.Machine.execUnknownKind s
  | .messageStart => Sys2Proof.Machine.execMessageStart s
  | .messageEnd => Sys2Proof.Machine.execMessageEnd s
  | .status => Sys2Proof.Machine.execStatus s
  | .setOptions => Sys2Proof.Machine.execSetOptions s
  | .readOptions => Sys2Proof.Machine.execReadOptions s
  | .lineMask => Sys2Proof.Machine.execLineMask s
  | .lineLevels => Sys2Proof.Machine.execLineLevels s
  | .loadEvent => Sys2Proof.Machine.execLoadEvent s
  | .setLane => Sys2Proof.Machine.execSetLane s
  | .setRecord => Sys2Proof.Machine.execSetRecord s
  | .clearRace => Sys2Proof.Machine.execClearRace s
  | .arm => Sys2Proof.Machine.execArm s
  | .recallRace => Sys2Proof.Machine.execRecall s
  | .stopRace => Sys2Proof.Machine.execStop s
  | .adjustLengthPlusOne => Sys2Proof.Machine.execAdjustLengthPlusOne s
  | .adjustLengthMinusOne => Sys2Proof.Machine.execAdjustLengthMinusOne s
  | .adjudicate => Sys2Proof.Machine.execAdjudicate s
  | .declareDns => Sys2Proof.Machine.execDeclareDns s
  | .declareDnf => Sys2Proof.Machine.execDeclareDnf s
  | .declareDq => Sys2Proof.Machine.execDeclareDq s
  | .declareReinstate => Sys2Proof.Machine.execDeclareReinstate s
  | .close => Sys2Proof.Machine.execClose s
  | .readLane => Sys2Proof.Machine.execReadLane s
  | .readSplits => Sys2Proof.Machine.execReadSplits s
  | .readRanking => Sys2Proof.Machine.execReadRanking s
  | .watch => Sys2Proof.Machine.execWatch s
  | .cancelWatch => Sys2Proof.Machine.execCancelWatch s
  | .boardTake => Sys2Proof.Machine.execBoardTake s
  | .boardRelease => Sys2Proof.Machine.execBoardRelease s
  | .boardText => Sys2Proof.Machine.execBoardText s
  | .rowMask => Sys2Proof.Machine.execRowMask s
  | .readAlarms => Sys2Proof.Machine.execReadAlarms s
  | .clearAlarms => Sys2Proof.Machine.execClearAlarms s
  | .byteReceived b stop => Sys2Proof.Machine.execByteReceived b stop s
  | .flagWaitMet flag => Sys2Proof.Machine.execFlagWaitMet flag s
  | .settleTimeExpiry => Sys2Proof.Machine.execSettleTimeExpiry s
  | .strobeWidthExpiry => Sys2Proof.Machine.execStrobeWidthExpiry s

end Sys2Proof.Machine
end

