-- ==== Sys2Proof/Machine/Step.lean ====
section
/-!
DEFINITION. One step: the command at the front of the queue; on an empty queue, what the part has due at this tick, or the
passing of a tick.
-/
namespace Sys2Proof.Machine

/-- One step. The command at the front of the queue runs on the state with the queue's rest. On an empty queue the part runs
what is due at this tick, one command a step, and when nothing is due a tick passes (log entry 1). -/
def step (s : State) : Host.Outcome State Fault Refusal :=
  match s.pending with
  | c :: rest => exec c { s with pending := rest }
  | [] =>
    match chooseDue s with
    | some c => exec c (takeDue c s)
    | none => .next (advanceTick s)

/-- The state with the command that a word spells put at the front of its queue; no word of this part's table spells one (log
entry 24). -/
def State.withFetchWord (s : State) (nbits w : Nat) : State :=
  match decodeTableWord nbits w with
  | some c => { s with pending := c :: s.pending }
  | none => s

end Sys2Proof.Machine
end

