-- ==== Sys2Proof/Safety.lean ====
section
/-!
DEFINITION. What counts as a good state and as a limited change, in the terms the statements use: the blocks a command leaves
alone, the taking of a request (R168), the handing of a notice (R170) and of an alarm (R176), and the invariants of the part.
-/
namespace Sys2Proof.Machine

/-! ## What a command leaves unchanged -/

/-- The parts of the state that a frame speaks of. -/
inductive Block where
  | queue | timebase | pins | options | capture | race | lanes | board | share | lamps | link
deriving DecidableEq, Repr

/-- Part `b` of the state is the same in `s` and in `t`. -/
def Block.same (b : Block) (s t : State) : Prop :=
  match b with
  | .queue => t.pending = s.pending ∧ t.pinFeed = s.pinFeed ∧ t.due = s.due ∧ t.picks = s.picks
  | .timebase => t.tick = s.tick ∧ t.tested = s.tested ∧ t.flagBefore = s.flagBefore
  | .pins => t.pins = s.pins
  | .options => t.options = s.options ∧ t.reloads = s.reloads
  | .capture => t.lines = s.lines
  | .race => t.race = s.race
  | .lanes => t.lanes = s.lanes
  | .board => t.board = s.board
  | .share => t.share = s.share ∧ t.shareDue = s.shareDue
  | .lamps => t.lamps = s.lamps
  | .link => t.link = s.link

/-- Nothing changes from `s` to `t` but the listed parts. -/
def ChangesOnly (parts : List Block) (s t : State) : Prop := ∀ b : Block, b ∉ parts → b.same s t

/-- Every lane record but lane `n`'s is unchanged. -/
def OtherLanesKept (n : Nat) (s t : State) : Prop := ∀ m, m ≠ n → t.lane m = s.lane m

/-- Every lane record but lane `n`'s is unchanged, places apart (R109). -/
def OtherLanesKeptButPlaces (n : Nat) (s t : State) : Prop :=
  ∀ m, m ≠ n → { t.lane m with place := none } = { s.lane m with place := none }

/-- Every line but line `n` is unchanged. -/
def OtherLinesKept (n : Nat) (s t : State) : Prop := ∀ m, m ≠ n → t.line m = s.line m

/-! ## Requests, replies, notices, alarms -/

/-- The CLC takes the frame `f` at this tick: it stands at the head of the receive buffer, the reply slot is empty, no request
has been taken at this tick and no reset is due (R168, R178). -/
def HeadRequest (f : Frame) (rest : List Frame) (s : State) : Prop :=
  s.link.buffer = f :: rest ∧ s.link.reply = none ∧ s.link.requestTaken = false ∧ s.link.resetDue = false

/-- The reply that answers the request `f` (R168). -/
def replyTo (f : Frame) (c : ReplyCode) (fields : List Byte) : Frame :=
  { kind := f.kind + 0x80, tag := f.tag, payload := replyCodeByte c :: fields }

/-- The link after the request `f` has been taken and answered, nothing else having happened to it (R168). -/
def Link.answered (l : Link) (f : Frame) (rest : List Frame) (c : ReplyCode) (fields : List Byte) : Link :=
  { l with buffer := rest, requestTaken := true, reply := some (replyTo f c fields) }

/-- The link after a notice is handed (R170). -/
def Link.withNotice (l : Link) (kind : Byte) (payload : List Byte) : Link :=
  if l.notices.length < 32 then { l with notices := l.notices ++ [{ kind := kind, tag := 0, payload := payload }] }
  else { l with noticesLost := true }

/-- The link after notices are handed in order (R170). -/
def Link.withNotices (l : Link) (xs : List (Byte × List Byte)) : Link := xs.foldl (fun k x => k.withNotice x.1 x.2) l

/-- The link after an alarm is handed at the tick `now` (R176). -/
def Link.withAlarm (l : Link) (k : AlarmKind) (lane : Option Nat) (now : Tick) : Link :=
  if ∃ a ∈ l.alarms, a.kind = k ∧ a.lane = lane then
    { l with alarms := l.alarms.map (fun a => if a.kind = k ∧ a.lane = lane then { a with last := now } else a) }
  else if l.alarms.length < 16 then
    ({ l with alarms := l.alarms ++ [{ kind := k, lane := lane, first := now, last := now }] } : Link).withNotice 0x50
      ([alarmCode k, laneByte lane] ++ tickBytes (some now))
  else { l with alarmFull := true }

/-- The link after the frame at the head of the receive buffer has been taken: `rest` stays (R168). -/
def Link.taken (rest : List Frame) (l : Link) : Link := { l with buffer := rest, requestTaken := true }

/-- The link after the reply to `f` has been placed in the reply slot (R168). -/
def Link.replied (f : Frame) (c : ReplyCode) (fields : List Byte) (l : Link) : Link :=
  { l with reply := some (replyTo f c fields) }

/-- The command `c` takes the request `f` and answers it, and nothing else changes (R168). -/
def AnswersOnly (c : Instr) (f : Frame) (rest : List Frame) (code : ReplyCode) (fields : List Byte) (s : State) : Prop :=
  exec c s = .next { s with link := s.link.answered f rest code fields }

/-- The link after a pending watch has been compared with the vector `v`: it is answered where its snapshot differs (R171). -/
def Link.seen (v : List Byte) (l : Link) : Link :=
  match l.watch with
  | none => l
  | some w =>
    if w.snapshot = v then l
    else { l with watch := none, watchAnswer := some { kind := 0x98, tag := w.tag, payload := 0 :: v } }

/-- The RACE_STATE notice of a change from `old` to `new` with the event `e` (R25, section 11.9). -/
def Link.withRaceState (l : Link) (new old : RaceState) (e : Option EventDesc) : Link :=
  l.withNotice 0x40
    (match e with
     | none => [raceCode new, raceCode old, 0, 0, 0, 0]
     | some d => [raceCode new, raceCode old] ++ bytesOf 2 d.number ++ [byte d.pool, byte d.total])

/-! ## Scoreboard markings -/

/-- Rows have been marked in the dirty row queue: each of `must` whose mask is clear stands in the queue, at its old place or
behind the rows queued before, and no row joined that is not in `may`; a row in transmission keeps its content and has its
changed-while-sending flag set if it is marked (R133, R134). -/
structure QueueMarked (must may : List Nat) (s t : State) : Prop where
  tail : s.board.queue <+: t.board.queue
  joined : ∀ r ∈ must, s.rowMasked r = false → r ∈ t.board.queue
  only : ∀ r ∈ t.board.queue, r ∈ s.board.queue ∨ (r ∈ may ∧ s.rowMasked r = false)
  content : t.board.sending.map (fun x => { x with changed := false })
    = s.board.sending.map (fun x => { x with changed := false })
  flagged : ∀ x, t.board.sending = some x → x.row ∈ must → s.rowMasked x.row = false → x.changed = true
  flagKept : ∀ x y, s.board.sending = some x → t.board.sending = some y →
    (x.changed = true → y.changed = true) ∧ (y.changed = true → x.changed = true ∨ (x.row ∈ may ∧ s.rowMasked x.row = false))

/-- The rows that a marking of every row in ascending order puts behind the rows queued before: the unmasked ones not queued yet
(R133). -/
def rowsToQueue (s : State) : List Nat :=
  (List.range 22).filter (fun r => decide (s.rowMasked r = false ∧ r ∉ s.board.queue))

/-- Rows have been marked, and nothing else of the Board Link Controller has changed, split holds apart. -/
structure RowsMarked (must may : List Nat) (s t : State) : Prop extends QueueMarked must may s t where
  kept : { t.board with queue := s.board.queue, sending := s.board.sending, holds := s.board.holds } = s.board

/-- The split holds are unchanged. -/
def HoldsKept (s t : State) : Prop := t.board.holds = s.board.holds

/-- The split hold of lane `n` is `h` and every other is unchanged (R129). -/
def HoldSet (n : Nat) (h : Option Timer) (s t : State) : Prop := t.hold n = h ∧ ∀ m, m ≠ n → t.hold m = s.hold m

/-! ## Confirmed edges and their capture events -/

/-- Line `n`, sampled at the level `high`, has its pending edge `e` confirmed at this tick (R7). -/
structure Confirms (n : Nat) (high : Bool) (e : PendingEdge) (s : State) : Prop where
  number : n < 61
  shape : s.lines.length = 61
  pending : (s.line n).pendingEdge = some e
  level : normalised (s.tested.polarity (lineClass n)) high = e.active
  lasted : s.tested.deglitch (lineClass n) ≤ interval e.lead s.tick

/-- The confirmed edge `e` of line `n` is delivered as a capture event: the line is unmasked and NORMAL and its re-arm state
allows it (R10, R11, R13, R14). -/
def Delivers (n : Nat) (e : PendingEdge) (s : State) : Prop :=
  (s.line n).masked = false ∧ (s.line n).stuck = false
  ∧ match lineClass n with
    | .pad => e.active = true ∧ (s.line n).rearm = .ready
    | .button => e.active = true ∧ (s.line n).rearm = .ready
    | .block => True
    | .start =>
      (e.active = true ∧ (s.line n).rearm = .ready ∧ s.options.trigger = .onActivate)
      ∨ (e.active = false ∧ (s.line n).rearm = .active ∧ s.options.trigger = .onRelease)

/-- The re-arm state of a line of class `c` after its edge `e` is confirmed (R10, R11, R13). -/
def RearmAfter (c : LineClass) (e : PendingEdge) (now : Tick) (hold : Nat) (before after : ReArm) : Prop :=
  match c with
  | .pad =>
    (e.active = true → after = .waitRelease)
    ∧ (e.active = false → before = .waitRelease → interval e.lead now < hold → after = .hold e.lead)
    ∧ (e.active = false → before = .waitRelease → hold ≤ interval e.lead now → after = .ready)
  | .button => (e.active = true → after = .waitRelease) ∧ (e.active = false → after = .ready)
  | .start => (e.active = true → before = .ready → after = .active) ∧ (e.active = false → after = .ready)
  | .block => True

/-- What the confirmation of the edge `e` does to its line (R7, R17): the edge memory takes the candidate level, the pending
edge is cleared, a line confirmed active is active since the leading edge, and a confirmed release ends STUCK. -/
structure LineConfirmed (c : LineClass) (e : PendingEdge) (now : Tick) (hold : Nat) (l m : Line) : Prop where
  active : m.active = e.active
  pending : m.pendingEdge = none
  since : e.active = true → m.activeSince = e.lead
  stuck : m.stuck = (l.stuck && e.active)
  masked : m.masked = l.masked
  rearm : RearmAfter c e now hold l.rearm m.rearm

/-- Line `n` is sampled at the level `high` and its edge `e` confirmed: the sample, the line and the listed parts are all that
changes. -/
def EdgeTaken (n : Nat) (high : Bool) (e : PendingEdge) (parts : List Block) (s t : State) : Prop :=
  LineConfirmed (lineClass n) e s.tick s.tested.padHold (s.line n) (t.line n) ∧ OtherLinesKept n s t
  ∧ t.pins = { s.pins with lines := s.pins.lines.set n high } ∧ ChangesOnly (.capture :: .pins :: parts) s t

/-- A PAD_MAKE of lane `n` at end `at0` is delivered, the edge being `e` (R9 to R11). -/
structure Touch (n : Nat) (at0 : PoolEnd) (high : Bool) (e : PendingEdge) (s : State) : Prop where
  lane : n < 10
  lanes : s.lanes.length = 10
  confirms : Confirms (padLine n at0) high e s
  delivers : Delivers (padLine n at0) e s

/-- A BUTTON_PRESS of button `b` of lane `n` is delivered, the edge being `e` (R9, R10). -/
structure Press (n b : Nat) (high : Bool) (e : PendingEdge) (s : State) : Prop where
  lane : n < 10
  button : 1 ≤ b ∧ b ≤ 3
  lanes : s.lanes.length = 10
  confirms : Confirms (buttonLine n b) high e s
  delivers : Delivers (buttonLine n b) e s

/-- A BLOCK_LOAD or BLOCK_RELEASE of lane `n` is delivered, the edge being `e` (R9, R14). -/
structure BlockEdge (n : Nat) (high : Bool) (e : PendingEdge) (s : State) : Prop where
  lane : n < 10
  lanes : s.lanes.length = 10
  confirms : Confirms (blockLine n) high e s
  delivers : Delivers (blockLine n) e s

/-! ## The race -/

/-- The reaction of a release: its tick minus the start tick, negative where it was seen before the start tick, held to −30,000
to +30,000 (R47). Which came first is judged by the forward distances to the tick `now` (R2; log entry 10). -/
def reactionValue (start release now : Tick) : Int :=
  if interval start now < interval release now then max (-30000) (-(interval release start : Int))
  else min 30000 (interval start release : Int)

/-- Length `k` is no exchange length: the event is INDIVIDUAL, or `k` is not a multiple of a leg (R95). -/
def NoExchange (e : EventDesc) (k : Nat) : Prop := e.kind = .individual ∨ k % (e.total / 4) ≠ 0

/-- The payload of the SPLIT notice of an entry of lane `n` (R68, section 11.9). -/
def splitNotice (n : Nat) (x : Split) : List Byte :=
  [byte n, byte x.length, splitCode x.kind] ++ timeBytes x.time ++ [flagByte x.overMark]

/-- The entry of a length with no time (R58). -/
def untimedEntry (k : Nat) (kind : SplitKind) : Split :=
  { length := k, kind := kind, time := none, fin := endOf k, overMark := false }

/-- The entry of a length with the race time of a touch (R58, R63). -/
def timedEntry (k : Nat) (kind : SplitKind) (ev : Evidence) : Split :=
  { length := k, kind := kind, time := some ev.time, fin := endOf k, overMark := ev.overMark }

/-- The split hold that starts at this tick: none where the option is 0, which ends as it starts (R2, R129; log entry 26). -/
def holdStarted (s : State) : Option Timer :=
  if s.options.splitHold = 0 then none else some { start := s.tick, width := s.options.splitHold }

/-- The entry for the missing length of lane `l`: UNTIMED for a far end not timed in this lane, otherwise MISSED (R66). -/
def missingEntry (l : Lane) : Split :=
  untimedEntry (l.done + 1) (if endOf (l.done + 1) = .far ∧ l.farTiming = .untimed then .untimed else .missed)

/-- The exchange of a RELAY that a MISSED entry for lane `l`'s next length leaves UNJUDGED (R95, R101). -/
def unjudgedBy (e : EventDesc) (l : Lane) : Option Nat :=
  if (missingEntry l).kind = .missed then
    [1, 2, 3].find? (fun j => decide (e.kind = .relay ∧ 0 < e.total / 4 ∧ l.done + 1 = j * (e.total / 4)))
  else none

/-- Exchange `j` of lane `l` as UNJUDGED, its takeoff kept (R101). -/
def Lane.unjudged (l : Lane) (j : Nat) : Exchange := { l.exchange j with margin := none, status := .unjudged }

/-- Lane `l` after its missing length has been appended (R65, R66, R69, R101). -/
def Lane.withMissing (e : EventDesc) (l : Lane) : Lane :=
  let m : Lane := { l with
    splits := l.splits ++ [missingEntry l], done := l.done + 1
    misses := if (missingEntry l).kind = .missed then l.misses + 1 else l.misses
    countDoubt := l.countDoubt || ((missingEntry l).kind == .missed && l.misses == 2) }
  match unjudgedBy e l with
  | some j => m.setExchange j (l.unjudged j)
  | none => m

/-- The link after the missing length of lane `n`, before it `l`, has been appended: SPLIT, at the third MISSED entry
COUNT_DOUBT, and EXCHANGE for an exchange it leaves UNJUDGED, in this order (R68, R69, R101). -/
def Link.withMissing (n : Nat) (e : EventDesc) (l : Lane) (k : Link) : Link :=
  let k1 := k.withNotice 0x44 (splitNotice n (missingEntry l))
  let k2 := if (missingEntry l).kind == .missed && l.misses == 2 && !l.countDoubt then k1.withNotice 0x4B [byte n, 3] else k1
  match unjudgedBy e l with
  | some j => k2.withNotice 0x47
      ([byte n, byte j, exchangeCode (l.unjudged j).status] ++ timeBytes (l.unjudged j).takeoff
        ++ signedBytes (l.unjudged j).margin)
  | none => k2

/-- Lane `l` in FINISHING, its finish opened at the leading edge `lead` by evidence `ev`, before the evidence is recorded as a
touch or a press (R55, R76, R78). -/
def Lane.opened (e : EventDesc) (lead : Tick) (ev : Evidence) (l : Lane) : Lane :=
  { l with
    state := .finishing, first := some ev, window := some { start := lead, width := e.window }
    overrange := l.overrange || ev.overMark }

/-- Lane `n`'s early-close check waits for a press of a button other than `but`: an in-use button whose line is unmasked has
none (R81). With `but` 0 every button counts. -/
def PressAwaited (but n : Nat) (s : State) : Prop :=
  ∃ b, b ≠ but ∧ 1 ≤ b ∧ b ≤ 3 ∧ b ≤ s.event.buttons ∧ (s.line (buttonLine n b)).masked = false ∧ (s.lane n).press b = none

/-- A FINISHING lane's early-close check waits for the pad: no pad evidence, the finish pad unmasked, and the finish end timed
in this lane (R81). -/
def PadAwaited (n : Nat) (s : State) : Prop :=
  (s.lane n).pad = none ∧ (s.line (padLine n (endOf s.event.total))).masked = false
  ∧ (endOf s.event.total = .far → (s.lane n).farTiming = .fitted)

/-- The result of a resolving lane `l` with the disagreement limit `limit` (R87, R88): its time and mark, its source, the lane's
state, the review reason and the lag sample it adds. -/
structure DecidedBy (limit : Nat) (l : Lane) (consensus candidate : Option Nat) (d : Decision) : Prop where
  agree : ∀ p c, l.pad = some p → consensus = some c → p.time ≤ c → c ≤ p.time + limit →
    d = ⟨p.time, p.overMark, .pad, .finished, .none, some (c - p.time)⟩
  before : ∀ p c, l.pad = some p → consensus = some c → c < p.time → p.time ≤ c + limit →
    d = ⟨p.time, p.overMark, .pad, .finished, .none, none⟩
  early : ∀ p c, l.pad = some p → consensus = some c → p.time + limit < c →
    d = ⟨p.time, p.overMark, .pad, .review, .padEarly, none⟩
  late : ∀ p c, l.pad = some p → consensus = some c → c + limit < p.time →
    d = ⟨p.time, p.overMark, .pad, .review, .padLate, none⟩
  noPress : ∀ p, l.pad = some p → consensus = none → d = ⟨p.time, p.overMark, .pad, .finished, .none, none⟩
  noPad : ∀ c, l.pad = none → candidate = some c →
    d = ⟨c, l.presses.any (·.overMark), .backup, .finished, .none, none⟩

/-- The record slots that lane `l`'s result meets (R110). -/
def slotsMet (slots : List RecordSlot) (l : Lane) (i : Nat) : Prop :=
  ∃ r x, l.result = some r ∧ slots[i]? = some x ∧ l.dq = false ∧ x.enabled = true
    ∧ (r / 100 < x.reference ∨ (r / 100 = x.reference ∧ x.relation = .matchOrBetter))

/-- A lane is in FINISHED or REVIEW with a result and no DQ mark (R108). -/
abbrev Lane.placed (l : Lane) : Prop :=
  (l.state = .finished ∨ l.state = .review) ∧ l.result ≠ none ∧ l.dq = false

/-- The place of lane `l` among the lanes `ls`: one plus the number of lanes with a place whose result in hundredths is strictly
smaller; none for a lane that is not in FINISHED or REVIEW, has no result or carries a DQ mark (R108). -/
def placeAmong (ls : List Lane) (l : Lane) : Option Nat :=
  if l.placed then
    some (1 + (ls.filter (fun m => decide (m.placed ∧ m.result.getD 0 / 100 < l.result.getD 0 / 100))).length)
  else none

/-- Every lane has the place that its result gives it among the lanes (R108). -/
def PlacesRight (s : State) : Prop := ∀ l ∈ s.lanes, l.place = placeAmong s.lanes l

/-- The places of lanes 0 to 9. -/
def State.places (s : State) : List (Option Nat) := (List.range 10).map (fun n => (s.lane n).place)

/-- The PLACES notice of a recomputation that leaves the places `new` for `old`: none where no place changes (R109). -/
def placesNotice (old new : List (Option Nat)) : List (Byte × List Byte) :=
  if new = old then [] else [(0x4A, new.map laneByte)]

/-- The RECORD notice of the record check of lane `n`: none where the record set does not change (R110). -/
def recordNotice (n : Nat) (s t : State) : List (Byte × List Byte) :=
  if (t.lane n).records = (s.lane n).records then [] else [(0x49, [byte n, recordBits (t.lane n).records])]

/-- The lane rows of the lanes whose place changes (R109). -/
def placeRows (s t : State) : List Nat :=
  ((List.range 10).filter (fun n => decide ((t.lane n).place ≠ (s.lane n).place))).map (· + 1)

/-- With the lanes of the state `t` the race of the state `s` ends: it is RUNNING and no lane is SET, SWIMMING or FINISHING
(R118). -/
def raceEnds (s t : State) : Bool := decide (s.race.state = .running) && !t.lanes.any Lane.underWay

/-- The ranking table holds each ranked lane once, in ascending order of result in hundredths, lanes of equal results in
ascending lane number (R108). -/
structure RankingRight (s : State) : Prop where
  members : ∀ n, n ∈ s.race.ranking ↔ n < s.lanes.length ∧ (s.lane n).placed
  ordered : s.race.ranking.Pairwise (fun a b =>
    (s.lane a).result.getD 0 / 100 < (s.lane b).result.getD 0 / 100
    ∨ ((s.lane a).result.getD 0 / 100 = (s.lane b).result.getD 0 / 100 ∧ a < b))

/-- The ranking and lane `n`'s record set are as the records now give them: the places and the ranking table follow the results
(R108, R109), the record set holds the slots that the result meets, and a changed set that is not empty triggers RECORD
(R110). -/
structure Ranked (n : Nat) (s t : State) : Prop where
  places : PlacesRight t
  ranking : RankingRight t
  records : ∀ i, i ∈ (t.lane n).records ↔ i < 4 ∧ slotsMet s.race.slots (t.lane n) i
  beacon : t.lamps.record =
    if (t.lane n).records = (s.lane n).records ∨ (t.lane n).records = [] then s.lamps.record
    else { s.lamps.record with run := some { start := s.tick, width := s.options.recordWidth } }

/-- The notices SPLIT and LANE_RESOLVED of the resolution of lane `n`, before it `l` and after it `r`, by the decision `d` (R89,
R90, section 11.9). -/
def resolutionNotices (n : Nat) (l : Lane) (d : Decision) (r : Lane) : List (Byte × List Byte) :=
  [(0x44, splitNotice n (timedEntry (l.done + 1) .final { time := d.result, overMark := d.overMark })),
   (0x45, [byte n, laneCode d.state, sourceCode d.source, reasonCode d.reason] ++ timeBytes (some d.result)
      ++ [flagByte d.overMark] ++ timeBytes (l.pad.map (·.time)) ++ timeBytes r.consensus ++ bytesOf 2 r.lagUsed
      ++ timeBytes r.candidate)]

/-- Lane `n`, whose record with all its evidence was `l` in the state `s`, has been resolved in the state `t`, and the race has
ended with it if it was the last (R83 to R90, R118). The notices SPLIT, LANE_RESOLVED, PLACES, RECORD and RACE_STATE are handed in
this order, the last three where the resolution changes what they report (R89, R109, R110); a pending watch sees the vector that
stands behind them (R171), and nothing else has happened to the link. -/
structure Resolved (n : Nat) (l : Lane) (s t : State) : Prop where
  consensus : (t.lane n).consensus = consensusOf (l.presses.map (·.time))
  lag : (t.lane n).lagUsed = lagEstimate s.event s.race.lags
  candidate : (t.lane n).candidate
    = (t.lane n).consensus.map (fun c =>
        (max ((c : Int) - ((t.lane n).lagUsed : Int)) (lengthLimit s.event l 1 : Int)).toNat)
  decided : ∃ d, DecidedBy s.event.disagreement l (t.lane n).consensus (t.lane n).candidate d
    ∧ t.lane n = { l with
        state := d.state, source := d.source, reason := d.reason, window := none, done := l.done + 1
        splits := l.splits ++ [timedEntry (l.done + 1) .final { time := d.result, overMark := d.overMark }]
        consensus := (t.lane n).consensus, lagUsed := (t.lane n).lagUsed, candidate := (t.lane n).candidate
        place := (t.lane n).place, records := (t.lane n).records }
    ∧ t.race.lags = s.race.lags ++ d.sample.toList.map (fun x => { lane := n, delta := x })
    ∧ (let k := s.link.withNotices
          (resolutionNotices n l d (t.lane n) ++ placesNotice s.places t.places ++ recordNotice n s t)
       t.link = (if raceEnds s t then k.withRaceState .unofficial .running s.race.event else k).seen t.vector)
  ranked : Ranked n s t
  others : OtherLanesKeptButPlaces n s t
  race : t.race = { s.race with
    state := if raceEnds s t then .unofficial else s.race.state
    pastLimit := s.race.pastLimit && !raceEnds s t, lags := t.race.lags, ranking := t.race.ranking }
  rows :
    let rows := [n + 1, n + 12] ++ placeRows s t ++ (if raceEnds s t then [0] else [])
    RowsMarked rows rows s t

/-- The command `c`, an edge of line `line`, opens the finish of lane `n`: `l` is the lane's record with the evidence that opens it,
and `k` the link with what was handed before. Where the early-close check waits, the window stays open; otherwise the lane is
resolved at the same tick (R76, R81, R89). The FINAL_LENGTH input goes off and the split hold ends either way (R70, R129). -/
def OpensTheFinish (c : Instr) (line : Nat) (high : Bool) (e : PendingEdge) (n : Nat) (l : Lane) (k : Link) (waits : Prop)
    (s : State) : Prop :=
  let finalLength := s.lamps.finalLength.modify n (LampTimer.setInput s.tick s.options.offDelay false)
  (waits →
    ∃ t, exec c s = .next t ∧ EdgeTaken line high e [.lanes, .board, .lamps, .link] s t ∧ OtherLanesKept n s t
      ∧ t.lane n = l ∧ t.link = k.seen t.vector ∧ RowsMarked [n + 1, n + 12] [n + 1, n + 12] s t ∧ HoldSet n none s t
      ∧ t.lamps = { s.lamps with finalLength := finalLength })
  ∧ (¬ waits → (∀ x ∈ l.splits, x.kind ≠ .final) →
    ∃ t, exec c s = .next t ∧ EdgeTaken line high e [.race, .lanes, .board, .lamps, .link] s t
      ∧ Resolved n l { s with link := k } t ∧ HoldSet n none s t
      ∧ t.lamps = { s.lamps with finalLength := finalLength, record := t.lamps.record })

/-! ## The power-on state -/

/-- Every block of `t` is in its power-on state, with the pins read at `pins` (R1, R21, R37, R147, R157, R159, R178). -/
structure PoweredOn (pins : Pins) (t : State) : Prop where
  tick : t.tick = 0
  levels : t.pins = pins
  options : t.options = Options.powerOn
  lineCount : t.lines.length = 61
  lines : ∀ n < 61,
    (t.line n).pendingEdge = none ∧ (t.line n).stuck = false ∧ (t.line n).masked = false
    ∧ (t.line n).active = pins.lines.getD n false
    ∧ ((t.line n).active = true → (t.line n).activeSince = 0)
    ∧ ((lineClass n = .pad ∨ lineClass n = .button) →
        (t.line n).rearm = if (t.line n).active then .waitRelease else .ready)
    ∧ (lineClass n = .start → (t.line n).rearm = if (t.line n).active then .held else .ready)
  race : t.race = Race.cleared
  lanes : t.lanes = List.replicate 10 Lane.blank
  board : t.board = Board.powerOn
  owner : t.share.state = if pins.share.own then .partnerOwns else .free
  strap : t.share.unitA = pins.straps.pos
  ask : t.share.claim = none ∧ t.share.takeWait = none ∧ t.share.force = false ∧ t.share.yieldPending = false
    ∧ t.share.releasePending = false
  lamps : t.lamps = Lamps.powerOn
  link : t.link = Link.powerOn pins.straps

/-- The judgement of exchange `j` of lane `n` from its takeoff and the time of its TIMED entry: the margin held to ±30,000, and
EARLY where it is less than minus the tolerance (R102). -/
def judgement (e : EventDesc) (takeoff entry : Nat) : Exchange :=
  let m : Int := max (-30000) (min 30000 ((takeoff : Int) - (entry : Int)))
  { takeoff := some takeoff, margin := some m, status := if m < -(e.tolerance : Int) then .early else .ok }

/-- The EXCHANGE notice of exchange `j` of lane `n`, and behind it the EARLY_TAKEOFF notice of an EARLY judgement (R103). -/
def Link.withExchange (l : Link) (n j : Nat) (x : Exchange) : Link :=
  let l1 := l.withNotice 0x47 ([byte n, byte j, exchangeCode x.status] ++ timeBytes x.takeoff ++ signedBytes x.margin)
  if x.status = .early then l1.withNotice 0x48 ([byte n, byte j] ++ signedBytes x.margin) else l1

/-- The TAKEOFF_ALERT timers after the judgement `x` of an exchange of lane `n` (R103, R162). -/
def alertAfter (n : Nat) (x : Exchange) (s : State) : List LampTimer :=
  if x.status = .early then
    s.lamps.takeoffAlert.modify n (fun y => { y with run := some { start := s.tick, width := s.options.alertWidth } })
  else s.lamps.takeoffAlert

/-- Every function of the Lamp Unit is stopped and every FINAL_LENGTH input off (R165). -/
def LampsOff (s t : State) : Prop :=
  t.lamps = { s.lamps with
    startFlash := s.lamps.startFlash.map (fun x => { x with input := false, run := none })
    takeoffAlert := s.lamps.takeoffAlert.map (fun x => { x with input := false, run := none })
    finalLength := s.lamps.finalLength.map (fun x => { x with input := false, run := none })
    bell := { s.lamps.bell with input := false, run := none }
    record := { s.lamps.record with input := false, run := none } }

/-- What LOAD_EVENT, CLEAR_RACE and RECALL from RUNNING do to the lamps and the scoreboard: every function is stopped, every split
hold ends and every row is marked in ascending order (R133, R146, R165). -/
def FieldCleared (s t : State) : Prop :=
  LampsOff s t ∧ (∀ n, t.hold n = none) ∧ RowsMarked (List.range 22) (List.range 22) s t
  ∧ t.board.queue = s.board.queue ++ rowsToQueue s

/-- The race states in which a command is taken (R24, R174). -/
def takenIn (c : Instr) (r : RaceState) : Prop :=
  match c with
  | .loadEvent => r = .idle ∨ r = .loaded ∨ r = .official
  | .setLane => r = .loaded
  | .setRecord => r = .loaded
  | .arm => r = .loaded
  | .recallRace => r = .armed ∨ r = .running
  | .stopRace => r = .running
  | .adjustLengthPlusOne => r = .running
  | .adjustLengthMinusOne => r = .running
  | .declareDns => r = .loaded ∨ r = .armed ∨ r = .running
  | .declareDnf => r = .running
  | .declareDq => r = .running ∨ r = .unofficial
  | .declareReinstate => r = .running ∨ r = .unofficial
  | .adjudicate => r = .running ∨ r = .unofficial
  | .close => r = .unofficial
  | .setOptions => r = .idle ∨ r = .loaded ∨ r = .unofficial ∨ r = .official
  | _ => True

/-- The lane states in which a declaration is taken (R111). -/
def declarable (c : Instr) (l : Lane) : Prop :=
  match c with
  | .declareDns => l.state = .ready ∨ l.state = .set ∨ (l.state = .swimming ∧ l.done = 0)
  | .declareDnf => l.state = .swimming
  | .declareDq => l.state = .swimming ∨ l.state = .finishing ∨ l.state = .finished ∨ l.state = .review
  | .declareReinstate => l.state ≠ .vacant
  | _ => False

/-- The changes of the race state and the commands that make them (section 2.3). -/
def raceMove (c : Instr) (old new : RaceState) : Prop :=
  match c with
  | .powerOn _ => new = .idle
  | .resetTakesEffect => new = .idle
  | .clearRace => new = .idle
  | .loadEvent => (old = .idle ∨ old = .official) ∧ new = .loaded
  | .arm => old = .loaded ∧ new = .armed
  | .recallRace => (old = .armed ∨ old = .running) ∧ new = .loaded
  | .edgeConfirmed line _ => (line = 60 ∧ old = .armed ∧ new = .running) ∨ (line < 60 ∧ old = .running ∧ new = .unofficial)
  | .backupWindowExpiry _ => old = .running ∧ new = .unofficial
  | .stopRace => old = .running ∧ new = .unofficial
  | .declareDns => old = .running ∧ new = .unofficial
  | .declareDnf => old = .running ∧ new = .unofficial
  | .close => old = .unofficial ∧ new = .official
  | _ => False

/-- The changes of a lane's state and the commands that make them, `race` being the race state before (section 2.4). -/
def laneMove (c : Instr) (race : RaceState) (l : Lane) (new : LaneState) : Prop :=
  match c with
  | .powerOn _ => new = .vacant
  | .resetTakesEffect => new = .vacant
  | .clearRace => new = .vacant
  | .loadEvent => new = .vacant
  | .setLane => (l.state = .vacant ∧ new = .ready) ∨ (l.state = .ready ∧ new = .vacant)
  | .arm => l.state = .ready ∧ new = .set
  | .recallRace =>
    (race = .armed ∧ l.state = .set ∧ new = .ready) ∨ (race = .running ∧ l.state ≠ .vacant ∧ l.stateAtArm = some new)
  | .edgeConfirmed line _ =>
    (line = 60 ∧ l.state = .set ∧ new = .swimming)
    ∨ (line < 60 ∧ (l.state = .swimming ∨ l.state = .finishing)
        ∧ (new = .finishing ∨ new = .finished ∨ new = .review))
  | .backupWindowExpiry _ => l.state = .finishing ∧ (new = .finished ∨ new = .review)
  | .stopRace =>
    (l.state = .finishing ∧ (new = .finished ∨ new = .review)) ∨ (l.state = .swimming ∧ new = .dnf)
  | .declareDns => (l.state = .ready ∨ l.state = .set ∨ (l.state = .swimming ∧ l.done = 0)) ∧ new = .dns
  | .declareDnf => l.state = .swimming ∧ new = .dnf
  | .adjudicate => l.state = .review ∧ new = .finished
  | _ => False

/-- The requests: command, kind, whether a payload length is allowed, and, for the requests that two or more commands take, what
the second byte of the payload must be (section 11.9). -/
def requests : List (Instr × Byte × (Nat → Bool) × Option Byte) :=
  [(.status, 0x01, fun n => n == 0, none), (.setOptions, 0x02, fun n => n == 50, none),
   (.readOptions, 0x03, fun n => n == 0, none), (.lineMask, 0x04, fun n => n == 8, none),
   (.lineLevels, 0x05, fun n => n == 0, none), (.loadEvent, 0x08, fun n => decide (26 ≤ n), none),
   (.setLane, 0x09, fun n => decide (2 ≤ n), none), (.setRecord, 0x0A, fun n => n == 8, none),
   (.clearRace, 0x0B, fun n => n == 0, none), (.arm, 0x10, fun n => n == 0, none),
   (.recallRace, 0x11, fun n => n == 0, none), (.stopRace, 0x12, fun n => n == 0, none),
   (.adjustLengthPlusOne, 0x13, fun n => n == 2, some 0x01), (.adjustLengthMinusOne, 0x13, fun n => n == 2, some 0xFF),
   (.adjudicate, 0x14, fun n => n == 6, none), (.readLane, 0x15, fun n => n == 1, none),
   (.readSplits, 0x16, fun n => n == 2, none), (.readRanking, 0x17, fun n => n == 0, none),
   (.watch, 0x18, fun n => n == 11, none), (.cancelWatch, 0x19, fun n => n == 0, none),
   (.close, 0x1A, fun n => n == 0, none), (.declareDns, 0x1B, fun n => n == 2, some 0),
   (.declareDnf, 0x1B, fun n => n == 2, some 1), (.declareDq, 0x1B, fun n => n == 2, some 2),
   (.declareReinstate, 0x1B, fun n => n == 2, some 3), (.boardTake, 0x20, fun n => n == 1, none),
   (.boardRelease, 0x21, fun n => n == 0, none), (.boardText, 0x22, fun _ => true, none),
   (.rowMask, 0x23, fun n => n == 3, none), (.readAlarms, 0x28, fun n => n == 0, none),
   (.clearAlarms, 0x29, fun n => n == 0, none), (.reset, 0x3F, fun n => n == 0, none)]

/-! ## The scoreboard -/

/-- The frame of row `r` with a content: lead byte, row number, content, end byte, and the sum of row number and content modulo
256 (R139). -/
def frameOfRow (r : Nat) (content : List Byte) : List Byte :=
  [0x02, BitVec.ofNat 8 r] ++ content ++ [0x03, BitVec.ofNat 8 ((r :: content.map (·.toNat)).sum)]

/-- Row `r` is the round-robin row: unmasked, and no unmasked row stands before it from the pointer on in ascending order, from
21 back to 0 (R137). -/
def RoundRobin (r : Nat) (s : State) : Prop :=
  r < 22 ∧ s.rowMasked r = false
  ∧ ∀ q < 22, s.rowMasked q = false → (r + 22 - s.board.pointer) % 22 ≤ (q + 22 - s.board.pointer) % 22

/-- The transmission of row `r` has begun: composed at this tick and sent with the board options of this tick; FULL mode waits
for READY, the other modes drive the first byte at once (R134, R137, R139 to R142). -/
def RowStarted (r : Nat) (roundRobin : Bool) (s t : State) : Prop :=
  t.board = { s.board with
    sending := some
      { row := r, roundRobin := roundRobin, changed := false, bytes := frameOfRow r (composeRow s r)
        phase := if s.options.boardMode = .fullMode then .waitReady else .settle, since := s.tick
        mode := s.options.boardMode, flagPolarity := s.options.flagPolarity, accept := s.options.accept
        settle := s.options.settle, strobeWidth := s.options.strobeWidth, byteTimeout := s.options.byteTimeout }
    drive := if s.options.boardMode = .fullMode then s.board.drive
      else s.board.drive.map (fun d => { d with data := 0x02 }) }

/-- FLAG, sampled at `high`, ends the wait for the board's acceptance in FULL or PARTIAL mode: BUSY in FULL mode, the selected
transition in PARTIAL mode, at a sample after the tick of STB and no later than the byte timeout (R140, R141, R143). -/
def Accepted (x : Sending) (high : Bool) (s : State) : Prop :=
  x.phase = .waitAccept ∧ 1 ≤ interval x.since s.tick ∧ interval x.since s.tick ≤ x.byteTimeout
  ∧ ((x.mode = .fullMode ∧ flagReady x.flagPolarity high = false)
    ∨ (x.mode = .partialMode ∧ x.accept = .readyToBusy
        ∧ flagReady x.flagPolarity s.flagBefore = true ∧ flagReady x.flagPolarity high = false)
    ∨ (x.mode = .partialMode ∧ x.accept = .busyToReady
        ∧ flagReady x.flagPolarity s.flagBefore = false ∧ flagReady x.flagPolarity high = true))

/-- The state in which the byte being passed has ended and the next of the row begins: STB is released, FULL mode waits for READY
and the other modes drive the next byte at once (R139 to R142). -/
def NextByte (x : Sending) (d : Drive) (s t : State) : Prop :=
  t.board = { s.board with
    sending := some { x with
      bytes := x.bytes.tail, phase := if x.mode = .fullMode then .waitReady else .settle, since := s.tick }
    drive := some { data := if x.mode = .fullMode then d.data else x.bytes.tail.headD 0, stb := false } }

/-- The Board Link Controller of a unit that has left OWNING: the lines are high-impedance, the balance is 0, the slot timer is
stopped and no row is in transmission; the queue and the pointer are kept (R144, R152). -/
def Board.released (b : Board) : Board := { b with drive := none, balance := 0, slot := none, sending := none }

/-- The BOARD notice of a change from `old` to `new` (R156, section 11.9). -/
def Link.withBoard (l : Link) (new old : Ownership) (unitA : Bool) (r : BoardReason) : Link :=
  l.withNotice 0x51 [ownershipCode new, ownershipCode old, if unitA then 0 else 1, boardReasonCode r]

/-- The width of a row's content: 35, 28, 32 and 3 positions (R124). -/
def rowWidth (r : Nat) : Nat := if r = 0 then 35 else if r ≤ 10 then 28 else if r = 11 then 32 else 3

/-- The character of the last decimal digit of a number. -/
def numeral (n : Nat) : Byte := byte (0x30 + n % 10)

/-- The decimal digits of a number in front of those already written, in `k` positions: spaces where it has none. -/
def numeralsBefore : Nat → Nat → List Byte
  | 0, _ => []
  | k + 1, n => if n = 0 then List.replicate (k + 1) 0x20 else numeralsBefore k (n / 10) ++ [numeral n]

/-- A number right-aligned in `k` positions with leading spaces (R126, R127). -/
def rightIn (k n : Nat) : List Byte := numeralsBefore (k - 1) (n / 10) ++ [numeral n]

/-- `v` whole seconds as "MM:SS": with minutes of 0 the minutes, the colon and a leading zero of the seconds are spaces, and with
minutes of 1 to 9 the first position is one (R125). -/
def clockText (v : Nat) : List Byte :=
  if v < 60 then [0x20, 0x20, 0x20] ++ rightIn 2 v else rightIn 2 (v / 60) ++ [0x3A, numeral (v % 60 / 10), numeral v]

/-- The time `t` in hundredths, "MM:SS.hh" (R125). -/
def hundredthsText (t : Nat) : List Byte := clockText (t / 10000) ++ [0x2E, numeral (t / 1000), numeral (t / 100)]

/-- The time `t` in tenths, "MM:SS.t" (R125). -/
def tenthsText (t : Nat) : List Byte := clockText (t / 10000) ++ [0x2E, numeral (t / 1000)]

/-- The time `t` in whole seconds, "MM:SS" and three spaces (R125). -/
def secondsText (t : Nat) : List Byte := clockText (t / 10000) ++ [0x20, 0x20, 0x20]

/-! ## The console link -/

/-- The command that takes a received byte: by what the receiver makes of it (R167, R168). -/
def byteCommand (b : Byte) (s : State) : Instr :=
  match s.rxOutcome b with
  | .waiting _ _ => .byteReceived b true
  | .complete _ => .frameComplete b true
  | .failed _ _ => .frameFailed b true

/-- Bytes received one after another. -/
def receiveAll : List Byte → State → Host.Outcome State Fault Refusal
  | [], s => .next s
  | b :: bs, s =>
    match exec (byteCommand b s) s with
    | .next t => receiveAll bs t
    | .fault f => .fault f
    | .refused r => .refused r

/-- The link with the receiver in a state with its held bytes, a byte having been received at the tick `now`. -/
def Link.receiving (l : Link) (state : RxState) (held : List Byte) (now : Tick) : Link :=
  { l with receiver := { state := state, held := held, last := now } }

/-- Enumerated field `n` of an options record lies outside its set (R174; the fields' places and sets: section 11.9). -/
def optionRefused (p : List Byte) (n : Nat) : Prop :=
  match n with
  | 1 => 1 < field p 0 1
  | 2 => 1 < field p 1 1
  | 3 => 1 < field p 2 1
  | 4 => 1 < field p 3 1
  | 5 => 1 < field p 4 1
  | 12 => 2 < field p 15 1
  | 13 => 1 < field p 16 1
  | 14 => 1 < field p 17 1
  | 20 => 1 < field p 28 1
  | 21 => 1 < field p 29 1
  | _ => False

/-- Field `n` of an event descriptor meets the refusal condition of R28's table (the fields' places: section 11.9). -/
def eventFieldRefused (p : List Byte) (n : Nat) : Prop :=
  match n with
  | 1 => field p 0 2 = 0 ∨ 9999 < field p 0 2
  | 2 => field p 2 1 ≠ 25 ∧ field p 2 1 ≠ 50
  | 3 => field p 3 1 = 0 ∨ 60 < field p 3 1
  | 4 => 1 < field p 4 1 ∨ (field p 4 1 = 1 ∧ (field p 3 1 % 4 ≠ 0 ∨ field p 3 1 / 4 % 2 = 1))
  | 5 => 1 < field p 5 1
  | 6 => 1 < field p 6 1
  | 8 => 3 < field p 11 1
  | _ => False

/-- Field `n` is the first in number order that `refused` holds of. -/
def FirstRefused (refused : Nat → Prop) (n : Nat) : Prop := refused n ∧ ∀ m < n, ¬ refused m

/-- Every field of the options record lies in its range (sections 1.2, 8, 9.3 and 10.1). -/
def Options.inRange (o : Options) : Prop :=
  (1 ≤ o.deglitchPad ∧ o.deglitchPad ≤ 250) ∧ (1 ≤ o.deglitchButton ∧ o.deglitchButton ≤ 250)
  ∧ (1 ≤ o.deglitchBlock ∧ o.deglitchBlock ≤ 250) ∧ (1 ≤ o.deglitchStart ∧ o.deglitchStart ≤ 250)
  ∧ (100 ≤ o.padHold ∧ o.padHold ≤ 10000) ∧ (10000 ≤ o.stuckTime ∧ o.stuckTime ≤ 600000)
  ∧ (1 ≤ o.settle ∧ o.settle ≤ 50) ∧ (1 ≤ o.strobeWidth ∧ o.strobeWidth ≤ 50)
  ∧ (10 ≤ o.byteTimeout ∧ o.byteTimeout ≤ 10000) ∧ (2000 ≤ o.refresh ∧ o.refresh ≤ 60000) ∧ o.splitHold ≤ 300000
  ∧ (1000 ≤ o.takeWait ∧ o.takeWait ≤ 100000) ∧ (500 ≤ o.flashWidth ∧ o.flashWidth ≤ 20000)
  ∧ (1000 ≤ o.alertWidth ∧ o.alertWidth ≤ 100000) ∧ o.offDelay ≤ 100000
  ∧ (100 ≤ o.bellWidth ∧ o.bellWidth ≤ 20000) ∧ (10000 ≤ o.recordWidth ∧ o.recordWidth ≤ 600000)

/-- Every field of an event descriptor lies in its range or set (R28, R29, R32). -/
def EventDesc.inRange (e : EventDesc) : Prop :=
  (1 ≤ e.number ∧ e.number ≤ 9999) ∧ (e.pool = 25 ∨ e.pool = 50) ∧ (1 ≤ e.total ∧ e.total ≤ 60)
  ∧ (e.kind = .relay → e.total % 8 = 0) ∧ (50000 ≤ e.minLength ∧ e.minLength ≤ 600000) ∧ e.buttons ≤ 3
  ∧ (30000 ≤ e.window ∧ e.window ≤ 300000) ∧ (500 ≤ e.disagreement ∧ e.disagreement ≤ 10000)
  ∧ e.defaultLag ≤ e.disagreement ∧ e.tolerance ≤ 1000 ∧ e.recallWindow ≤ 600000
  ∧ e.title.length ≤ 24 ∧ ∀ b ∈ e.title, 0x20 ≤ b ∧ b ≤ 0x7E

/-! ## What is due at a tick -/

/-- The samples of the tick just begun make the command `c` due: an edge to record, drop or confirm (R6, R7), or a marking that
follows the race clock (R130). -/
def SampleMakesDue (c : Instr) (s : State) : Prop :=
  let level (n : Nat) := normalised (s.tested.polarity (lineClass n)) (s.pins.lines.getD n false)
  match c with
  | .pendingEdge n high =>
    n < 61 ∧ high = s.pins.lines.getD n false ∧ (s.line n).pendingEdge = none ∧ level n ≠ (s.line n).active
  | .pendingEdgeDropped n high =>
    n < 61 ∧ high = s.pins.lines.getD n false ∧ (s.line n).pendingEdge ≠ none ∧ level n = (s.line n).active
  | .edgeConfirmed n high =>
    n < 61 ∧ high = s.pins.lines.getD n false
    ∧ ∃ e, (s.line n).pendingEdge = some e ∧ level n ≠ (s.line n).active ∧ level n = e.active
      ∧ s.tested.deglitch (lineClass n) ≤ interval e.lead s.tick
  | .headerTenths => s.race.state = .running ∧ s.raceClock < 59999999 ∧ s.raceClock % 1000 = 0
  | .runningSeconds => s.race.state = .running ∧ s.raceClock < 59999999 ∧ s.raceClock % 10000 = 0
  | _ => False

/-- A stop is pending and the row it waits for has ended, so that the unit leaves OWNING at this tick (R144, R155, R158). -/
def StopIsDue (s : State) : Prop :=
  s.share.state = .owning ∧ (s.share.yieldPending = true ∨ s.share.releasePending = true) ∧ s.board.sending = none

/-- The sample of the ownership inputs, at the levels they have, calls for the command `c` (R149, R150, R153, R154). -/
def ShareSampleCalls (c : Instr) (s : State) : Prop :=
  match c with
  | .claimWithdrawn v =>
    v = s.pins.share ∧ v.own = true ∧ s.share.unitA = false ∧ ∃ c, s.share.claim = some c ∧ 1 ≤ interval c s.tick
  | .partnerTook v => v = s.pins.share ∧ v.own = true ∧ s.share.state = .free ∧ s.share.claim = none
  | .boardFree v => v = s.pins.share ∧ v.own = false ∧ v.req = false ∧ s.share.state = .partnerOwns
  | .claimOnOwnInInactive v =>
    v = s.pins.share ∧ v.own = false ∧ (s.share.state = .asking ∨ s.share.state = .forcing) ∧ s.share.claim = none
  | .reqInActive v =>
    v = s.pins.share ∧ v.req = true ∧ s.share.state = .owning ∧ s.share.reqDue = true ∧ ¬ StopIsDue s
  | .boardLost v => v = s.pins.share ∧ v.force = true ∧ s.share.state = .owning ∧ ¬ StopIsDue s
  | _ => False

/-- The timer of a lamp function has run its width (R161 to R163). -/
def LampRunOut (x : Option LampTimer) (now : Tick) : Prop :=
  ∃ y r, x = some y ∧ y.run = some r ∧ r.width ≤ interval r.start now

/-- The request command `c` takes the frame `f` (R168). A frame of ADJUST_LENGTH or DECLARE that spells none of its commands is
taken by the first of them: log entry 4. -/
def TakesFrame (c : Instr) (f : Frame) : Prop :=
  ∃ x ∈ requests, c = x.1 ∧ f.kind = x.2.1
    ∧ ∀ b, x.2.2.2 = some b → byteAt f.payload 1 = b
      ∨ ((c = .adjustLengthPlusOne ∨ c = .declareDns)
        ∧ ∀ y ∈ requests, y.2.1 = f.kind → y.2.2.2 ≠ some (byteAt f.payload 1))

/-- The state makes the command `c` due at this tick. -/
def StateMakesDue (c : Instr) (s : State) : Prop :=
  match c with
  | .padHoldExpiry n => n < 61 ∧ ∃ h, (s.line n).rearm = .hold h ∧ s.tested.padHold ≤ interval h s.tick
  | .lineStuck n =>
    n < 61 ∧ lineClass n ≠ .block ∧ (s.line n).stuck = false ∧ (s.line n).active = true
    ∧ s.tested.stuckTime < interval (s.line n).activeSince s.tick
  | .backupWindowExpiry n =>
    n < 10 ∧ (s.lane n).state = .finishing ∧ ∃ w, (s.lane n).window = some w ∧ w.width ≤ interval w.start s.tick
  | .clockLimit =>
    s.race.state = .running ∧ s.race.limitMark = false ∧ ∃ st, s.race.startTick = some st ∧ s.tick = st + 59999999
  | .splitHoldExpiry n => n < 10 ∧ ∃ h, s.hold n = some h ∧ h.width ≤ interval h.start s.tick
  | .slotExpiry => ∃ st, s.board.slot = some st ∧ s.board.slotPeriod ≤ interval st s.tick
  | .rowStart =>
    s.share.state = .owning ∧ s.board.sending = none ∧ s.share.yieldPending = false ∧ s.share.releasePending = false
    ∧ (s.board.queue ≠ [] ∨ (s.board.balance < 8 ∧ ∃ r < 22, s.rowMasked r = false))
  | .rowComplete high =>
    high = s.pins.flag ∧ ∃ x, s.board.sending = some x ∧ x.bytes.length ≤ 1
      ∧ (Accepted x high s ∨ (x.phase = .settleAfter ∧ x.settle ≤ interval x.since s.tick))
  | .flagWaitMet high =>
    high = s.pins.flag ∧ ∃ x, s.board.sending = some x
      ∧ ((x.phase = .waitReady ∧ flagReady x.flagPolarity high = true ∧ interval x.since s.tick ≤ x.byteTimeout)
        ∨ (Accepted x high s ∧ 2 ≤ x.bytes.length))
  | .settleTimeExpiry =>
    ∃ x, s.board.sending = some x ∧ x.settle ≤ interval x.since s.tick
      ∧ (x.phase = .settle ∨ (x.phase = .settleAfter ∧ 2 ≤ x.bytes.length))
  | .strobeWidthExpiry =>
    ∃ x, s.board.sending = some x ∧ x.phase = .strobe ∧ x.strobeWidth ≤ interval x.since s.tick
  | .boardStall =>
    ∃ x, s.board.sending = some x ∧ (x.phase = .waitReady ∨ x.phase = .waitAccept)
      ∧ x.byteTimeout < interval x.since s.tick
  | .stopAfterRow => StopIsDue s
  | .claimWindowEnd =>
    ∃ c, s.share.claim = some c ∧ 10 ≤ interval c s.tick ∧ (s.share.unitA = true ∨ s.pins.share.own = false)
  | .takeWaitExpiry =>
    (s.share.state = .asking ∨ s.share.state = .forcing) ∧ s.share.claim = none
    ∧ ∃ st, s.share.takeWait = some st ∧ s.tested.takeWait ≤ interval st s.tick
  | .pulseExpiry (.startFlash n) => n < 10 ∧ LampRunOut s.lamps.startFlash[n]? s.tick
  | .pulseExpiry .bell => LampRunOut (some s.lamps.bell) s.tick
  | .extendedExpiry (.takeoffAlert n) => n < 10 ∧ LampRunOut s.lamps.takeoffAlert[n]? s.tick
  | .extendedExpiry .record => LampRunOut (some s.lamps.record) s.tick
  | .offDelayExpiry n => n < 10 ∧ LampRunOut s.lamps.finalLength[n]? s.tick
  | .frameTimeout => s.link.receiver.state ≠ .hunt ∧ 200 < interval s.link.receiver.last s.tick
  | .messageStart =>
    s.link.sent = none ∧ s.link.resetDue = false
    ∧ (s.link.watchAnswer ≠ none ∨ s.link.reply ≠ none ∨ s.link.notices ≠ [])
  | .messageEnd => ∃ m, s.link.sent = some m ∧ m.timer.width ≤ interval m.timer.start s.tick
  | .resetTakesEffect =>
    s.link.resetDue = true
    ∨ (s.link.resetPending = true
      ∧ ∃ m, s.link.sent = some m ∧ m.source = .reply ∧ m.timer.width ≤ interval m.timer.start s.tick)
  | .unknownKind => ∃ f rest, HeadRequest f rest s ∧ ∀ x ∈ requests, f.kind ≠ x.2.1
  | c => (s.shareDue = true ∧ ShareSampleCalls c s) ∨ ∃ f rest, HeadRequest f rest s ∧ TakesFrame c f

/-! ## Invariants -/

/-- Every list of a fixed length has that length: 61 lines (R4), 10 lanes, 4 record slots (R22), 22 row masks, 10 split holds
(section 8.1), 10 timers of each lane lamp function (R159). -/
structure Shape (s : State) : Prop where
  lines : s.lines.length = 61
  lanes : s.lanes.length = 10
  slots : s.race.slots.length = 4
  mask : s.board.mask.length = 22
  holds : s.board.holds.length = 10
  flash : s.lamps.startFlash.length = 10
  alert : s.lamps.takeoffAlert.length = 10
  final : s.lamps.finalLength.length = 10

/-- A lane's lengths done equal the number of its split entries, and the entry at position i stands for length i (R57). -/
def Lane.splitsInOrder (l : Lane) : Prop :=
  l.done = l.splits.length ∧ l.splits.map (·.length) = List.range' 1 l.splits.length

/-- Every lane's split list stands in order (R57). -/
def SplitsInOrder (s : State) : Prop := ∀ l ∈ s.lanes, l.splitsInOrder

/-- The lane states that go with a race state (sections 2.3 and 2.4): before ARM a lane in use is READY or DNS, ARM leaves no
READY and the START no SET, the end of the race no lane under way, and OFFICIAL no lane in REVIEW (R121). -/
def laneStateFits (r : RaceState) (l : LaneState) : Bool :=
  match r with
  | .idle => decide (l = .vacant)
  | .loaded => decide (l = .vacant ∨ l = .ready ∨ l = .dns)
  | .armed => decide (l = .vacant ∨ l = .set ∨ l = .dns)
  | .running => decide (l ≠ .ready ∧ l ≠ .set)
  | .unofficial => decide (l = .vacant ∨ l = .finished ∨ l = .review ∨ l = .dns ∨ l = .dnf)
  | .official => decide (l = .vacant ∨ l = .finished ∨ l = .dns ∨ l = .dnf)

/-- The race state and the lane states agree: each lane's state fits the race state, in ARMED and RUNNING every lane in use
holds READY or DNS as its state at ARM (R23, R38), and a FINISHING lane holds a piece of evidence (R76). -/
structure RaceAgrees (s : State) : Prop where
  count : s.lanes.length = 10
  fits : ∀ l ∈ s.lanes, laneStateFits s.race.state l.state = true
  atArm : s.race.state = .armed ∨ s.race.state = .running →
    ∀ l ∈ s.lanes, l.state ≠ .vacant → l.stateAtArm = some .ready ∨ l.stateAtArm = some .dns
  evidence : ∀ l ∈ s.lanes, l.state = .finishing → l.pad.isSome = true ∨ l.presses ≠ []

/-- The counts of the lanes: the inferred-miss count is the number of MISSED entries (R69); a SET lane has no length done (R38), a
FINISHING lane all but the last, and a FINISHED or REVIEW lane all, with its FINAL entry at length total (R57, R76, R89); and
each lane's FINAL_LENGTH input is on exactly while it is SWIMMING with one length to go in an event of 8 lengths or more (R70). -/
structure CountsRight (s : State) : Prop where
  misses : ∀ l ∈ s.lanes, l.misses = (l.splits.filter (fun x => decide (x.kind = .missed))).length
  set : ∀ l ∈ s.lanes, l.state = .set → l.done = 0
  finishing : ∀ l ∈ s.lanes, l.state = .finishing → l.done + 1 = s.event.total
  resolved : ∀ l ∈ s.lanes, l.state = .finished ∨ l.state = .review →
    l.done = s.event.total ∧ ∃ x ∈ l.splits, x.kind = .final ∧ x.length = s.event.total
  finalInput : ∀ n < 10, s.lamps.finalLength[n]?.map (·.input)
    = some (decide (8 ≤ s.event.total ∧ (s.lane n).state = .swimming ∧ (s.lane n).done + 1 = s.event.total))

/-- The lag sample list holds at most one entry for each lane, of a lane that has been resolved, with a delta no greater than the
disagreement limit (R84). -/
structure LagsRight (s : State) : Prop where
  once : (s.race.lags.map (·.lane)).Nodup
  resolved : ∀ x ∈ s.race.lags, (s.lane x.lane).state = .finished ∨ (s.lane x.lane).state = .review
  bounded : ∀ x ∈ s.race.lags, x.delta ≤ s.event.disagreement

/-- The Board Link Controller's invariant: the dirty row queue holds no row twice and only rows 0 to 21 (R133), the balance lies
between −8 and +8 (R136), the pointer names a row, and while the unit is not OWNING the balance is 0, the slot timer is stopped,
no row is in transmission, the lines are high-impedance and no stop is pending (R135, R136, R148, R152). An OWNING unit holds
no claim. -/
structure BoardInv (s : State) : Prop where
  once : s.board.queue.Nodup
  rows : ∀ r ∈ s.board.queue, r < 22
  sendRow : ∀ x, s.board.sending = some x → x.row < 22
  pointer : s.board.pointer < 22
  low : -8 ≤ s.board.balance
  high : s.board.balance ≤ 8
  silent : s.share.state ≠ .owning →
    s.board.balance = 0 ∧ s.board.slot = none ∧ s.board.sending = none ∧ s.board.drive = none
  noStop : s.share.state ≠ .owning → s.share.yieldPending = false ∧ s.share.releasePending = false
  claim : s.share.state = .owning → s.share.claim = none

/-- The Console Link Controller's bounds: at most four frames held (R168), at most 32 notices (R170), at most 16 alarm entries,
no two of which share both kind and lane (R176). -/
structure LinkInv (s : State) : Prop where
  buffer : s.link.buffer.length ≤ 4
  notices : s.link.notices.length ≤ 32
  alarms : s.link.alarms.length ≤ 16
  distinct : (s.link.alarms.map (fun a => (a.kind, a.lane))).Nodup

/-- A pending watch has the current vector as its snapshot: it is answered as soon as the two differ (R171). -/
def WatchCurrent (s : State) : Prop := ∀ w, s.link.watch = some w → w.snapshot = s.vector

/-- A lane's timed evidence keeps its distance (R60): each TIMED or FINAL entry stands at least as many minimum length times behind
an earlier TIMED entry, or behind the start, as there are lengths between them; the pad evidence and the backup candidate stand
one length beyond the list without its FINAL entry; and only a resolved lane holds a FINAL entry, as its last, or a candidate,
and only a FINISHING or resolved one pad evidence. -/
structure Lane.spaced (e : EventDesc) (l : Lane) : Prop where
  fromStart : ∀ x ∈ l.splits, ∀ t, x.time = some t → x.length * e.minLength ≤ t
  between : ∀ x ∈ l.splits, ∀ y ∈ l.splits, ∀ t u, x.kind = .timed → x.time = some t → y.time = some u →
    x.length < y.length → t + (y.length - x.length) * e.minLength ≤ u
  timed : ∀ x ∈ l.splits, x.time ≠ none ↔ x.kind = .timed ∨ x.kind = .final
  last : ∀ x ∈ l.splits, x.kind = .final → (l.state = .finished ∨ l.state = .review) ∧ x.length = l.done
  pad : ∀ p, l.pad = some p →
    (l.state = .finishing ∨ l.state = .finished ∨ l.state = .review) ∧ lengthLimit e l 1 ≤ p.time
  candidate : ∀ c, l.candidate = some c → (l.state = .finished ∨ l.state = .review) ∧ lengthLimit e l 1 ≤ c

/-- Every lane's timed evidence keeps its distance (R60). -/
def LanesSpaced (s : State) : Prop := ∀ l ∈ s.lanes, l.spaced s.event

end Sys2Proof.Machine
end

