-- ==== Sys2Proof/WellFormed.lean ====
section
/-!
DEFINITION. Which commands name something the part has: a sense line is 0 to 60, a lane 0 to 9 (R4), and a power-on gives a
level for each of the 61 sense lines. Every other operand is a byte or a level and is always well formed.
-/
namespace Sys2Proof

/-- The number names a sense line (R4). -/
def lineExists (n : Nat) : Bool := decide (n < Config.lineCount)

/-- The number names a lane (R4). -/
def laneExists (n : Nat) : Bool := decide (n < Config.laneCount)

/-- The command names only lines and lanes that exist. -/
def Instr.wellFormed : Instr → Bool
  | .powerOn pins => decide (pins.lines.length = Config.lineCount)
  | .pendingEdge line _ => lineExists line
  | .pendingEdgeDropped line _ => lineExists line
  | .edgeConfirmed line _ => lineExists line
  | .padHoldExpiry line => lineExists line
  | .lineStuck line => lineExists line
  | .backupWindowExpiry lane => laneExists lane
  | .splitHoldExpiry lane => laneExists lane
  | .pulseExpiry (.startFlash lane) => laneExists lane
  | .extendedExpiry (.takeoffAlert lane) => laneExists lane
  | .offDelayExpiry lane => laneExists lane
  | .pulseExpiry .bell | .extendedExpiry .record | .reset | .resetTakesEffect | .clockLimit | .headerTenths
  | .runningSeconds | .slotExpiry | .rowStart | .boardStall | .claimWindowEnd | .takeWaitExpiry | .stopAfterRow
  | .frameTimeout | .unknownKind | .messageStart | .messageEnd | .status | .setOptions | .readOptions | .lineMask
  | .lineLevels | .loadEvent | .setLane | .setRecord | .clearRace | .arm | .recallRace | .stopRace | .adjustLengthPlusOne
  | .adjustLengthMinusOne | .adjudicate | .declareDns | .declareDnf | .declareDq | .declareReinstate | .close
  | .readLane | .readSplits | .readRanking | .watch | .cancelWatch | .boardTake | .boardRelease | .boardText
  | .rowMask | .readAlarms | .clearAlarms | .settleTimeExpiry | .strobeWidthExpiry | .rowComplete _
  | .claimWithdrawn _ | .partnerTook _ | .boardFree _ | .claimOnOwnInInactive _ | .reqInActive _ | .boardLost _
  | .flagWaitMet _ | .frameComplete _ _ | .frameFailed _ _ | .byteReceived _ _ => true

end Sys2Proof
end

