-- ==== Sys2Proof/Certificates/Slice0/Obligations.lean ====
section
/-!
DEFINITION. The statements for the provers, each listed in OBLIGATIONS.json.
-/
open Sys2Proof Sys2Proof.Machine

/-! ## The step, the timebase and the settings -/

/-- One step of a state with the command `c` at the front of its queue runs `c` on the state with the queue's rest. -/
def Obligations.StepRunsFrontCommand : Prop :=
  ∀ (c : Instr) (rest : List Instr) (s : State),
    s.pending = c :: rest → step s = exec c { s with pending := rest }

/-- On an empty queue the step takes a command that is due at this tick: the only one where one is due, and one of them where
several are, in an order left open. It is then due no longer, and every choice is counted. The model's choice: log entries 1
and 2. On an empty queue with nothing due a tick passes: the count advances by one modulo 2^32 (R1), the pins take their next
levels, and the options of the moment are those against which the samples and timers of the tick are tested. A line of a class
whose polarity has changed is loaded with its level at this sample as at power-on, its mask kept; every other line is
unchanged (R5). The lane records, the lamps and the settings are unchanged, and of the race record all but the latch of R55: it
is set once the race is RUNNING with its clock-limit mark set and more than 250 ticks have passed since the limit tick (log
entry 11). The run of REQ_IN samples ends at an inactive one (R154; log entry 18). What is due is what R6, R7 and R130 make due
of this tick's samples, what R149, R150, R153 and R154 make due of the sample of the ownership inputs while it is not yet judged
(log entries 18 and 27), the timers that have run out, the row, the message and the stop that can begin or end, and the request that can
be taken (log entry 4). The model's choice of when a tick passes: log entry 1. -/
def Obligations.EmptyQueueTakesWhatIsDueOrATickPasses : Prop :=
  (∀ s : State, s.pending = [] →
    (∀ c, allDue s = [c] → step s = exec c { s with due := s.due.erase c })
    ∧ (2 ≤ (allDue s).length →
        ∃ c ∈ allDue s, step s = exec c { s with due := s.due.erase c, picks := s.picks + 1 }))
  ∧ (∀ s : State, s.pending = [] → allDue s = [] →
    ∃ t, step s = .next t
      ∧ t.tick = s.tick + 1 ∧ t.pins = s.pinFeed.headD s.pins ∧ t.pinFeed = s.pinFeed.tail ∧ t.flagBefore = s.pins.flag
      ∧ t.tested = s.options ∧ t.options = s.options ∧ t.reloads = [] ∧ t.link.requestTaken = false
      ∧ { t.race with pastLimit := s.race.pastLimit } = s.race ∧ t.lanes = s.lanes ∧ t.lamps = s.lamps
      ∧ (let past := s.race.state = .running ∧ s.race.limitMark = true
            ∧ ∃ st, s.race.startTick = some st ∧ 250 < interval (st + 59999999) (s.tick + 1)
         (past → t.race.pastLimit = true) ∧ (¬ past → t.race.pastLimit = s.race.pastLimit))
      ∧ { t.board with slotPeriod := s.board.slotPeriod } = s.board
      ∧ t.board.slotPeriod = s.options.refresh / unmaskedRows s.board.mask
      ∧ { t.share with reqRun := s.share.reqRun, reqDue := s.share.reqDue } = s.share
      ∧ t.share.reqRun = (s.share.reqRun && t.pins.share.req)
      ∧ t.share.reqDue = (decide (s.share.state = .owning) && t.pins.share.req)
      ∧ (∀ c, c ∈ t.due ↔ SampleMakesDue c t) ∧ (t.shareDue = true ↔ ∃ c, ShareSampleCalls c t)
      ∧ { t.link with requestTaken := s.link.requestTaken } = s.link
      ∧ ∀ n < s.lines.length,
          (lineClass n ∉ s.reloads → t.line n = s.line n)
          ∧ (lineClass n ∈ s.reloads →
              (t.line n).active = normalised (s.options.polarity (lineClass n)) (t.pins.lines.getD n false)
              ∧ (t.line n).pendingEdge = none ∧ (t.line n).stuck = false ∧ (t.line n).masked = (s.line n).masked
              ∧ ((t.line n).active = true → (t.line n).activeSince = t.tick)
              ∧ ((lineClass n = .pad ∨ lineClass n = .button) →
                  (t.line n).rearm = if (t.line n).active then .waitRelease else .ready)
              ∧ (lineClass n = .start → (t.line n).rearm = if (t.line n).active then .held else .ready)))
  ∧ (∀ s : State, Shape s → ∀ c, c ∈ allDue s ↔ c ∈ s.due ∨ StateMakesDue c s)

/-- No command but POWER_ON and RESET_TAKES_EFFECT sets the tick count (R1), and no command changes what waits outside the
part: the queue of commands, the coming pin levels and the counter of free choices (that POWER_ON and RESET_TAKES_EFFECT keep
these too is the model's choice: log entry 23). But for POWER_ON and RESET_TAKES_EFFECT,
the options change only by SET_OPTIONS, the row mask only by ROW_MASK, the footer text only by BOARD_TEXT, the record slots
only by SET_RECORD, LOAD_EVENT and CLEAR_RACE, the event only by LOAD_EVENT and CLEAR_RACE, the alarm list empties only by
CLEAR_ALARMS, and the straps as read never. -/
def Obligations.CommandsTouchOnlyTheirSettings : Prop :=
  (∀ (c : Instr) (s t : State), exec c s = .next t →
    t.pending = s.pending ∧ t.pinFeed = s.pinFeed ∧ t.picks = s.picks
    ∧ ((∀ p, c ≠ .powerOn p) → c ≠ .resetTakesEffect → t.tick = s.tick ∧ t.tested = s.tested ∧ t.due = s.due))
  ∧ (∀ (c : Instr) (s t : State), exec c s = .next t → (∀ p, c ≠ .powerOn p) → c ≠ .resetTakesEffect →
    (c ≠ .setOptions → t.options = s.options)
    ∧ (c ≠ .rowMask → t.board.mask = s.board.mask)
    ∧ (c ≠ .boardText → t.board.footer = s.board.footer)
    ∧ (c ≠ .setRecord → c ≠ .loadEvent → c ≠ .clearRace → t.race.slots = s.race.slots)
    ∧ (c ≠ .loadEvent → c ≠ .clearRace → t.race.event = s.race.event)
    ∧ (c ≠ .clearAlarms → s.link.alarms.map (fun a => (a.kind, a.lane, a.first))
        <+: t.link.alarms.map (fun a => (a.kind, a.lane, a.first)))
    ∧ t.share.unitA = s.share.unitA ∧ t.link.rate1 = s.link.rate1 ∧ t.link.rate0 = s.link.rate0)

/-! ## Power-on and RESET -/

/-- POWER_ON puts every block in its power-on state with the pins as they read (R1, R21, R37, R147, R157, R159, R178), and
RESET_TAKES_EFFECT does the same once the reply to RESET has been sent, or its last byte ends at this tick. The model's choices:
that the reset is taken as a command once it is due (log entry 14), the slot period and the arrival of the latest byte before
either has been set (log entry 16), that the sample of tick 0 falls within the step and the queue of commands is kept (log
entry 23), and that RESET leaves the notice queue and the dirty row queue empty, as R170, R178, R37 and R147 say against R105
(log entry 25). -/
def Obligations.PowerOnAndResetState : Prop :=
  (∀ (pins : Pins) (s : State), ∃ t, exec (.powerOn pins) s = .next t ∧ PoweredOn pins t ∧ t.pending = s.pending)
  ∧ (∀ s : State,
      (s.link.resetDue = true
        ∨ (s.link.resetPending = true
          ∧ ∃ m, s.link.sent = some m ∧ m.source = .reply ∧ m.timer.width ≤ interval m.timer.start s.tick)) →
      ∃ t, exec .resetTakesEffect s = .next t ∧ PoweredOn s.pins t ∧ t.pending = s.pending)

/-- The state after reset is the power-on state with every input pin low and an empty queue, with nothing due; and every
invariant of the statements below holds there. That the pins are low at tick 0 is the model's choice: log entry 5. -/
def Obligations.ResetIsPowerOnAndInOrder : Prop :=
  PoweredOn Pins.low State.reset ∧ State.reset.pending = [] ∧ allDue State.reset = []
  ∧ Shape State.reset ∧ SplitsInOrder State.reset ∧ RaceAgrees State.reset ∧ PlacesRight State.reset
  ∧ RankingRight State.reset ∧ BoardInv State.reset ∧ LinkInv State.reset ∧ WatchCurrent State.reset
  ∧ LanesSpaced State.reset ∧ CountsRight State.reset ∧ LagsRight State.reset

/-! ## The Capture Unit -/

/-- A sample that differs from the edge memory of a line without a pending edge records one, with this tick as its leading
edge and the sampled level as its candidate; a sample equal to the edge memory drops a pending edge. The edge memory, the
other lines and every other block are unchanged (R3, R6). A pending edge whose level has lasted the deglitch time is
confirmed: the edge memory, the pending edge, the active-since tick, the stuck state and the re-arm state are updated (R7,
R10, R11, R13, R17), whatever the mask (R18). Where the line is masked or STUCK, or its re-arm state does not allow the event,
nothing else changes (R10, R16). -/
def Obligations.PendingEdgesAreRecordedAndConfirmed : Prop :=
  (∀ (s : State) (n : Nat) (high : Bool), n < 61 → s.lines.length = 61 →
    ((s.line n).pendingEdge = none → normalised (s.tested.polarity (lineClass n)) high ≠ (s.line n).active →
      ∃ t, exec (.pendingEdge n high) s = .next t
        ∧ t.line n = { s.line n with
            pendingEdge := some
              { lead := s.tick, active := normalised (s.tested.polarity (lineClass n)) high } }
        ∧ OtherLinesKept n s t ∧ t.pins = { s.pins with lines := s.pins.lines.set n high }
        ∧ ChangesOnly [.capture, .pins] s t)
    ∧ ((s.line n).pendingEdge ≠ none → normalised (s.tested.polarity (lineClass n)) high = (s.line n).active →
      ∃ t, exec (.pendingEdgeDropped n high) s = .next t
        ∧ t.line n = { s.line n with pendingEdge := none }
        ∧ OtherLinesKept n s t ∧ t.pins = { s.pins with lines := s.pins.lines.set n high }
        ∧ ChangesOnly [.capture, .pins] s t))
  ∧ (∀ (n : Nat) (high : Bool) (e : PendingEdge) (s : State), Confirms n high e s →
    ∃ t, exec (.edgeConfirmed n high) s = .next t
      ∧ LineConfirmed (lineClass n) e s.tick s.tested.padHold (s.line n) (t.line n) ∧ OtherLinesKept n s t
      ∧ (¬ Delivers n e s → EdgeTaken n high e [] s t))

/-- The release hold of a pad runs out and the pad goes from HOLD to READY (R11); a PAD, BUTTON or START line in NORMAL,
active for longer than the stuck time, goes to STUCK and its alarm is handed (R15). Nothing else changes. -/
def Obligations.LineTimersExpire : Prop :=
  ∀ (s : State) (n : Nat), n < 61 → s.lines.length = 61 →
    (∀ from0, (s.line n).rearm = .hold from0 → s.tested.padHold ≤ interval from0 s.tick →
      ∃ t, exec (.padHoldExpiry n) s = .next t ∧ t.line n = { s.line n with rearm := .ready }
        ∧ OtherLinesKept n s t ∧ ChangesOnly [.capture] s t)
    ∧ (lineClass n ≠ .block → (s.line n).stuck = false → (s.line n).active = true →
        s.tested.stuckTime < interval (s.line n).activeSince s.tick →
      ∃ t, exec (.lineStuck n) s = .next t ∧ t.line n = { s.line n with stuck := true }
        ∧ OtherLinesKept n s t ∧ ChangesOnly [.capture, .link] s t
        ∧ (lineClass n = .pad → t.link = s.link.withAlarm .padStuck (some (n / 6)) s.tick)
        ∧ (lineClass n = .button → t.link = s.link.withAlarm .buttonStuck (some (n / 6)) s.tick)
        ∧ (lineClass n = .start → t.link = s.link.withAlarm .startStuck none s.tick))

/-- LINE_MASK is accepted in every state and answered OK. Every line takes the setting carried for it; a mask newly set drops
the line's pending edge (R18), a line whose setting stays is undisturbed, and a payload of another length is answered
BAD_LENGTH and changes no mask. No other command but POWER_ON and RESET_TAKES_EFFECT changes a mask (R19). -/
def Obligations.LineMaskSetsTheMasks : Prop :=
  (∀ (s : State) (f : Frame) (rest : List Frame), HeadRequest f rest s → f.kind = 0x04 →
    (f.payload.length = 8 →
      ∃ t, exec .lineMask s = .next t ∧ t.link = s.link.answered f rest .ok [] ∧ ChangesOnly [.capture, .link] s t
        ∧ t.lines.length = s.lines.length
        ∧ ∀ n < s.lines.length,
            (t.line n).masked = (numberOf f.payload).testBit n
            ∧ (t.line n = s.line n
              ∨ ((t.line n).masked = false ∧ (s.line n).masked = true ∧ t.line n = { s.line n with masked := false })
              ∨ ((t.line n).masked = true ∧ (s.line n).masked = false
                  ∧ t.line n = { s.line n with masked := true, pendingEdge := none })))
    ∧ (f.payload.length ≠ 8 →
      ∃ t, exec .lineMask s = .next t ∧ t.link = s.link.answered f rest .badLength [] ∧ ChangesOnly [.link] s t))
  ∧ ∀ (c : Instr) (s t : State), exec c s = .next t → c ≠ .lineMask → (∀ p, c ≠ .powerOn p) → c ≠ .resetTakesEffect →
      t.lines.map (·.masked) = s.lines.map (·.masked)

/-! ## The start -/

/-- A START taken in ARMED with a SET lane starts the race: the start tick is the leading edge, every SET lane goes to
SWIMMING with the reaction of a release held in a DIVE event, the notices RACE_STATE, STARTED and one EARLY_RELEASE for each
negative reaction are handed in that order, START_FLASH of each such lane is triggered and its rows and row 0 are marked (R44,
R47). Whether the release or the start edge was seen first is judged by the forward distances to the current tick: log entry 10.
-/
def Obligations.StartStartsTheRace : Prop :=
  ∀ (s : State) (high : Bool) (e : PendingEdge), Confirms 60 high e s → Delivers 60 e s → s.lanes.length = 10 →
    s.race.state = .armed → (∃ l ∈ s.lanes, l.state = .set) →
    ∃ t, exec (.edgeConfirmed 60 high) s = .next t
      ∧ EdgeTaken 60 high e [.race, .lanes, .board, .lamps, .link] s t
      ∧ t.race = { s.race with state := .running, startTick := some e.lead, pastLimit := false }
      ∧ (∀ n, (s.lane n).state ≠ .set → t.lane n = s.lane n)
      ∧ (∀ n, (s.lane n).state = .set →
          (∀ r, s.event.start = .dive → (s.lane n).reactionTick = some r →
            t.lane n = { s.lane n with
              state := .swimming, reaction := some (reactionValue e.lead r s.tick)
              earlyRelease := (s.lane n).earlyRelease || decide (reactionValue e.lead r s.tick < 0) })
          ∧ (s.event.start = .water ∨ (s.lane n).reactionTick = none →
            t.lane n = { s.lane n with state := .swimming }))
      ∧ t.lamps = { s.lamps with
          startFlash := s.lamps.startFlash.zipIdx.map (fun x =>
            if (s.lane x.2).state = .set then x.1.pulse s.tick s.options.flashWidth else x.1) }
      ∧ HoldsKept s t
      ∧ (let rows := 0 :: ((List.range 10).filter (fun n => decide ((s.lane n).state = .set))).flatMap
            (fun n => [n + 1, n + 12])
         RowsMarked rows rows s t)
      ∧ (let early := (List.range 10).filter (fun n =>
            decide ((s.lane n).state = .set) && (t.lane n).reaction.any (fun r => decide (r < 0)))
         t.link = (early.foldl (fun l n => l.withNotice 0x43 (byte n :: signedBytes (t.lane n).reaction))
            ((s.link.withRaceState .running .armed s.race.event).withNotice 0x41
              (tickBytes (some e.lead) ++ laneSet (fun n => decide ((s.lane n).state = .set))))).seen t.vector)

/-- A START taken in any other case is ignored: one START_IGNORED notice with its tick and the race state is handed and
nothing else changes but the line itself. A START line that the Capture Unit does not deliver gives neither a start nor a
notice (R45). -/
def Obligations.StartIsIgnoredOtherwise : Prop :=
  ∀ (s : State) (high : Bool) (e : PendingEdge), Confirms 60 high e s → s.lanes.length = 10 → WatchCurrent s →
    (Delivers 60 e s → (s.race.state ≠ .armed ∨ ∀ l ∈ s.lanes, l.state ≠ .set) →
      ∃ t, exec (.edgeConfirmed 60 high) s = .next t ∧ EdgeTaken 60 high e [.link] s t
        ∧ t.link = s.link.withNotice 0x42 (tickBytes (some e.lead) ++ [raceCode s.race.state]))
    ∧ (¬ Delivers 60 e s → ∃ t, exec (.edgeConfirmed 60 high) s = .next t ∧ EdgeTaken 60 high e [] s t)

/-! ## Race times and touches -/

/-- The race time of a leading edge, by the rows of R55: 0 where it was seen before the start tick, the interval from the start
tick where it was seen no later than the limit tick, and 59,999,999 with the over-range mark after it; and from 251 ticks after
the limit tick on, where the latch is set, always the last. The race clock reads the interval from the start tick, held at
59,999,999 (R54). Which came first is judged by the forward distances to the current tick: log entries 10 and 11. The race
clock reaches its limit in RUNNING with the clock-limit mark clear: the mark is set and the alarm CLOCK_LIMIT is handed, with
no lane; with the mark set nothing happens, so that it is handed once (R56). No command sets the latch of the 251st tick behind
the limit tick: a tick does (log entry 11), and every change of the race state clears it. -/
def Obligations.RaceTimesAndTheClockLimit : Prop :=
  (∀ (s : State) (st e : Tick), s.race.startTick = some st →
    (s.race.pastLimit = true → s.raceTime e = { time := 59999999, overMark := true })
    ∧ (s.race.pastLimit = false →
        (interval st s.tick < interval e s.tick → s.raceTime e = { time := 0, overMark := false })
        ∧ (interval e s.tick ≤ interval st s.tick → interval st e ≤ 59999999 →
            s.raceTime e = { time := interval st e, overMark := false })
        ∧ (interval e s.tick ≤ interval st s.tick → 59999999 < interval st e →
            s.raceTime e = { time := 59999999, overMark := true }))
    ∧ (s.race.limitMark = true → s.raceClock = 59999999)
    ∧ (s.race.limitMark = false → s.raceClock = min (interval st s.tick) 59999999))
  ∧ (∀ (s : State) (st : Tick), s.race.state = .running → s.race.limitMark = false → s.race.startTick = some st →
    s.tick = st + 59999999 →
    ∃ t, exec .clockLimit s = .next t ∧ t.race = { s.race with limitMark := true }
      ∧ t.link = s.link.withAlarm .clockLimit none s.tick ∧ ChangesOnly [.race, .link] s t)
  ∧ (∀ s : State, s.race.limitMark = true → exec .clockLimit s = .next s)
  ∧ (∀ (c : Instr) (s t : State), exec c s = .next t → t.race.pastLimit = true →
      s.race.pastLimit = true ∧ t.race.state = s.race.state)

/-- A touch at the expected end of a SWIMMING lane that is not on its last length and that passes the one-length test appends
one TIMED entry with the touch's race time, at a length that is no exchange. The SPLIT notice is handed, the lane's rows are
marked, its split hold starts, and the FINAL_LENGTH input and the bell follow the new count (R63, R68, R70). A split hold of 0
starts and ends in one (log entry 26). -/
def Obligations.OrdinaryTouchAppendsASplit : Prop :=
  ∀ (s : State) (n : Nat) (at0 : PoolEnd) (high : Bool) (e : PendingEdge), Touch n at0 high e s → WatchCurrent s →
    let l := s.lane n
    let ev := s.raceTime e.lead
    l.state = .swimming → (at0 = .far → l.farTiming = .fitted) → at0 = endOf (l.done + 1) →
    l.done + 1 < s.event.total → lengthLimit s.event l 1 ≤ ev.time → NoExchange s.event (l.done + 1) →
    ∃ t, exec (.edgeConfirmed (padLine n at0) high) s = .next t
      ∧ EdgeTaken (padLine n at0) high e [.lanes, .board, .lamps, .link] s t ∧ OtherLanesKept n s t
      ∧ t.lane n = { l with
          splits := l.splits ++ [timedEntry (l.done + 1) .timed ev], done := l.done + 1
          overrange := l.overrange || ev.overMark }
      ∧ t.link = s.link.withNotice 0x44 (splitNotice n (timedEntry (l.done + 1) .timed ev))
      ∧ RowsMarked [n + 1, n + 12] [n + 1, n + 12] s t
      ∧ (s.board.holds.length = 10 → HoldSet n (holdStarted s) s t)
      ∧ t.lamps = { s.lamps with
          finalLength := s.lamps.finalLength.modify n (LampTimer.setInput s.tick s.options.offDelay
            (decide (8 ≤ s.event.total ∧ l.done + 2 = s.event.total)))
          bell := if 8 ≤ s.event.total ∧ l.done + 3 = s.event.total then s.lamps.bell.pulse s.tick s.options.bellWidth
            else s.lamps.bell }

/-- A touch at the other end of a SWIMMING lane that passes the two-length test, with two lengths or more to go besides the
last, appends the missing length and then the touched one. The missing entry is UNTIMED for a far end not timed in this lane,
and otherwise MISSED, which raises the inferred-miss count, at 3 hands COUNT_DOUBT once, and at an exchange length leaves the
exchange UNJUDGED with its notice (R65, R66, R69, R101). The touched entry at an exchange length whose takeoff is stored judges
the exchange with its notices and TAKEOFF_ALERT (R101 to R103). The lane's rows are marked, its split hold starts with the touched
entry, the FINAL_LENGTH input follows the new count, and the bell is triggered where one of the two appends leaves two lengths to
go (R68, R70, R129). A split hold of 0 starts and ends in one (R129: "With a split hold of 0, the timer expires at the tick it is
started (R2)"; log entry 26). -/
def Obligations.MissedTurnAppendsTwoEntries : Prop :=
  ∀ (s : State) (n : Nat) (at0 : PoolEnd) (high : Bool) (e : PendingEdge), Touch n at0 high e s → WatchCurrent s →
    let l := s.lane n
    let ev := s.raceTime e.lead
    let m := l.withMissing s.event
    let entry := timedEntry (l.done + 2) .timed ev
    let appended : Lane := { m with
      splits := m.splits ++ [entry], done := l.done + 2, overrange := l.overrange || ev.overMark }
    let link := (s.link.withMissing n s.event l).withNotice 0x44 (splitNotice n entry)
    let judged (j : Nat) (tau : Nat) : Prop :=
      s.event.kind = .relay ∧ 0 < s.event.total / 4 ∧ 1 ≤ j ∧ j ≤ 3 ∧ l.done + 2 = j * (s.event.total / 4)
        ∧ (m.exchange j).takeoff = some tau
    l.state = .swimming → (at0 = .far → l.farTiming = .fitted) → at0 ≠ endOf (l.done + 1) →
    l.done + 2 < s.event.total → lengthLimit s.event l 2 ≤ ev.time →
    ∃ t, exec (.edgeConfirmed (padLine n at0) high) s = .next t
      ∧ EdgeTaken (padLine n at0) high e [.lanes, .board, .lamps, .link] s t ∧ OtherLanesKept n s t
      ∧ ((∀ j tau, ¬ judged j tau) →
          t.lane n = appended ∧ t.link = link ∧ t.lamps.takeoffAlert = s.lamps.takeoffAlert)
      ∧ (∀ j tau, judged j tau →
          t.lane n = appended.setExchange j (judgement s.event tau ev.time)
          ∧ t.link = link.withExchange n j (judgement s.event tau ev.time)
          ∧ t.lamps.takeoffAlert = alertAfter n (judgement s.event tau ev.time) s)
      ∧ RowsMarked [n + 1, n + 12] [n + 1, n + 12] s t
      ∧ (s.board.holds.length = 10 → HoldSet n (holdStarted s) s t)
      ∧ t.lamps = { s.lamps with
          takeoffAlert := t.lamps.takeoffAlert
          finalLength := s.lamps.finalLength.modify n (LampTimer.setInput s.tick s.options.offDelay
            (decide (8 ≤ s.event.total ∧ l.done + 3 = s.event.total)))
          bell := if 8 ≤ s.event.total ∧ (l.done + 3 = s.event.total ∨ l.done + 4 = s.event.total) then
              s.lamps.bell.pulse s.tick s.options.bellWidth
            else s.lamps.bell }

/-- A touch or a press that is not counted changes nothing but its line and, past the clock limit, OVERRANGE of a SWIMMING or
FINISHING lane: no entry, no notice, no marking (R67, R75). -/
def Obligations.StrayTouchesAndPressesChangeNothing : Prop :=
  (∀ (s : State) (n : Nat) (at0 : PoolEnd) (high : Bool) (e : PendingEdge), Touch n at0 high e s → WatchCurrent s →
    let l := s.lane n
    let ev := s.raceTime e.lead
    ((l.state ≠ .swimming ∧ l.state ≠ .finishing) →
      ∃ t, exec (.edgeConfirmed (padLine n at0) high) s = .next t ∧ EdgeTaken (padLine n at0) high e [] s t)
    ∧ (l.state = .swimming →
        ((at0 = .far ∧ l.farTiming = .untimed)
          ∨ (at0 = endOf (l.done + 1) ∧ (ev.time < lengthLimit s.event l 1 ∨ s.event.total < l.done + 1))
          ∨ (at0 ≠ endOf (l.done + 1) ∧ (ev.time < lengthLimit s.event l 2 ∨ s.event.total < l.done + 2))) →
        s.lamps.finalLength[n]?.map (·.input) = some (decide (8 ≤ s.event.total ∧ l.done + 1 = s.event.total)) →
      ∃ t, exec (.edgeConfirmed (padLine n at0) high) s = .next t
        ∧ EdgeTaken (padLine n at0) high e [.lanes] s t ∧ OtherLanesKept n s t
        ∧ t.lane n = { l with overrange := l.overrange || ev.overMark })
    ∧ (l.state = .finishing →
        (l.pad ≠ none ∨ (at0 = .far ∧ l.farTiming = .untimed) ∨ at0 ≠ endOf s.event.total
          ∨ ev.time < lengthLimit s.event l 1) →
      ∃ t, exec (.edgeConfirmed (padLine n at0) high) s = .next t
        ∧ EdgeTaken (padLine n at0) high e [.lanes] s t ∧ OtherLanesKept n s t
        ∧ t.lane n = { l with overrange := l.overrange || ev.overMark }))
  ∧ (∀ (s : State) (n b : Nat) (high : Bool) (e : PendingEdge), Press n b high e s → WatchCurrent s →
    let l := s.lane n
    let ev := s.raceTime e.lead
    ((l.state ≠ .swimming ∧ l.state ≠ .finishing) →
      ∃ t, exec (.edgeConfirmed (buttonLine n b) high) s = .next t ∧ EdgeTaken (buttonLine n b) high e [] s t)
    ∧ (l.state = .swimming →
        (s.event.buttons < b
          ∨ (l.done + 1 ≠ s.event.total ∧ l.done + 2 ≠ s.event.total)
          ∨ (l.done + 1 = s.event.total ∧ ev.time < lengthLimit s.event l 1)
          ∨ (l.done + 2 = s.event.total ∧ ev.time < lengthLimit s.event l 2)) →
        s.lamps.finalLength[n]?.map (·.input) = some (decide (8 ≤ s.event.total ∧ l.done + 1 = s.event.total)) →
      ∃ t, exec (.edgeConfirmed (buttonLine n b) high) s = .next t
        ∧ EdgeTaken (buttonLine n b) high e [.lanes] s t ∧ OtherLanesKept n s t
        ∧ t.lane n = { l with overrange := l.overrange || ev.overMark })
    ∧ (l.state = .finishing → (s.event.buttons < b ∨ l.press b ≠ none) →
      ∃ t, exec (.edgeConfirmed (buttonLine n b) high) s = .next t
        ∧ EdgeTaken (buttonLine n b) high e [.lanes] s t ∧ OtherLanesKept n s t
        ∧ t.lane n = { l with overrange := l.overrange || ev.overMark }))

/-! ## Finish evidence and resolution -/

/-- A touch that passes the one-length test at the expected end of a SWIMMING lane on its last length opens the finish: the
lane goes to FINISHING with the touch as pad evidence and first evidence, its backup window starts at the leading edge, its
split hold ends and its FINAL_LENGTH input goes off (R64, R76, R78). A touch at the other end that passes the two-length test,
one length short of the last, appends the missing length first, as for any missed turn, and then opens the finish (R65). A
press of an in-use button opens the finish of a SWIMMING lane on its last length where it passes the one-length test, and one
length short of it where it passes the two-length test, the missing length being appended first (R75, R77). The press is
recorded as its button's press and as first evidence (R76). The missing entry is counted, and at an exchange length leaves the
exchange UNJUDGED (R66, R69, R101). A touch then waits for a press and a press for another or for the pad; with nothing to wait
for the early-close check resolves the lane at the same tick, with its notices up to the RACE_STATE of a race that ends with it
(R81, R89, R109, R110, R118). -/
def Obligations.TouchOrPressOpensTheFinish : Prop :=
  (∀ (s : State) (n : Nat) (at0 : PoolEnd) (high : Bool) (e : PendingEdge), Touch n at0 high e s →
    let l := s.lane n
    let ev := s.raceTime e.lead
    let m := l.withMissing s.event
    let opens (l : Lane) (k : Link) : Prop :=
      OpensTheFinish (.edgeConfirmed (padLine n at0) high) (padLine n at0) high e n
        { l.opened s.event e.lead ev with pad := some ev } k (PressAwaited 0 n s) s
    l.state = .swimming → (at0 = .far → l.farTiming = .fitted) →
    (at0 = endOf (l.done + 1) → l.done + 1 = s.event.total → lengthLimit s.event l 1 ≤ ev.time → opens l s.link)
    ∧ (at0 ≠ endOf (l.done + 1) → l.done + 2 = s.event.total → lengthLimit s.event l 2 ≤ ev.time →
        opens m (s.link.withMissing n s.event l)))
  ∧ (∀ (s : State) (n b : Nat) (high : Bool) (e : PendingEdge), Press n b high e s →
    let l := s.lane n
    let ev := s.raceTime e.lead
    let m := l.withMissing s.event
    let opens (l : Lane) (k : Link) : Prop :=
      OpensTheFinish (.edgeConfirmed (buttonLine n b) high) (buttonLine n b) high e n
        ((l.opened s.event e.lead ev).setPress b ev) k (PressAwaited b n s ∨ PadAwaited n s) s
    l.state = .swimming → b ≤ s.event.buttons →
    (l.done + 1 = s.event.total → lengthLimit s.event l 1 ≤ ev.time → opens l s.link)
    ∧ (l.done + 2 = s.event.total → lengthLimit s.event l 2 ≤ ev.time → opens m (s.link.withMissing n s.event l)))

/-- In FINISHING, the first press of each in-use button is counted, and the first touch at the finish end that passes the
one-length test is the lane's pad evidence. While the early-close check still waits for a press or the pad, nothing else
happens (R79 to R81). Evidence that leaves the early-close check nothing to wait for resolves its FINISHING lane at the same
tick, with its notices up to the RACE_STATE of a race that ends with it (R81, R82, R89, R109, R110, R118). -/
def Obligations.FinishEvidenceIsCountedAndResolved : Prop :=
  ((∀ (s : State) (n b : Nat) (high : Bool) (e : PendingEdge), Press n b high e s → WatchCurrent s →
    (s.lane n).state = .finishing → b ≤ s.event.buttons → (s.lane n).press b = none →
    (PressAwaited b n s ∨ PadAwaited n s) →
    ∃ t, exec (.edgeConfirmed (buttonLine n b) high) s = .next t
      ∧ EdgeTaken (buttonLine n b) high e [.lanes] s t ∧ OtherLanesKept n s t
      ∧ t.lane n = ({ s.lane n with
          overrange := (s.lane n).overrange || (s.raceTime e.lead).overMark } : Lane).setPress b (s.raceTime e.lead))
  ∧ (∀ (s : State) (n : Nat) (high : Bool) (e : PendingEdge), Touch n (endOf s.event.total) high e s → WatchCurrent s →
    (s.lane n).state = .finishing → (s.lane n).pad = none →
    (endOf s.event.total = .far → (s.lane n).farTiming = .fitted) →
    lengthLimit s.event (s.lane n) 1 ≤ (s.raceTime e.lead).time → PressAwaited 0 n s →
    ∃ t, exec (.edgeConfirmed (padLine n (endOf s.event.total)) high) s = .next t
      ∧ EdgeTaken (padLine n (endOf s.event.total)) high e [.lanes] s t ∧ OtherLanesKept n s t
      ∧ t.lane n = { s.lane n with
          pad := some (s.raceTime e.lead), overrange := (s.lane n).overrange || (s.raceTime e.lead).overMark }))
  ∧ ((∀ (s : State) (n b : Nat) (high : Bool) (e : PendingEdge), Press n b high e s →
    (s.lane n).state = .finishing → b ≤ s.event.buttons → (s.lane n).press b = none →
    ¬ PressAwaited b n s → ¬ PadAwaited n s →
    (s.lane n).done + 1 = s.event.total → (∀ x ∈ (s.lane n).splits, x.kind ≠ .final) →
    ∃ t, exec (.edgeConfirmed (buttonLine n b) high) s = .next t
      ∧ EdgeTaken (buttonLine n b) high e [.race, .lanes, .board, .lamps, .link] s t ∧ HoldsKept s t
      ∧ Resolved n (({ s.lane n with
          overrange := (s.lane n).overrange || (s.raceTime e.lead).overMark } : Lane).setPress b (s.raceTime e.lead)) s t
      ∧ { t.lamps with record := s.lamps.record } = s.lamps)
  ∧ (∀ (s : State) (n : Nat) (high : Bool) (e : PendingEdge), Touch n (endOf s.event.total) high e s →
    (s.lane n).state = .finishing → (s.lane n).pad = none →
    (endOf s.event.total = .far → (s.lane n).farTiming = .fitted) →
    lengthLimit s.event (s.lane n) 1 ≤ (s.raceTime e.lead).time → ¬ PressAwaited 0 n s →
    (s.lane n).done + 1 = s.event.total → (∀ x ∈ (s.lane n).splits, x.kind ≠ .final) →
    ∃ t, exec (.edgeConfirmed (padLine n (endOf s.event.total)) high) s = .next t
      ∧ EdgeTaken (padLine n (endOf s.event.total)) high e [.race, .lanes, .board, .lamps, .link] s t ∧ HoldsKept s t
      ∧ Resolved n { s.lane n with
          pad := some (s.raceTime e.lead), overrange := (s.lane n).overrange || (s.raceTime e.lead).overMark } s t
      ∧ { t.lamps with record := s.lamps.record } = s.lamps))

/-- When its backup window expires, a FINISHING lane is resolved with the evidence it holds: the consensus, the lag used and
the backup candidate are stored, the result is decided by the table of R87, the FINAL entry is appended, the ranking and the
record set follow, and the race ends with its last lane; the notices SPLIT, LANE_RESOLVED, PLACES, RECORD and RACE_STATE are
handed in this order, the last three where what they report changes, and nothing else happens to the link but that a pending
watch sees the change (R78, R83 to R90, R109, R110, R118). -/
def Obligations.WindowExpiryResolvesTheLane : Prop :=
  ∀ (s : State) (n : Nat) (w : Timer), n < 10 → s.lanes.length = 10 → (s.lane n).state = .finishing →
    (s.lane n).window = some w → w.width ≤ interval w.start s.tick →
    ((s.lane n).pad ≠ none ∨ (s.lane n).presses ≠ []) →
    (s.lane n).done + 1 = s.event.total → (∀ x ∈ (s.lane n).splits, x.kind ≠ .final) →
    ∃ t, exec (.backupWindowExpiry n) s = .next t
      ∧ Resolved n (s.lane n) s t ∧ HoldsKept s t ∧ { t.lamps with record := s.lamps.record } = s.lamps
      ∧ ChangesOnly [.race, .lanes, .board, .lamps, .link] s t

/-- The consensus of three presses is the middle value, of two their sum halved with the remainder discarded, of one that
press, of none absent, whichever buttons they come from (R83); and the one-length and two-length limits are one and two
minimum lengths beyond the last timed entry and the untimed run behind it (R59, R60). -/
def Obligations.ConsensusAndLimits : Prop :=
  (∀ a b c : Nat, ∃ m, consensusOf [a, b, c] = some m ∧ m ∈ [a, b, c]
    ∧ 2 ≤ ([a, b, c].filter (fun x => decide (x ≤ m))).length ∧ 2 ≤ ([a, b, c].filter (fun x => decide (m ≤ x))).length)
  ∧ (∀ a b : Nat, ∃ m, consensusOf [a, b] = some m ∧ 2 * m ≤ a + b ∧ a + b < 2 * m + 2)
  ∧ (∀ a : Nat, consensusOf [a] = some a) ∧ consensusOf [] = none
  ∧ (∀ (e : EventDesc) (l : Lane) (i : Nat) (xs run : List Split) (x : Split) (time : Nat),
      l.splits = xs ++ [x] ++ run → x.kind = .timed → x.time = some time →
      (∀ y ∈ run, y.kind ≠ .timed ∧ y.kind ≠ .final) →
      lengthLimit e l i = time + (run.length + i) * e.minLength)
  ∧ (∀ (e : EventDesc) (l : Lane) (i : Nat), (∀ y ∈ l.splits, y.kind ≠ .timed ∧ y.kind ≠ .final) →
      lengthLimit e l i = (l.splits.length + i) * e.minLength)

/-! ## Blocks and exchanges -/

/-- Block tracking of a lane in SET, SWIMMING or FINISHING goes to LOADED with a load; a load elsewhere, a release elsewhere
and a release from EMPTY or RELEASED change nothing (R36, R42). In a DIVE event the first release from LOADED is the lane's
reaction release: held while the race is ARMED, and in RUNNING, seen no later than 30,000 ticks after the start tick, its
reaction is stored at once; a negative one sets EARLY_RELEASE and hands the notice. A later first release only moves the
tracking (R43, R47, R48), and so does any other release from LOADED that is no takeoff: one in ARMED of a WATER event or behind
the reaction release, one of an INDIVIDUAL event in RUNNING, and one of a relay seen no later than 30,000 ticks after the start
tick behind the reaction release (R43, R97, R98). Which was seen first is judged by the forward distances to the current tick,
and past the latch of log entry 11 every release is late: log entries 10 and 11. -/
def Obligations.BlockTrackingAndReactions : Prop :=
  (∀ (s : State) (n : Nat) (high : Bool) (e : PendingEdge), BlockEdge n high e s →
    let l := s.lane n
    (e.active = true → (l.state = .set ∨ l.state = .swimming ∨ l.state = .finishing) →
      ∃ t, exec (.edgeConfirmed (blockLine n) high) s = .next t
        ∧ EdgeTaken (blockLine n) high e [.lanes] s t ∧ OtherLanesKept n s t
        ∧ t.lane n = { l with tracking := .loaded })
    ∧ ((l.state ≠ .set ∧ l.state ≠ .swimming ∧ l.state ≠ .finishing) ∨ (e.active = false ∧ l.tracking ≠ .loaded) →
      ∃ t, exec (.edgeConfirmed (blockLine n) high) s = .next t ∧ EdgeTaken (blockLine n) high e [] s t))
  ∧ (∀ (s : State) (n : Nat) (high : Bool) (e : PendingEdge), BlockEdge n high e s →
    let l := s.lane n
    e.active = false → (l.state = .set ∨ l.state = .swimming ∨ l.state = .finishing) → l.tracking = .loaded →
    s.event.start = .dive → l.reactionTick = none →
    (s.race.state = .armed →
      ∃ t, exec (.edgeConfirmed (blockLine n) high) s = .next t
        ∧ EdgeTaken (blockLine n) high e [.lanes] s t ∧ OtherLanesKept n s t
        ∧ t.lane n = { l with tracking := .released, reactionTick := some e.lead })
    ∧ (∀ st, s.race.state = .running → s.race.startTick = some st →
        let r := reactionValue st e.lead s.tick
        (s.race.pastLimit = false → (interval st s.tick < interval e.lead s.tick ∨ interval st e.lead ≤ 30000) →
          ∃ t, exec (.edgeConfirmed (blockLine n) high) s = .next t
            ∧ EdgeTaken (blockLine n) high e [.lanes, .link] s t ∧ OtherLanesKept n s t
            ∧ t.lane n = { l with
                tracking := .released, reactionTick := some e.lead, reaction := some r
                earlyRelease := l.earlyRelease || decide (r < 0) }
            ∧ t.link = if r < 0 then s.link.withNotice 0x43 (byte n :: signedBytes (some r)) else s.link)
        ∧ (s.race.pastLimit = true ∨ (interval e.lead s.tick ≤ interval st s.tick ∧ 30000 < interval st e.lead) →
          ∃ t, exec (.edgeConfirmed (blockLine n) high) s = .next t
            ∧ EdgeTaken (blockLine n) high e [.lanes] s t ∧ OtherLanesKept n s t
            ∧ t.lane n = { l with tracking := .released })))
  ∧ (∀ (s : State) (n : Nat) (high : Bool) (e : PendingEdge), BlockEdge n high e s →
    let l := s.lane n
    e.active = false → (l.state = .set ∨ l.state = .swimming ∨ l.state = .finishing) → l.tracking = .loaded →
    (((s.event.start = .water ∨ l.reactionTick ≠ none)
        ∧ (s.event.kind = .individual ∨ s.race.state ≠ .running
          ∨ (s.event.start = .dive ∧ ∃ st, s.race.startTick = some st ∧ s.race.pastLimit = false
              ∧ (interval st s.tick < interval e.lead s.tick ∨ interval st e.lead ≤ 30000))))
      ∨ (s.race.state ≠ .armed ∧ s.race.state ≠ .running)) →
    ∃ t, exec (.edgeConfirmed (blockLine n) high) s = .next t
      ∧ EdgeTaken (blockLine n) high e [.lanes] s t ∧ OtherLanesKept n s t
      ∧ t.lane n = { l with tracking := .released })

/-- In a RELAY, a release from LOADED that is no reaction release becomes the next takeoff: in a WATER event always, in a DIVE
event where a reaction release is held and the release was seen more than 30,000 ticks after the start tick. Its race time is
stored for exchange c + 1; the exchange is PENDING while its entry is not in the list, judged against a TIMED entry, and
otherwise keeps its status. With three takeoffs the release is ignored (R97 to R100, R102, R103). That a release was seen more
than 30,000 ticks after the start tick is judged by the forward distances to the current tick and by the latch of R55: log
entries 10 and 11. -/
def Obligations.TakeoffIsStored : Prop :=
  ∀ (s : State) (n : Nat) (high : Bool) (e : PendingEdge) (st : Tick), BlockEdge n high e s →
    let l := s.lane n
    let j := l.takeoffs + 1
    let tau := (s.raceTime e.lead).time
    let entry := entryAt l.splits (j * (s.event.total / 4))
    let stored : Lane := { l with tracking := .released, takeoffs := j }
    e.active = false → (l.state = .swimming ∨ l.state = .finishing) → l.tracking = .loaded →
    s.event.kind = .relay → s.race.state = .running → s.race.startTick = some st →
    (s.event.start = .water
      ∨ (l.reactionTick ≠ none
        ∧ (s.race.pastLimit = true ∨ (interval e.lead s.tick ≤ interval st s.tick ∧ 30000 < interval st e.lead)))) →
    (3 ≤ l.takeoffs →
      ∃ t, exec (.edgeConfirmed (blockLine n) high) s = .next t
        ∧ EdgeTaken (blockLine n) high e [.lanes] s t ∧ OtherLanesKept n s t
        ∧ t.lane n = { l with tracking := .released })
    ∧ (l.takeoffs < 3 → entry = none →
      ∃ t, exec (.edgeConfirmed (blockLine n) high) s = .next t
        ∧ EdgeTaken (blockLine n) high e [.lanes] s t ∧ OtherLanesKept n s t
        ∧ t.lane n = stored.setExchange j { takeoff := some tau, margin := none, status := .pending })
    ∧ (∀ x time, l.takeoffs < 3 → entry = some x → x.kind = .timed → x.time = some time →
      ∃ t, exec (.edgeConfirmed (blockLine n) high) s = .next t
        ∧ EdgeTaken (blockLine n) high e [.lanes, .board, .lamps, .link] s t ∧ OtherLanesKept n s t
        ∧ t.lane n = stored.setExchange j (judgement s.event tau time)
        ∧ t.link = s.link.withExchange n j (judgement s.event tau time)
        ∧ t.lamps = { s.lamps with takeoffAlert := alertAfter n (judgement s.event tau time) s }
        ∧ RowsMarked (if (judgement s.event tau time).status = .early ∧ (∀ i, 1 ≤ i → i ≤ 3 → i ≠ j →
              (l.exchange i).status ≠ .early) then [n + 1] else []) [n + 1] s t ∧ HoldsKept s t)
    ∧ (∀ x, l.takeoffs < 3 → entry = some x → x.kind ≠ .timed →
      ∃ t, exec (.edgeConfirmed (blockLine n) high) s = .next t
        ∧ EdgeTaken (blockLine n) high e [.lanes] s t ∧ OtherLanesKept n s t
        ∧ t.lane n = stored.setExchange j { l.exchange j with takeoff := some tau })

/-- An ordinary touch at exchange length j·L, whatever its takeoff, appends its TIMED entry and hands SPLIT; the lane's rows
are marked, its split hold starts, and the FINAL_LENGTH input and the bell follow the new count, as at any other length (R63,
R68, R70, R129). A split hold of 0 starts and ends in one (log entry 26). Where the takeoff is stored the touch judges exchange
j: the margin is the takeoff minus the touch, held to ±30,000, and EARLY where it is less than minus the tolerance; EXCHANGE
and, where EARLY, EARLY_TAKEOFF are handed behind SPLIT and TAKEOFF_ALERT is triggered. Without a takeoff the exchange is
unchanged (R95, R101 to R103). -/
def Obligations.TouchJudgesTheExchange : Prop :=
  ∀ (s : State) (n j : Nat) (at0 : PoolEnd) (high : Bool) (e : PendingEdge), Touch n at0 high e s → WatchCurrent s →
    let l := s.lane n
    let ev := s.raceTime e.lead
    let entry := timedEntry (l.done + 1) .timed ev
    let appended : Lane := { l with
      splits := l.splits ++ [entry], done := l.done + 1, overrange := l.overrange || ev.overMark }
    let link := s.link.withNotice 0x44 (splitNotice n entry)
    s.event.kind = .relay → 0 < s.event.total / 4 → 1 ≤ j → j ≤ 3 → l.done + 1 = j * (s.event.total / 4) →
    l.state = .swimming → (at0 = .far → l.farTiming = .fitted) → at0 = endOf (l.done + 1) →
    l.done + 1 < s.event.total → lengthLimit s.event l 1 ≤ ev.time →
    ∃ t, exec (.edgeConfirmed (padLine n at0) high) s = .next t
      ∧ EdgeTaken (padLine n at0) high e [.lanes, .board, .lamps, .link] s t ∧ OtherLanesKept n s t
      ∧ ((l.exchange j).takeoff = none →
          t.lane n = appended ∧ t.link = link ∧ t.lamps.takeoffAlert = s.lamps.takeoffAlert)
      ∧ (∀ tau, (l.exchange j).takeoff = some tau →
          t.lane n = appended.setExchange j (judgement s.event tau ev.time)
          ∧ t.link = link.withExchange n j (judgement s.event tau ev.time)
          ∧ t.lamps.takeoffAlert = alertAfter n (judgement s.event tau ev.time) s)
      ∧ RowsMarked [n + 1, n + 12] [n + 1, n + 12] s t
      ∧ (s.board.holds.length = 10 → HoldSet n (holdStarted s) s t)
      ∧ t.lamps = { s.lamps with
          takeoffAlert := t.lamps.takeoffAlert
          finalLength := s.lamps.finalLength.modify n (LampTimer.setInput s.tick s.options.offDelay
            (decide (8 ≤ s.event.total ∧ l.done + 2 = s.event.total)))
          bell := if 8 ≤ s.event.total ∧ l.done + 3 = s.event.total then s.lamps.bell.pulse s.tick s.options.bellWidth
            else s.lamps.bell }

/-! ## The Board Link Controller -/

/-- While the race is RUNNING and its clock below the limit, row 0 is marked at each whole tenth, and at each whole second the
row of every SWIMMING lane whose split hold is not running (R130). A split hold that has run its length ends and marks the
lane's row (R129). At each slot expiry a new slot starts at that tick and the balance falls by 1; at −8 it stays and
BOARD_OVERDUE is handed (R135, R136). -/
def Obligations.ClockMarkingsHoldsAndSlots : Prop :=
  ((∀ s : State, s.race.state = .running → s.raceClock < 59999999 →
    (s.raceClock % 1000 = 0 →
      ∃ t, exec .headerTenths s = .next t ∧ RowsMarked [0] [0] s t ∧ HoldsKept s t ∧ ChangesOnly [.board] s t)
    ∧ (s.raceClock % 10000 = 0 →
      let rows := ((List.range 10).filter (fun n => decide ((s.lane n).state = .swimming ∧ s.hold n = none))).map (· + 1)
      ∃ t, exec .runningSeconds s = .next t ∧ RowsMarked rows rows s t ∧ HoldsKept s t ∧ ChangesOnly [.board] s t))
  ∧ (∀ (s : State) (n : Nat) (h : Timer), n < 10 → s.hold n = some h → h.width ≤ interval h.start s.tick →
      ∃ t, exec (.splitHoldExpiry n) s = .next t ∧ RowsMarked [n + 1] [n + 1] s t ∧ HoldSet n none s t
        ∧ ChangesOnly [.board] s t))
  ∧ (∀ (s : State) (st : Tick), s.board.slot = some st → s.board.slotPeriod ≤ interval st s.tick →
    (-8 < s.board.balance →
      ∃ t, exec .slotExpiry s = .next t
        ∧ t.board = { s.board with slot := some s.tick, balance := s.board.balance - 1 } ∧ ChangesOnly [.board] s t)
    ∧ (s.board.balance = -8 →
      ∃ t, exec .slotExpiry s = .next t ∧ t.board = { s.board with slot := some s.tick }
        ∧ t.link = s.link.withAlarm .boardOverdue none s.tick ∧ ChangesOnly [.board, .link] s t))

/-- With the link free, the row that starts is the round-robin row where the balance is −8 and some row is unmasked; else the
head of the queue; else the round-robin row where the balance is below +8 and some row is unmasked; else none (R137). Its
frame holds the content composed at this tick (R134, R139). -/
def Obligations.SchedulerStartsARow : Prop :=
  ∀ s : State, s.share.state = .owning → s.board.sending = none → s.share.yieldPending = false →
    s.share.releasePending = false → s.board.mask.length = 22 → s.board.pointer < 22 →
    let n := unmaskedRows s.board.mask
    (s.board.balance = -8 → 0 < n →
      ∃ t r, exec .rowStart s = .next t ∧ RoundRobin r s ∧ RowStarted r true s t ∧ ChangesOnly [.board] s t)
    ∧ (∀ r q, (s.board.balance ≠ -8 ∨ n = 0) → s.board.queue = r :: q →
      ∃ t, exec .rowStart s = .next t ∧ RowStarted r false s t ∧ ChangesOnly [.board] s t)
    ∧ (s.board.balance ≠ -8 → s.board.queue = [] → s.board.balance < 8 → 0 < n →
      ∃ t r, exec .rowStart s = .next t ∧ RoundRobin r s ∧ RowStarted r true s t ∧ ChangesOnly [.board] s t)
    ∧ (s.board.queue = [] → (8 ≤ s.board.balance ∨ n = 0) → exec .rowStart s = .next s)

/-- The passing of one byte, and of the next while the row has one: in FULL mode READY lets the byte be driven and BUSY after
STB ends it; in PARTIAL mode the selected transition after STB ends it; a settle time ends in STB, and in STROBE mode the
strobe width ends in its release and a second settle time ends the byte (R139 to R142). -/
def Obligations.BytesArePassed : Prop :=
  ∀ (s : State) (x : Sending) (d : Drive), s.board.sending = some x → s.board.drive = some d →
    (∀ high, x.phase = .waitReady → flagReady x.flagPolarity high = true → interval x.since s.tick ≤ x.byteTimeout →
      ∃ t, exec (.flagWaitMet high) s = .next t
        ∧ t.board = { s.board with
            sending := some { x with phase := .settle, since := s.tick }
            drive := some { d with data := x.bytes.headD 0 } }
        ∧ t.pins = { s.pins with flag := high } ∧ ChangesOnly [.board, .pins] s t)
    ∧ (∀ high, Accepted x high s → 2 ≤ x.bytes.length →
      ∃ t, exec (.flagWaitMet high) s = .next t ∧ NextByte x d s t
        ∧ t.pins = { s.pins with flag := high } ∧ ChangesOnly [.board, .pins] s t)
    ∧ (x.phase = .settle → x.settle ≤ interval x.since s.tick →
      ∃ t, exec .settleTimeExpiry s = .next t
        ∧ t.board = { s.board with
            sending := some { x with
              phase := if x.mode = .strobeMode then .strobe else .waitAccept, since := s.tick }
            drive := some { d with stb := true } }
        ∧ ChangesOnly [.board] s t)
    ∧ (x.phase = .strobe → x.strobeWidth ≤ interval x.since s.tick →
      ∃ t, exec .strobeWidthExpiry s = .next t
        ∧ t.board = { s.board with
            sending := some { x with phase := .settleAfter, since := s.tick }, drive := some { d with stb := false } }
        ∧ ChangesOnly [.board] s t)
    ∧ (x.phase = .settleAfter → x.settle ≤ interval x.since s.tick → 2 ≤ x.bytes.length →
      ∃ t, exec .settleTimeExpiry s = .next t ∧ NextByte x d s t ∧ ChangesOnly [.board] s t)

/-- A send is complete when the last byte of its frame ends: the row leaves the queue wherever it stands, a round-robin send
raises the balance, to no more than +8, and moves the pointer to the row after it, and a set changed-while-sending flag marks
the row again (R134, R138). A wait on FLAG that has lasted longer than the byte timeout abandons the row: STB is released,
BOARD_STALL is handed, and the queue, the balance and the pointer are unchanged (R143). -/
def Obligations.SendsEndCompleteOrStalled : Prop :=
  (∀ (s : State) (x : Sending) (d : Drive) (high : Bool), s.board.sending = some x → s.board.drive = some d →
    x.bytes.length = 1 → (Accepted x high s ∨ (x.phase = .settleAfter ∧ x.settle ≤ interval x.since s.tick)) →
    let q := s.board.queue.erase x.row
    ∃ t, exec (.rowComplete high) s = .next t
      ∧ t.board = { s.board with
          queue := if x.changed = true ∧ x.row ∉ q then q ++ [x.row] else q
          balance := if x.roundRobin then min 8 (s.board.balance + 1) else s.board.balance
          pointer := if x.roundRobin then (if x.row = 21 then 0 else (x.row + 1) % 22) else s.board.pointer
          sending := none, drive := some { d with stb := false } }
      ∧ t.pins = { s.pins with flag := high } ∧ ChangesOnly [.board, .pins] s t)
  ∧ (∀ (s : State) (x : Sending) (d : Drive), s.board.sending = some x → s.board.drive = some d →
    (x.phase = .waitReady ∨ x.phase = .waitAccept) → x.byteTimeout < interval x.since s.tick →
    ∃ t, exec .boardStall s = .next t
      ∧ t.board = { s.board with sending := none, drive := some { d with stb := false } }
      ∧ t.link = s.link.withAlarm .boardStall none s.tick ∧ ChangesOnly [.board, .link] s t)

/-- BOARD_TEXT with a text of any length is accepted in every state and answered OK: the first 32 characters are stored, each
byte outside 0x20 to 0x7E as a space, and row 11 is marked, whether or not the text differs. After an empty text the footer
shows 32 spaces (R132). -/
def Obligations.BoardTextStoresTheFooter : Prop :=
  ∀ (s : State) (f : Frame) (rest : List Frame), HeadRequest f rest s → f.kind = 0x22 →
    ∃ t u, exec .boardText s = .next t ∧ t.link = s.link.answered f rest .ok []
      ∧ u = { s with board := { s.board with
          footer := (f.payload.take 32).map (fun b => if b < 0x20 ∨ 0x7E < b then 0x20 else b) } }
      ∧ RowsMarked [11] [11] u t ∧ HoldsKept s t ∧ ChangesOnly [.board, .link] s t
      ∧ (f.payload = [] → t.board.footer = [] ∧ composeRow t 11 = List.replicate 32 0x20)

/-- ROW_MASK is accepted in every state and answered OK. Every row takes its setting; each row whose setting changed is
marked, in ascending order, whatever its mask; the slot timer of an OWNING unit stops when no row is unmasked and starts when
the first is. A payload of another length is answered BAD_LENGTH and changes nothing (R135, R145). -/
def Obligations.RowMaskSetsTheMasks : Prop :=
  ∀ (s : State) (f : Frame) (rest : List Frame), HeadRequest f rest s → f.kind = 0x23 →
    (f.payload.length = 3 →
      let new := (List.range 22).map (fun r => (numberOf f.payload).testBit r)
      let changed := (List.range 22).filter (fun r => decide (s.rowMasked r ≠ (numberOf f.payload).testBit r))
      let running := 0 < unmaskedRows s.board.mask
      ∃ t, exec .rowMask s = .next t ∧ t.link = s.link.answered f rest .ok [] ∧ ChangesOnly [.board, .link] s t
        ∧ t.board = { s.board with
            mask := new
            queue := s.board.queue ++ changed.filter (fun r => decide (r ∉ s.board.queue))
            sending := s.board.sending.map (fun x => { x with changed := x.changed || decide (x.row ∈ changed) })
            slot := t.board.slot, slotPeriod := t.board.slotPeriod }
        ∧ (s.share.state ≠ .owning → t.board.slot = s.board.slot)
        ∧ (s.share.state = .owning → unmaskedRows new = 0 → t.board.slot = none)
        ∧ (s.share.state = .owning → 0 < unmaskedRows new → running → t.board.slot = s.board.slot)
        ∧ (s.share.state = .owning → 0 < unmaskedRows new → ¬ running →
            t.board.slot = some s.tick ∧ t.board.slotPeriod = s.options.refresh / unmaskedRows new))
    ∧ (f.payload.length ≠ 3 →
      ∃ t, exec .rowMask s = .next t ∧ t.link = s.link.answered f rest .badLength [] ∧ ChangesOnly [.link] s t)

/-! ## The Board Share Unit -/

/-- A claim that unit A keeps, or during whose last sample unit B reads OWN_IN inactive, ends OWNING 10 ticks after its start:
the lines are driven with 0x00 and STB released, the balance is 0, the slot timer starts if a row is unmasked, the repaint
puts every unmasked row that is not queued yet, in ascending order, behind the rows queued before, and BOARD TAKEN is handed
(R133, R149, R152). -/
def Obligations.WonClaimGainsTheBoard : Prop :=
  ∀ (s : State) (c : Tick), s.share.claim = some c → 10 ≤ interval c s.tick →
    (s.share.unitA = true ∨ s.pins.share.own = false) →
    ∃ t, exec .claimWindowEnd s = .next t
      ∧ t.share = { s.share with state := .owning, claim := none, takeWait := none, reqRun := false, reqDue := false }
      ∧ QueueMarked (List.range 22) (List.range 22) s t
      ∧ t.board = { s.board with
          queue := s.board.queue ++ rowsToQueue s, sending := t.board.sending
          drive := some { data := 0, stb := false }, balance := 0
          slot := if 0 < unmaskedRows s.board.mask then some s.tick else none
          slotPeriod := if 0 < unmaskedRows s.board.mask then s.options.refresh / unmaskedRows s.board.mask
            else s.board.slotPeriod }
      ∧ t.link = s.link.withBoard .owning s.share.state s.share.unitA .taken
      ∧ ChangesOnly [.share, .board, .link] s t

/-- Unit B, claiming, reads OWN_IN active from the tick after the claim's start on and withdraws to PARTNER_OWNS (R149); a
FREE unit without a claim reads OWN_IN active and goes to PARTNER_OWNS; a PARTNER_OWNS unit reads OWN_IN and REQ_IN inactive
and goes to FREE, where it begins a claim if take-when-free is on (R150). Each hands its BOARD notice. In ASKING or FORCING
without a claim, a sample with OWN_IN inactive stops the take wait and begins a claim; the expiry of the take wait moves
ASKING with the force flag to FORCING with a new wait, and otherwise fails the take, to PARTNER_OWNS (R153). -/
def Obligations.PartnerLinesAndAsking : Prop :=
  (∀ (s : State) (v : ShareLevels),
    (∀ c, s.share.claim = some c → 1 ≤ interval c s.tick → s.share.unitA = false → v.own = true →
      ∃ t, exec (.claimWithdrawn v) s = .next t
        ∧ t.share = { s.share with
            state := .partnerOwns, claim := none, takeWait := none, reqRun := s.share.reqRun && v.req }
        ∧ t.link = s.link.withBoard .partnerOwns s.share.state false .withdrawn
        ∧ t.pins = { s.pins with share := v } ∧ ChangesOnly [.share, .pins, .link] s t)
    ∧ (s.share.state = .free → s.share.claim = none → v.own = true →
      ∃ t, exec (.partnerTook v) s = .next t
        ∧ t.share = { s.share with state := .partnerOwns, reqRun := s.share.reqRun && v.req }
        ∧ t.link = s.link.withBoard .partnerOwns .free s.share.unitA .partnerTook
        ∧ t.pins = { s.pins with share := v } ∧ ChangesOnly [.share, .pins, .link] s t)
    ∧ (s.share.state = .partnerOwns → v.own = false → v.req = false →
      ∃ t, exec (.boardFree v) s = .next t
        ∧ t.share = { s.share with
            state := .free, reqRun := false
            claim := if s.options.takeWhenFree then some s.tick else s.share.claim
            takeWait := if s.options.takeWhenFree then none else s.share.takeWait }
        ∧ t.link = s.link.withBoard .free .partnerOwns s.share.unitA .free
        ∧ t.pins = { s.pins with share := v } ∧ ChangesOnly [.share, .pins, .link] s t))
  ∧ (∀ s : State, (s.share.state = .asking ∨ s.share.state = .forcing) → s.share.claim = none →
    (∀ v, v.own = false →
      ∃ t, exec (.claimOnOwnInInactive v) s = .next t
        ∧ t.share = { s.share with claim := some s.tick, takeWait := none, reqRun := s.share.reqRun && v.req }
        ∧ t.pins = { s.pins with share := v } ∧ ChangesOnly [.share, .pins] s t)
    ∧ (∀ st, s.share.takeWait = some st → s.tested.takeWait ≤ interval st s.tick →
        (s.share.state = .asking → s.share.force = true →
          ∃ t, exec .takeWaitExpiry s = .next t
            ∧ t.share = { s.share with state := .forcing, takeWait := some s.tick }
            ∧ t.link = s.link.withBoard .forcing .asking s.share.unitA .forcing ∧ ChangesOnly [.share, .link] s t)
        ∧ (s.share.state = .forcing ∨ s.share.force = false →
          ∃ t, exec .takeWaitExpiry s = .next t
            ∧ t.share = { s.share with state := .partnerOwns, takeWait := none }
            ∧ t.link = s.link.withBoard .partnerOwns s.share.state s.share.unitA .takeFailed
            ∧ ChangesOnly [.share, .link] s t)))

/-- An OWNING unit that reads REQ_IN active yields: at once where no row is in transmission, and after the row otherwise,
unless a yield is pending already. With yield off it hands ASKED at the first sample of a run and at no further one, and the
sample of a tick is read once (log entries 18 and 19). FORCE_IN active takes the board at once, with the alarm BOARD_LOST
before the notice (R154). A pending stop of an OWNING unit takes effect when the link is free: a yield to PARTNER_OWNS; a
release to PARTNER_OWNS where OWN_IN reads active, and otherwise to FREE, without a claim (R144, R154, R155). Once the row that
the stop waits for has ended, neither REQ_IN nor FORCE_IN is read at that tick, so that the unit leaves by the stop without an
alarm (R158). -/
def Obligations.OwningUnitYieldsAndLeaves : Prop :=
  (∀ (s : State) (v : ShareLevels), s.share.state = .owning →
    let left : Share :=
      { s.share with
        state := .partnerOwns, yieldPending := false, releasePending := false, reqRun := false, reqDue := false }
    (v.req = true → ¬ StopIsDue s → s.options.yieldOnRequest = true → s.share.yieldPending = false → s.board.sending = none →
      ∃ t, exec (.reqInActive v) s = .next t ∧ t.share = left
        ∧ t.board = s.board.released ∧ t.link = s.link.withBoard .partnerOwns .owning s.share.unitA .yielded
        ∧ t.pins = { s.pins with share := v } ∧ ChangesOnly [.share, .pins, .board, .link] s t)
    ∧ (v.req = true → s.options.yieldOnRequest = true → s.board.sending ≠ none →
      ∃ t, exec (.reqInActive v) s = .next t
        ∧ t.share = { s.share with yieldPending := true, reqRun := true, reqDue := false }
        ∧ t.pins = { s.pins with share := v } ∧ ChangesOnly [.share, .pins] s t)
    ∧ (v.req = true → ¬ StopIsDue s → s.options.yieldOnRequest = false → s.share.reqRun = false →
      ∃ t, exec (.reqInActive v) s = .next t ∧ t.share = { s.share with reqRun := true, reqDue := false }
        ∧ t.link = s.link.withBoard .owning .owning s.share.unitA .asked
        ∧ t.pins = { s.pins with share := v } ∧ ChangesOnly [.share, .pins, .link] s t)
    ∧ (v.req = true → ¬ StopIsDue s → s.options.yieldOnRequest = false → s.share.reqRun = true →
      ∃ t, exec (.reqInActive v) s = .next t ∧ t.share = { s.share with reqDue := false }
        ∧ t.pins = { s.pins with share := v } ∧ ChangesOnly [.share, .pins] s t)
    ∧ (v.force = true → ¬ StopIsDue s →
      ∃ t, exec (.boardLost v) s = .next t ∧ t.share = left ∧ t.board = s.board.released
        ∧ t.link = (s.link.withAlarm .boardLost none s.tick).withBoard .partnerOwns .owning s.share.unitA .lost
        ∧ t.pins = { s.pins with share := v } ∧ ChangesOnly [.share, .pins, .board, .link] s t)
    ∧ (∀ c, c = .reqInActive v ∨ c = .boardLost v → StopIsDue s →
      ∃ t, exec c s = .next t ∧ t.share = { s.share with reqRun := s.share.reqRun && v.req }
        ∧ t.pins = { s.pins with share := v } ∧ ChangesOnly [.share, .pins] s t))
  ∧ (∀ s : State, s.share.state = .owning → s.board.sending = none →
    let left (o : Ownership) : Share :=
      { s.share with state := o, yieldPending := false, releasePending := false, reqRun := false, reqDue := false }
    (s.share.yieldPending = true →
      ∃ t, exec .stopAfterRow s = .next t ∧ t.share = left .partnerOwns ∧ t.board = s.board.released
        ∧ t.link = s.link.withBoard .partnerOwns .owning s.share.unitA .yielded
        ∧ ChangesOnly [.share, .board, .link] s t)
    ∧ (s.share.yieldPending = false → s.share.releasePending = true →
      let dest : Ownership := if s.pins.share.own then .partnerOwns else .free
      ∃ t, exec .stopAfterRow s = .next t ∧ t.share = left dest ∧ t.board = s.board.released
        ∧ t.link = s.link.withBoard dest .owning s.share.unitA .released ∧ ChangesOnly [.share, .board, .link] s t))

/-- BOARD_TAKE is accepted in every race state and answered by the ownership state, which every reply carries: a payload of
another length BAD_LENGTH, a flag over 1 OUT_OF_RANGE; in FREE without a claim a claim begins; with a claim in progress, in
ASKING and in FORCING it is BUSY; in PARTNER_OWNS the force flag is stored, the take wait starts and the unit goes to ASKING
with its BOARD notice; in OWNING nothing happens and a pending stop stands (R151). -/
def Obligations.BoardTakeByOwnershipState : Prop :=
  ∀ (s : State) (f : Frame) (rest : List Frame), HeadRequest f rest s → f.kind = 0x20 →
    let own : Byte := ownershipCode s.share.state
    (f.payload.length ≠ 1 →
      ∃ t, exec .boardTake s = .next t ∧ t.link = s.link.answered f rest .badLength [own] ∧ ChangesOnly [.link] s t)
    ∧ (∀ flag : Byte, f.payload = [flag] →
        (1 < flag.toNat →
          ∃ t, exec .boardTake s = .next t ∧ t.link = s.link.answered f rest .outOfRange [own] ∧ ChangesOnly [.link] s t)
        ∧ (flag.toNat ≤ 1 → s.share.state = .free → s.share.claim = none →
          ∃ t, exec .boardTake s = .next t ∧ t.share = { s.share with claim := some s.tick, takeWait := none }
            ∧ t.link = s.link.answered f rest .ok [0] ∧ ChangesOnly [.share, .link] s t)
        ∧ (flag.toNat ≤ 1 →
            (s.share.state = .asking ∨ s.share.state = .forcing ∨ (s.share.state = .free ∧ s.share.claim ≠ none)) →
          ∃ t, exec .boardTake s = .next t ∧ t.link = s.link.answered f rest .busy [own] ∧ ChangesOnly [.link] s t)
        ∧ (flag.toNat ≤ 1 → s.share.state = .partnerOwns →
          ∃ t, exec .boardTake s = .next t
            ∧ t.share = { s.share with state := .asking, force := decide (flag = 1), takeWait := some s.tick }
            ∧ t.link = ((s.link.taken rest).withBoard .asking .partnerOwns s.share.unitA .asking).replied f .ok [3]
            ∧ ChangesOnly [.share, .link] s t)
        ∧ (flag.toNat ≤ 1 → s.share.state = .owning →
          ∃ t, exec .boardTake s = .next t ∧ t.link = s.link.answered f rest .ok [1] ∧ ChangesOnly [.link] s t))

/-- BOARD_RELEASE is accepted in every state and answered OK with the ownership state it leaves: an OWNING unit without a
pending stop leaves at once, or after the row in transmission; a claim in FREE ends without a notice; an ask ends to
PARTNER_OWNS or FREE by OWN_IN; otherwise nothing changes. No claim is begun. A payload of another length is answered
BAD_LENGTH (R155). -/
def Obligations.BoardReleaseByOwnershipState : Prop :=
  ∀ (s : State) (f : Frame) (rest : List Frame), HeadRequest f rest s → f.kind = 0x21 →
    let dest : Ownership := if s.pins.share.own then .partnerOwns else .free
    (f.payload ≠ [] →
      ∃ t, exec .boardRelease s = .next t ∧ t.link = s.link.answered f rest .badLength [] ∧ ChangesOnly [.link] s t)
    ∧ (f.payload = [] →
        (s.share.state = .owning → s.share.yieldPending = false → s.share.releasePending = false → s.board.sending = none →
          ∃ t, exec .boardRelease s = .next t
            ∧ t.share = { s.share with
                state := dest, yieldPending := false, releasePending := false, reqRun := false, reqDue := false }
            ∧ t.board = s.board.released
            ∧ t.link = ((s.link.taken rest).withBoard dest .owning s.share.unitA .released).replied f .ok [ownershipCode dest]
            ∧ ChangesOnly [.share, .board, .link] s t)
        ∧ (s.share.state = .owning → s.share.yieldPending = false → s.share.releasePending = false → s.board.sending ≠ none →
          ∃ t, exec .boardRelease s = .next t ∧ t.share = { s.share with releasePending := true }
            ∧ t.link = s.link.answered f rest .ok [1] ∧ ChangesOnly [.share, .link] s t)
        ∧ ((s.share.state = .owning ∧ (s.share.yieldPending = true ∨ s.share.releasePending = true))
              ∨ (s.share.state = .free ∧ s.share.claim = none) ∨ s.share.state = .partnerOwns →
          ∃ t, exec .boardRelease s = .next t
            ∧ t.link = s.link.answered f rest .ok [ownershipCode s.share.state] ∧ ChangesOnly [.link] s t)
        ∧ (s.share.state = .free → s.share.claim ≠ none →
          ∃ t, exec .boardRelease s = .next t ∧ t.share = { s.share with claim := none }
            ∧ t.link = s.link.answered f rest .ok [0] ∧ ChangesOnly [.share, .link] s t)
        ∧ (s.share.state = .asking ∨ s.share.state = .forcing →
          ∃ t, exec .boardRelease s = .next t
            ∧ t.share = { s.share with state := dest, claim := none, takeWait := none }
            ∧ t.link = ((s.link.taken rest).withBoard dest s.share.state s.share.unitA .released).replied f .ok
                [ownershipCode dest]
            ∧ ChangesOnly [.share, .link] s t))

/-! ## The Lamp Unit -/

/-- A PULSE function (START_FLASH, BELL) that is stopped starts at its trigger with the current width; a trigger while it runs
is ignored; its expiry stops it. At one tick, the expiry before the trigger starts a new pulse, and the trigger before the
expiry is ignored and the pulse ends (R161). -/
def Obligations.PulseFunctions : Prop :=
  (∀ (s : State) (n : Nat) (x : LampTimer), s.lamps.startFlash[n]? = some x → n < 10 →
      (x.run = none → triggerFlash n s = { s with lamps := { s.lamps with
        startFlash := s.lamps.startFlash.set n { x with run := some { start := s.tick, width := s.options.flashWidth } } } })
      ∧ (x.run ≠ none → triggerFlash n s = s)
      ∧ (∀ r, x.run = some r → r.width ≤ interval r.start s.tick →
          exec (.pulseExpiry (.startFlash n)) s = .next { s with lamps := { s.lamps with
            startFlash := s.lamps.startFlash.set n { x with run := none } } }
          ∧ exec (.pulseExpiry (.startFlash n)) (triggerFlash n s) = exec (.pulseExpiry (.startFlash n)) s
          ∧ ∀ t, exec (.pulseExpiry (.startFlash n)) s = .next t →
              (triggerFlash n t).lamps.startFlash[n]?
                = some { x with run := some { start := s.tick, width := s.options.flashWidth } }))
  ∧ (∀ s : State,
      (s.lamps.bell.run = none → triggerBell s = { s with lamps := { s.lamps with
        bell := { s.lamps.bell with run := some { start := s.tick, width := s.options.bellWidth } } } })
      ∧ (s.lamps.bell.run ≠ none → triggerBell s = s)
      ∧ (∀ r, s.lamps.bell.run = some r → r.width ≤ interval r.start s.tick →
          exec (.pulseExpiry .bell) s
            = .next { s with lamps := { s.lamps with bell := { s.lamps.bell with run := none } } }
          ∧ exec (.pulseExpiry .bell) (triggerBell s) = exec (.pulseExpiry .bell) s
          ∧ ∀ t, exec (.pulseExpiry .bell) s = .next t →
              (triggerBell t).lamps.bell
                = { s.lamps.bell with run := some { start := s.tick, width := s.options.bellWidth } }))

/-- An EXTENDED function (TAKEOFF_ALERT, RECORD) starts at its trigger, or starts again, with the current width, and its expiry
stops it (R162). A FINAL_LENGTH function is HELD while its input is on, begins its off-delay when the input is set off, cancels
it when the input is set on, and goes to IDLE at its expiry; an input set to the value it has changes nothing (R163). The
outputs: a function is on while its timer runs or its input is on, a lane lamp is high while one of its lane's three functions
is on, and BELL and RECORD are high while their function is (R159). OWN_OUT is asserted while the unit owns the board or claims
it, REQ_OUT while it asks or forces without a claim, FORCE_OUT while it forces without a claim (R148, R149, R153). -/
def Obligations.ExtendedAndOffDelayFunctions : Prop :=
  (∀ (s : State) (n : Nat) (x : LampTimer), s.lamps.takeoffAlert[n]? = some x → n < 10 →
      triggerAlert n s = { s with lamps := { s.lamps with
        takeoffAlert :=
          s.lamps.takeoffAlert.set n { x with run := some { start := s.tick, width := s.options.alertWidth } } } }
      ∧ (∀ r, x.run = some r → r.width ≤ interval r.start s.tick →
          exec (.extendedExpiry (.takeoffAlert n)) s = .next { s with lamps := { s.lamps with
            takeoffAlert := s.lamps.takeoffAlert.set n { x with run := none } } }))
  ∧ (∀ s : State,
      triggerRecord s = { s with lamps := { s.lamps with
        record := { s.lamps.record with run := some { start := s.tick, width := s.options.recordWidth } } } }
      ∧ (∀ r, s.lamps.record.run = some r → r.width ≤ interval r.start s.tick →
          exec (.extendedExpiry .record) s
            = .next { s with lamps := { s.lamps with record := { s.lamps.record with run := none } } }))
  ∧ (∀ (s : State) (n : Nat) (x : LampTimer), s.lamps.finalLength[n]? = some x → n < 10 →
      (∀ on, x.input = on → setFinalInput n on s = s)
      ∧ (x.input = false → setFinalInput n true s = { s with lamps := { s.lamps with
          finalLength := s.lamps.finalLength.set n { x with input := true, run := none } } })
      ∧ (x.input = true → setFinalInput n false s = { s with lamps := { s.lamps with
          finalLength := s.lamps.finalLength.set n
            { x with input := false, run := some { start := s.tick, width := s.options.offDelay } } } })
      ∧ (∀ r, x.run = some r → r.width ≤ interval r.start s.tick →
          exec (.offDelayExpiry n) s = .next { s with lamps := { s.lamps with
            finalLength := s.lamps.finalLength.set n { x with run := none } } }))
  ∧ (∀ s : State,
      let on (x : LampTimer) : Prop := x.run ≠ none ∨ x.input = true
      (∀ n x y z, s.lamps.startFlash[n]? = some x → s.lamps.takeoffAlert[n]? = some y → s.lamps.finalLength[n]? = some z →
        (s.lampOut n = true ↔ on x ∨ on y ∨ on z))
      ∧ (s.bellOut = true ↔ on s.lamps.bell) ∧ (s.recordOut = true ↔ on s.lamps.record)
      ∧ (s.ownOut = true ↔ s.share.state = .owning ∨ s.share.claim ≠ none)
      ∧ (s.reqOut = true ↔ (s.share.state = .asking ∨ s.share.state = .forcing) ∧ s.share.claim = none)
      ∧ (s.forceOut = true ↔ s.share.state = .forcing ∧ s.share.claim = none))

/-! ## Requests in general -/

/-- A request that the CLC takes and does not carry out changes nothing and is answered by the first check that fails: a kind
the request table lacks UNKNOWN_KIND; a payload of a length its kind does not allow BAD_LENGTH, which BOARD_TAKE answers with
the ownership state; a request that the race state does not allow WRONG_STATE. While the buffer is empty, the reply slot is
occupied, a request has been taken at this tick or a reset is due, no request is taken, and a request of another kind is not
taken by the command (R24, R27, R168, R178). The model's choices: such commands change nothing (log entry 3), the fields of the
BAD_LENGTH reply to BOARD_TAKE (log entry 12), that no request is taken while a reset is due (log entry 14), and that a frame of
ADJUST_LENGTH or DECLARE of a length that spells no row is taken by any of the rows of its kind (log entry 4). -/
def Obligations.RequestsAreRefusedInOrder : Prop :=
  (∀ (s : State) (f : Frame) (rest : List Frame), HeadRequest f rest s → (∀ x ∈ requests, f.kind ≠ x.2.1) →
    exec .unknownKind s = .next { s with link := { s.link.taken rest with
      reply := some
        { kind := if f.kind < 0x80 then f.kind + 0x80 else f.kind, tag := f.tag, payload := [0x0C] } } })
  ∧ (∀ x ∈ requests, ∀ (s : State) (f : Frame) (rest : List Frame), HeadRequest f rest s → f.kind = x.2.1 →
      (x.2.2.1 f.payload.length = false →
        AnswersOnly x.1 f rest .badLength (if x.1 = .boardTake then [ownershipCode s.share.state] else []) s)
      ∧ (x.2.2.1 f.payload.length = true → (∀ b, x.2.2.2 = some b → byteAt f.payload 1 = b) → ¬ takenIn x.1 s.race.state →
        AnswersOnly x.1 f rest .wrongState [] s))
  ∧ (∀ (c : Instr) (s : State), (c = .unknownKind ∨ ∃ x ∈ requests, c = x.1) →
      (s.link.buffer = [] ∨ s.link.reply ≠ none ∨ s.link.requestTaken = true ∨ s.link.resetDue = true) → exec c s = .next s)
  ∧ (∀ x ∈ requests, ∀ (s : State) (f : Frame) (rest : List Frame), s.link.buffer = f :: rest → f.kind ≠ x.2.1 →
      exec x.1 s = .next s)

/-- Every command that names only lines and lanes the part has is carried out, and every POWER_ON is; a command that names a
line or a lane the part does not have stops (R4; log entry 9). -/
def Obligations.EveryCommandOnThePartCompletes : Prop :=
  ∀ (c : Instr) (s : State),
    ((c.wellFormed = true ∨ ∃ p, c = .powerOn p) → ∃ t, exec c s = .next t)
    ∧ (c.wellFormed = false → (∀ p, c ≠ .powerOn p) →
        (∃ n, 61 ≤ n ∧ exec c s = .fault (.noSuchLine n)) ∨ (∃ n, 10 ≤ n ∧ exec c s = .fault (.noSuchLane n)))

/-- The race state changes only as section 2.3 lists it, and a lane's state only as section 2.4 does: by the commands and from
the states named there. The start tick is set only with the change from ARMED to RUNNING (R44) and goes only with a RECALL,
LOAD_EVENT, CLEAR_RACE, RESET or power-on. -/
def Obligations.StatesChangeAsTheTablesSay : Prop :=
  ∀ (c : Instr) (s t : State), exec c s = .next t →
    (t.race.state ≠ s.race.state → raceMove c s.race.state t.race.state)
    ∧ (∀ n, (t.lane n).state ≠ (s.lane n).state → laneMove c s.race.state (s.lane n) (t.lane n).state)
    ∧ (t.race.startTick ≠ s.race.startTick →
        (s.race.state = .armed ∧ t.race.state = .running)
        ∨ (t.race.startTick = none
          ∧ (c = .recallRace ∨ c = .loadEvent ∨ c = .clearRace ∨ c = .resetTakesEffect ∨ ∃ p, c = .powerOn p)))

/-! ## Events, lanes and record slots -/

/-- LOAD_EVENT with a field that refuses its descriptor is answered BAD_EVENT with the number of the first such field in number
order, and changes nothing.
Otherwise the descriptor is stored with its fields in range, the rest of the race record, every lane, the lamps and the split
holds are cleared, every row is marked, the race is LOADED with a RACE_STATE notice unless it was so, and the reply carries
the descriptor as stored, CLAMPED where a timing field was changed (R28 to R30). CLEAR_RACE clears the same in every state,
leaves the race IDLE without an event, and answers a pending watch in any case (R34). -/
def Obligations.LoadAndClearEmptyTheField : Prop :=
  (∀ (s : State) (f : Frame) (rest : List Frame), HeadRequest f rest s → f.kind = 0x08 → 26 ≤ f.payload.length →
    takenIn .loadEvent s.race.state →
    (∀ n, FirstRefused (eventFieldRefused f.payload) n → AnswersOnly .loadEvent f rest .badEvent [byte n] s)
    ∧ ((∀ n, ¬ eventFieldRefused f.payload n) →
      let e := eventOf f.payload
      let l1 := if s.race.state = .loaded then s.link.taken rest
        else (s.link.taken rest).withRaceState .loaded s.race.state (some e)
      ∃ t, exec .loadEvent s = .next t ∧ e.inRange
        ∧ t.race = { Race.cleared with state := .loaded, event := some e }
        ∧ t.lanes = s.lanes.map (fun _ => Lane.blank) ∧ FieldCleared s t
        ∧ t.link = (l1.seen t.vector).replied f (if eventFixedBytes e = f.payload.take 26 then .ok else .clamped) (eventBytes e)
        ∧ ChangesOnly [.race, .lanes, .board, .lamps, .link] s t))
  ∧ (∀ (s : State) (f : Frame) (rest : List Frame), HeadRequest f rest s → f.kind = 0x0B → f.payload = [] →
      let l1 := if s.race.state = .idle then s.link.taken rest else (s.link.taken rest).withRaceState .idle s.race.state none
      ∃ t, exec .clearRace s = .next t ∧ t.race = Race.cleared
        ∧ t.lanes = s.lanes.map (fun _ => Lane.blank) ∧ FieldCleared s t
        ∧ (s.link.watch = none → t.link = l1.replied f .ok [])
        ∧ (∀ w, s.link.watch = some w →
            t.link = ({ l1 with
              watch := none
              watchAnswer := some { kind := 0x98, tag := w.tag, payload := 0 :: t.vector } } : Link).replied f .ok [])
        ∧ ChangesOnly [.race, .lanes, .board, .lamps, .link] s t)

/-- SET_LANE in LOADED moves a VACANT or READY lane to READY or VACANT by its use setting and stores its text, the first 16
characters, a byte outside 0x20 to 0x7E as a space; its row is marked, and its lap counter row where its state changes. A lane
over 9 is answered BAD_LANE, a setting over 1 OUT_OF_RANGE, another lane state WRONG_STATE, in this order (R31, R32).
SET_RECORD in LOADED stores its slot, and answers OUT_OF_RANGE where a field is out of range (R33). -/
def Obligations.SetLaneAndSetRecordStore : Prop :=
  (∀ (s : State) (f : Frame) (rest : List Frame), HeadRequest f rest s → f.kind = 0x09 → 2 ≤ f.payload.length →
    s.race.state = .loaded →
    let n := (byteAt f.payload 0).toNat
    let use := (byteAt f.payload 1).toNat
    let new : LaneState := if use = 1 then .ready else .vacant
    (10 ≤ n → AnswersOnly .setLane f rest .badLane [] s)
    ∧ (n < 10 → 1 < use → AnswersOnly .setLane f rest .outOfRange [] s)
    ∧ (n < 10 → use ≤ 1 → (s.lane n).state ≠ .vacant → (s.lane n).state ≠ .ready →
        AnswersOnly .setLane f rest .wrongState [] s)
    ∧ (n < 10 → use ≤ 1 → s.lanes.length = 10 → ((s.lane n).state = .vacant ∨ (s.lane n).state = .ready) →
      let rows := if (s.lane n).state = new then [n + 1] else [n + 1, n + 12]
      ∃ t, exec .setLane s = .next t
        ∧ t.lane n = { s.lane n with
            state := new
            text := ((f.payload.drop 2).take 16).map (fun b => if b < 0x20 ∨ 0x7E < b then 0x20 else b) }
        ∧ OtherLanesKept n s t ∧ RowsMarked rows rows s t ∧ HoldsKept s t
        ∧ t.link = ((s.link.taken rest).seen t.vector).replied f .ok [] ∧ ChangesOnly [.lanes, .board, .link] s t))
  ∧ (∀ (s : State) (f : Frame) (rest : List Frame), HeadRequest f rest s → f.kind = 0x0A → f.payload.length = 8 →
      s.race.state = .loaded →
      let i := (byteAt f.payload 0).toNat
      let enabled := (byteAt f.payload 1).toNat
      let label := byteAt f.payload 2
      let reference := field f.payload 3 4
      let relation := (byteAt f.payload 7).toNat
      ((3 < i ∨ 1 < enabled ∨ 599999 < reference ∨ 1 < relation) → AnswersOnly .setRecord f rest .outOfRange [] s)
      ∧ (i ≤ 3 → enabled ≤ 1 → reference ≤ 599999 → relation ≤ 1 →
        let slot : RecordSlot :=
          { enabled := decide (enabled = 1), label := if label < 0x20 ∨ 0x7E < label then 0x20 else label
            reference := reference, relation := if relation = 0 then .better else .matchOrBetter }
        exec .setRecord s = .next { s with
          race := { s.race with slots := s.race.slots.set i slot }, link := s.link.answered f rest .ok [] }))

/-! ## ARM, RECALL, STOP, CLOSE -/

/-- ARM in LOADED with no READY lane is answered NO_LANES. With one, every READY lane goes to SET with its state at ARM, its
far timing, its block tracking and BLOCK_EMPTY_AT_ARM fixed from the event, the pad masks and the block lines, a DNS lane
keeps its state with DNS as its state at ARM, every split list is emptied, and the race is ARMED; the reply lists the lanes
with BLOCK_EMPTY_AT_ARM (R38 to R40). RECALL in ARMED returns the race to LOADED, every SET lane to READY, and every lane in
use to blank but for its state and text (R50). RECALL in RUNNING is answered TOO_LATE once the race clock exceeds the recall
window (R51). Up to then it clears the start tick, the clock-limit mark, the lag sample list and the ranking, returns every
lane in use to its state at ARM with its text and everything else blank, stops the lamps and the split holds, marks every row,
and hands RACE_STATE and, where a lane had a place, PLACES (R52). -/
def Obligations.ArmAndRecall : Prop :=
  ((∀ (s : State) (f : Frame) (rest : List Frame), HeadRequest f rest s → f.kind = 0x10 → f.payload = [] →
    s.race.state = .loaded → s.lanes.length = 10 →
    let rows := 0 :: ((List.range 10).filter (fun n => decide ((s.lane n).state = .ready))).flatMap (fun n => [n + 1, n + 12])
    ((∀ l ∈ s.lanes, l.state ≠ .ready) → AnswersOnly .arm f rest .noLanes [] s)
    ∧ ((∃ l ∈ s.lanes, l.state = .ready) →
      ∃ t, exec .arm s = .next t ∧ t.race = { s.race with state := .armed, pastLimit := false }
        ∧ (∀ n < 10,
            let l := s.lane n
            let emptied : Lane := { l with splits := [], done := 0, misses := 0, countDoubt := false }
            let loaded := (s.line (6 * n + 5)).active
            (l.state = .ready → t.lane n = { emptied with
              state := .set, stateAtArm := some .ready
              farTiming := if s.event.farFitted = false ∨ (s.line (6 * n)).masked = true then .untimed else .fitted
              tracking := if loaded then .loaded else .empty, takeoffs := 0, reactionTick := none
              blockEmptyAtArm := decide (loaded = false ∧ s.event.start = .dive) })
            ∧ (l.state = .dns → t.lane n = { emptied with stateAtArm := some .dns })
            ∧ (l.state ≠ .ready → l.state ≠ .dns → t.lane n = emptied))
        ∧ RowsMarked rows rows s t ∧ HoldsKept s t
        ∧ t.link = (((s.link.taken rest).withRaceState .armed .loaded s.race.event).seen t.vector).replied f .ok
            (laneSet (fun n => (t.lane n).blockEmptyAtArm))
        ∧ ChangesOnly [.race, .lanes, .board, .link] s t))
  ∧ (∀ (s : State) (f : Frame) (rest : List Frame), HeadRequest f rest s → f.kind = 0x11 → f.payload = [] →
      s.race.state = .armed → s.lanes.length = 10 → (∀ l ∈ s.lanes, l.state ≠ .swimming) →
      let rows := 0 :: ((List.range 10).filter (fun n => decide ((s.lane n).state = .set))).flatMap (fun n => [n + 1, n + 12])
      ∃ t, exec .recallRace s = .next t ∧ t.race = { s.race with state := .loaded, pastLimit := false }
        ∧ (∀ n, (s.lane n).state = .vacant → t.lane n = s.lane n)
        ∧ (∀ n, (s.lane n).state ≠ .vacant →
            t.lane n = { Lane.blank with
              state := if (s.lane n).state = .set then .ready else (s.lane n).state, text := (s.lane n).text })
        ∧ RowsMarked rows rows s t ∧ HoldsKept s t
        ∧ t.link = (((s.link.taken rest).withRaceState .loaded .armed s.race.event).seen t.vector).replied f .ok []
        ∧ ChangesOnly [.race, .lanes, .board, .link] s t))
  ∧ (∀ (s : State) (f : Frame) (rest : List Frame), HeadRequest f rest s → f.kind = 0x11 → f.payload = [] →
    s.race.state = .running →
    (s.event.recallWindow < s.raceClock → AnswersOnly .recallRace f rest .tooLate [] s)
    ∧ (s.raceClock ≤ s.event.recallWindow →
      let l1 := (s.link.taken rest).withRaceState .loaded .running s.race.event
      ∃ t, exec .recallRace s = .next t
        ∧ t.race = { s.race with
            state := .loaded, startTick := none, limitMark := false, pastLimit := false, lags := [], ranking := [] }
        ∧ (∀ n, (s.lane n).state = .vacant → t.lane n = s.lane n)
        ∧ (∀ n st, (s.lane n).state ≠ .vacant → (s.lane n).stateAtArm = some st →
            t.lane n = { Lane.blank with state := st, text := (s.lane n).text })
        ∧ FieldCleared s t
        ∧ ((∀ l ∈ s.lanes, l.place = none) → t.link = (l1.seen t.vector).replied f .ok [])
        ∧ ((∃ l ∈ s.lanes, l.place ≠ none) →
            t.link = ((l1.withNotice 0x4A ((List.range 10).map (fun n => laneByte (t.lane n).place))).seen t.vector).replied
              f .ok [])
        ∧ ChangesOnly [.race, .lanes, .board, .lamps, .link] s t))

/-- STOP in RUNNING resolves every FINISHING lane in ascending order, each with the lag samples that stand then, moves every
SWIMMING lane to DNF, stops the lane lamps and ends the race; the reply lists both sets of lanes (R84, R87, R119). Each
resolution hands SPLIT and LANE_RESOLVED, then PLACES where it changes a place, with every lane's place among the lanes as they
stand behind it, and RECORD where it changes the lane's record set; where the places stood right, PLACES comes for the lanes
without a DQ mark and no other (R89, R90, R108 to R110). A changed record set that is not empty triggers the RECORD function.
Behind them RACE_STATE is handed (R25). CLOSE in UNOFFICIAL with a lane in REVIEW is answered REVIEW_OPEN with the set of such
lanes and changes nothing; without one the race is OFFICIAL, row 0 is marked and RACE_STATE handed, and no lane record changes
(R121). -/
def Obligations.StopAndClose : Prop :=
  (∀ (s : State) (f : Frame) (rest : List Frame), HeadRequest f rest s → f.kind = 0x12 → f.payload = [] →
    s.race.state = .running → s.lanes.length = 10 →
    (∀ l ∈ s.lanes, l.state = .finishing →
      (l.pad ≠ none ∨ l.presses ≠ []) ∧ l.done + 1 = s.event.total ∧ ∀ x ∈ l.splits, x.kind ≠ .final) →
    let finishing := (List.range 10).filter (fun n => decide ((s.lane n).state = .finishing))
    let swimming := (List.range 10).filter (fun n => decide ((s.lane n).state = .swimming))
    ∃ (t : State) (new : List LagSample) (decided : Nat → Decision),
      let resolvedUpTo (n : Nat) : List Lane :=
        (List.range 10).map (fun m => if m ∈ finishing ∧ m < n then t.lane m else s.lane m)
      let placesUpTo (n : Nat) : List (Option Nat) :=
        if finishing.all (fun m => decide (n ≤ m)) then s.places
        else (resolvedUpTo n).map (placeAmong (resolvedUpTo n))
      let places (n : Nat) : List (Byte × List Byte) := placesNotice (placesUpTo n) (placesUpTo (n + 1))
      exec .stopRace s = .next t
      ∧ t.race = { s.race with
          state := .unofficial, pastLimit := false, lags := s.race.lags ++ new, ranking := t.race.ranking }
      ∧ (new.map (·.lane)).Pairwise (· < ·) ∧ (∀ x ∈ new, x.lane ∈ finishing)
      ∧ (∀ n ∈ finishing,
          let l := s.lane n
          (t.lane n).consensus = consensusOf (l.presses.map (·.time))
          ∧ (t.lane n).lagUsed = lagEstimate s.event (s.race.lags ++ new.filter (fun x => decide (x.lane < n)))
          ∧ (t.lane n).candidate = (t.lane n).consensus.map (fun c =>
              (max ((c : Int) - ((t.lane n).lagUsed : Int)) (lengthLimit s.event l 1 : Int)).toNat)
          ∧ DecidedBy s.event.disagreement l (t.lane n).consensus (t.lane n).candidate (decided n)
          ∧ new.filter (fun x => decide (x.lane = n)) = (decided n).sample.toList.map (fun x => { lane := n, delta := x })
          ∧ t.lane n = { l with
              state := (decided n).state, source := (decided n).source, reason := (decided n).reason, window := none
              done := l.done + 1
              splits := l.splits
                ++ [timedEntry (l.done + 1) .final { time := (decided n).result, overMark := (decided n).overMark }]
              consensus := (t.lane n).consensus, lagUsed := (t.lane n).lagUsed, candidate := (t.lane n).candidate
              place := (t.lane n).place, records := (t.lane n).records }
          ∧ (∀ i, i ∈ (t.lane n).records ↔ i < 4 ∧ slotsMet s.race.slots (t.lane n) i)
          ∧ (PlacesRight s → (places n = [] ↔ l.dq = true)))
      ∧ (∀ n ∈ swimming, t.lane n = { s.lane n with state := .dnf, place := (t.lane n).place } ∧ t.hold n = none)
      ∧ (∀ n, n ∉ finishing → n ∉ swimming → t.lane n = { s.lane n with place := (t.lane n).place })
      ∧ (∀ n, n ∉ swimming → t.hold n = s.hold n)
      ∧ (finishing ≠ [] → PlacesRight t ∧ RankingRight t)
      ∧ (finishing = [] → t.race.ranking = s.race.ranking ∧ ∀ n, (t.lane n).place = (s.lane n).place)
      ∧ t.lamps = { s.lamps with
          startFlash := s.lamps.startFlash.map (fun x => { x with input := false, run := none })
          takeoffAlert := s.lamps.takeoffAlert.map (fun x => { x with input := false, run := none })
          finalLength := s.lamps.finalLength.map (fun x => { x with input := false, run := none })
          record := if ∃ n ∈ finishing, (t.lane n).records ≠ (s.lane n).records ∧ (t.lane n).records ≠ [] then
              { s.lamps.record with run := some { start := s.tick, width := s.options.recordWidth } }
            else s.lamps.record }
      ∧ RowsMarked (0 :: (finishing ++ swimming).flatMap (fun n => [n + 1, n + 12]) ++ placeRows s t)
          (List.range 11 ++ (finishing ++ swimming).map (· + 12)) s t
      ∧ t.link = ((((s.link.taken rest).withNotices (finishing.flatMap (fun n =>
            resolutionNotices n (s.lane n) (decided n) (t.lane n) ++ places n ++ recordNotice n s t))).withRaceState
              .unofficial .running s.race.event).seen t.vector).replied f .ok
          (laneSet (fun n => decide (n ∈ finishing)) ++ laneSet (fun n => decide (n ∈ swimming)))
      ∧ ChangesOnly [.race, .lanes, .board, .lamps, .link] s t)
  ∧ (∀ (s : State) (f : Frame) (rest : List Frame), HeadRequest f rest s → f.kind = 0x1A → f.payload = [] →
    s.race.state = .unofficial →
    ((∃ l ∈ s.lanes, l.state = .review) →
      AnswersOnly .close f rest .reviewOpen (laneSet (fun n => decide ((s.lane n).state = .review))) s)
    ∧ ((∀ l ∈ s.lanes, l.state ≠ .review) →
      ∃ t, exec .close s = .next t ∧ t.race = { s.race with state := .official, pastLimit := false }
        ∧ RowsMarked [0] [0] s t ∧ HoldsKept s t
        ∧ t.link = (((s.link.taken rest).withRaceState .official .unofficial s.race.event).seen t.vector).replied f .ok [0, 0]
        ∧ ChangesOnly [.race, .board, .link] s t))

/-! ## Corrections and declarations -/

/-- ADJUST_LENGTH in RUNNING on a SWIMMING lane: +1 appends an INSERTED entry where that leaves a length to go, and makes the
exchange at its length UNJUDGED with its notice; −1 removes the tail entry, lowers the inferred-miss count with a MISSED one,
and withdraws the judgement of the exchange at its length, back to PENDING or NONE. The rows are marked, the FINAL_LENGTH
input and, for an append, the bell follow, and the reply carries the lane and its lengths done (R72, R73, R101, R104). -/
def Obligations.AdjustLengthMovesTheCount : Prop :=
  (∀ (s : State) (f : Frame) (rest : List Frame) (b : Byte), HeadRequest f rest s → f.kind = 0x13 → f.payload = [b, 0x01] →
    let n := b.toNat
    let l := s.lane n
    let k := l.done + 1
    let entry := untimedEntry k .inserted
    let appended : Lane := { l with splits := l.splits ++ [entry], done := k }
    s.race.state = .running → n < 10 → s.lanes.length = 10 → l.state = .swimming → k < s.event.total →
    ∃ t, exec .adjustLengthPlusOne s = .next t ∧ OtherLanesKept n s t
      ∧ (NoExchange s.event k → t.lane n = appended
        ∧ t.link = ((s.link.taken rest).withNotice 0x44 (splitNotice n entry)).replied f .ok [b, byte k])
      ∧ (∀ j, s.event.kind = .relay → 0 < s.event.total / 4 → 1 ≤ j → j ≤ 3 → k = j * (s.event.total / 4) →
          let x : Exchange := { l.exchange j with margin := none, status := .unjudged }
          t.lane n = appended.setExchange j x
          ∧ t.link = (((s.link.taken rest).withNotice 0x44 (splitNotice n entry)).withExchange n j x).replied f .ok
              [b, byte k])
      ∧ RowsMarked [n + 1, n + 12] [n + 1, n + 12] s t ∧ HoldsKept s t
      ∧ t.lamps = { s.lamps with
          finalLength := s.lamps.finalLength.modify n (LampTimer.setInput s.tick s.options.offDelay
            (decide (8 ≤ s.event.total ∧ k + 1 = s.event.total)))
          bell := if 8 ≤ s.event.total ∧ k + 2 = s.event.total then s.lamps.bell.pulse s.tick s.options.bellWidth
            else s.lamps.bell }
      ∧ ChangesOnly [.lanes, .board, .lamps, .link] s t)
  ∧ (∀ (s : State) (f : Frame) (rest : List Frame) (b : Byte) (xs : List Split) (x : Split), HeadRequest f rest s →
    f.kind = 0x13 → f.payload = [b, 0xFF] →
    let n := b.toNat
    let l := s.lane n
    let removed : Lane := { l with
      splits := xs, done := l.done - 1, misses := if x.kind = .missed then l.misses - 1 else l.misses }
    s.race.state = .running → n < 10 → s.lanes.length = 10 → l.state = .swimming → 0 < l.done → l.splits = xs ++ [x] →
    ∃ t, exec .adjustLengthMinusOne s = .next t ∧ OtherLanesKept n s t
      ∧ (NoExchange s.event l.done → t.lane n = removed ∧ t.link = (s.link.taken rest).replied f .ok [b, byte (l.done - 1)])
      ∧ (∀ j, s.event.kind = .relay → 0 < s.event.total / 4 → 1 ≤ j → j ≤ 3 → l.done = j * (s.event.total / 4) →
          let y : Exchange := { l.exchange j with
            margin := none, status := if (l.exchange j).takeoff = none then .none else .pending }
          ((l.exchange j).status = .none →
            t.lane n = removed ∧ t.link = (s.link.taken rest).replied f .ok [b, byte (l.done - 1)])
          ∧ ((l.exchange j).status ≠ .none →
            t.lane n = removed.setExchange j y
            ∧ t.link = ((s.link.taken rest).withExchange n j y).replied f .ok [b, byte (l.done - 1)]))
      ∧ RowsMarked [n + 1, n + 12] [n + 1, n + 12] s t ∧ HoldsKept s t
      ∧ t.lamps = { s.lamps with
          finalLength := s.lamps.finalLength.modify n (LampTimer.setInput s.tick s.options.offDelay
            (decide (8 ≤ s.event.total ∧ l.done = s.event.total))) }
      ∧ ChangesOnly [.lanes, .board, .lamps, .link] s t)

/-- ADJUST_LENGTH in RUNNING is refused without effect, by the first that applies: a lane over 9 BAD_LANE, a lane that is not
SWIMMING WRONG_STATE, a direction that is neither +1 nor −1, a +1 that would leave no length to go, or a −1 with no length
done OUT_OF_RANGE (R72). DECLARE is refused without effect, by the first that applies: a declaration over 3 OUT_OF_RANGE, a
race state that does not take it WRONG_STATE, a lane over 9 or VACANT BAD_LANE, a lane state that does not take it WRONG_STATE
(R111). That a frame which spells none of the rows of its kind is taken and refused by any of them is the model's choice: log
entry 4. -/
def Obligations.CorrectionsAreRefused : Prop :=
  (∀ (c : Instr) (s : State) (f : Frame) (rest : List Frame) (b d : Byte), HeadRequest f rest s → f.kind = 0x13 →
    f.payload = [b, d] → s.race.state = .running →
    (c = .adjustLengthPlusOne ∧ d ≠ 0xFF) ∨ (c = .adjustLengthMinusOne ∧ d ≠ 0x01) →
    let n := b.toNat
    let l := s.lane n
    (10 ≤ n → AnswersOnly c f rest .badLane [] s)
    ∧ (n < 10 → l.state ≠ .swimming → AnswersOnly c f rest .wrongState [] s)
    ∧ (n < 10 → l.state = .swimming →
        (d ≠ 0x01 ∧ d ≠ 0xFF) ∨ (d = 0x01 ∧ s.event.total ≤ l.done + 1) ∨ (d = 0xFF ∧ l.done = 0) →
        AnswersOnly c f rest .outOfRange [] s))
  ∧ (∀ (c : Instr) (d : Byte) (s : State) (f : Frame) (rest : List Frame) (b x : Byte), HeadRequest f rest s → f.kind = 0x1B →
    f.payload = [b, x] →
    (c, d) ∈ [(.declareDns, 0), (.declareDnf, 1), (.declareDq, 2), ((.declareReinstate : Instr), (3 : Byte))] →
    let n := b.toNat
    (3 < x.toNat → AnswersOnly c f rest .outOfRange [] s)
    ∧ (x = d → ¬ takenIn c s.race.state → AnswersOnly c f rest .wrongState [] s)
    ∧ (x = d → takenIn c s.race.state → 10 ≤ n ∨ (s.lane n).state = .vacant → AnswersOnly c f rest .badLane [] s)
    ∧ (x = d → takenIn c s.race.state → n < 10 → (s.lane n).state ≠ .vacant → ¬ declarable c (s.lane n) →
        AnswersOnly c f rest .wrongState [] s))

/-- ADJUDICATE of a FINISHED or REVIEW lane in RUNNING or UNOFFICIAL replaces the time and the mark of its FINAL entry by the
pad evidence, the backup candidate or the manual time carried, sets the source, clears the review reason and leaves the lane
FINISHED; the ranking and the record set follow; SPLIT is handed, then PLACES where a place changes, with every lane's place as
it now stands, and RECORD where the lane's record set changes; and the reply carries the lane, the time and the source (R109,
R110, R116, R117; log entry 17). A lane over 9 is answered BAD_LANE, another lane state WRONG_STATE, a source over 2
OUT_OF_RANGE, a source without a time NO_SOURCE, a manual time below the one-length limit or over the clock limit OUT_OF_RANGE,
in this order (R116). -/
def Obligations.AdjudicateReplacesTheResult : Prop :=
  ∀ (s : State) (f : Frame) (rest : List Frame) (b src : Byte), HeadRequest f rest s → f.kind = 0x14 →
    f.payload.length = 6 → f.payload.take 2 = [b, src] → (s.race.state = .running ∨ s.race.state = .unofficial) →
    let n := b.toNat
    let l := s.lane n
    let manual := field f.payload 2 4
    let inReview := l.state = .finished ∨ l.state = .review
    let right := lengthLimit s.event l 1 ≤ manual ∧ manual ≤ 59999999
    (10 ≤ n → AnswersOnly .adjudicate f rest .badLane [] s)
    ∧ (n < 10 → ¬ inReview → AnswersOnly .adjudicate f rest .wrongState [] s)
    ∧ (n < 10 → inReview → 2 < src.toNat → AnswersOnly .adjudicate f rest .outOfRange [] s)
    ∧ (n < 10 → inReview → (src = 0 ∧ l.pad = none) ∨ (src = 1 ∧ l.candidate = none) →
        AnswersOnly .adjudicate f rest .noSource [] s)
    ∧ (n < 10 → inReview → src = 2 → ¬ right → AnswersOnly .adjudicate f rest .outOfRange [] s)
    ∧ (∀ (ev : Evidence) (source : ResultSource) (xs : List Split) (x : Split), n < 10 → s.lanes.length = 10 → inReview →
        (src = 0 ∧ l.pad = some ev ∧ source = .pad)
          ∨ (src = 1 ∧ l.candidate = some ev.time ∧ ev.overMark = l.presses.any (·.overMark) ∧ source = .backup)
          ∨ (src = 2 ∧ right ∧ ev = { time := manual, overMark := false } ∧ source = .manual) →
        l.splits = xs ++ [x] → x = timedEntry s.event.total .final { time := x.time.getD 0, overMark := x.overMark } →
        (∀ y ∈ xs, y.kind ≠ .final) →
        let rows (t : State) := [n + 1, n + 12] ++ placeRows s t
        let final := timedEntry s.event.total .final ev
        ∃ t, exec .adjudicate s = .next t
          ∧ t.lane n = { l with
              state := .finished, source := source, reason := .none, splits := xs ++ [final]
              place := (t.lane n).place, records := (t.lane n).records }
          ∧ Ranked n s t ∧ OtherLanesKeptButPlaces n s t
          ∧ t.race = { s.race with ranking := t.race.ranking }
          ∧ t.link = (((s.link.taken rest).withNotices
              ([(0x44, splitNotice n final)] ++ placesNotice s.places t.places ++ recordNotice n s t)).seen t.vector).replied f .ok
            ([b] ++ timeBytes (some ev.time) ++ [sourceCode source])
          ∧ RowsMarked (rows t) (rows t) s t ∧ HoldsKept s t
          ∧ { t.lamps with record := s.lamps.record } = s.lamps
          ∧ ChangesOnly [.race, .lanes, .board, .lamps, .link] s t)

/-- The declarations: DNS and DNF move their lane to that state, end its split hold, set its FINAL_LENGTH input off and end the
race with its last lane; DQ and REINSTATE set and clear the DQ mark with the ranking and the record set following, hand PLACES
where a place changes, with every lane's place as it now stands, and RECORD where the lane's record set changes, and change
nothing where the mark stands so already. The reply carries the lane, its state and its mark (R109 to R115, R118). -/
def Obligations.DeclarationsTakeEffect : Prop :=
  (∀ (c : Instr) (d : Byte) (new : LaneState) (s : State) (f : Frame) (rest : List Frame) (b : Byte), HeadRequest f rest s →
    f.kind = 0x1B → f.payload = [b, d] →
    (c = .declareDns ∧ d = 0 ∧ new = .dns) ∨ (c = .declareDnf ∧ d = 1 ∧ new = .dnf) →
    let n := b.toNat
    let l := s.lane n
    let ended := decide (s.race.state = .running) && (List.range 10).all (fun m => decide (m = n) || !(s.lane m).underWay)
    let rows := [n + 1, n + 12] ++ (if ended then [0] else [])
    let l1 := s.link.taken rest
    takenIn c s.race.state → n < 10 → s.lanes.length = 10 → declarable c l →
    ∃ t, exec c s = .next t ∧ t.lane n = { l with state := new } ∧ OtherLanesKept n s t
      ∧ t.race = (if ended then { s.race with state := .unofficial, pastLimit := false } else s.race)
      ∧ RowsMarked rows rows s t ∧ (∀ m, t.hold m = if m = n ∧ l.state = .swimming then none else s.hold m)
      ∧ t.lamps = { s.lamps with
          finalLength := s.lamps.finalLength.modify n (LampTimer.setInput s.tick s.options.offDelay false) }
      ∧ t.link = ((if ended then l1.withRaceState .unofficial .running s.race.event else l1).seen t.vector).replied f .ok
          [b, laneCode new, flagByte l.dq]
      ∧ ChangesOnly [.race, .lanes, .board, .lamps, .link] s t)
  ∧ (∀ (c : Instr) (d : Byte) (mark : Bool) (s : State) (f : Frame) (rest : List Frame) (b : Byte), HeadRequest f rest s →
    f.kind = 0x1B → f.payload = [b, d] →
    (c = .declareDq ∧ d = 2 ∧ mark = true) ∨ (c = .declareReinstate ∧ d = 3 ∧ mark = false) →
    let n := b.toNat
    let l := s.lane n
    let fields := [b, laneCode l.state, flagByte mark]
    let rows (t : State) := [n + 1] ++ placeRows s t
    takenIn c s.race.state → n < 10 → s.lanes.length = 10 → declarable c l →
    (l.dq = mark → exec c s = .next { s with link := ((s.link.taken rest).seen s.vector).replied f .ok fields })
    ∧ (l.dq ≠ mark →
      ∃ t, exec c s = .next t
        ∧ t.lane n = { l with dq := mark, place := (t.lane n).place, records := (t.lane n).records }
        ∧ Ranked n s t ∧ OtherLanesKeptButPlaces n s t ∧ t.race = { s.race with ranking := t.race.ranking }
        ∧ t.link = (((s.link.taken rest).withNotices (placesNotice s.places t.places ++ recordNotice n s t)).seen
            t.vector).replied f .ok fields
        ∧ RowsMarked (rows t) (rows t) s t ∧ HoldsKept s t
        ∧ { t.lamps with record := s.lamps.record } = s.lamps
        ∧ ChangesOnly [.race, .lanes, .board, .lamps, .link] s t))

/-! ## Reads, STATUS, options, alarms, RESET -/

/-- The read requests answer OK and change nothing. The lane record is 101 bytes and carries each field at its place, among
them the flags, the over-range marks of the evidence and of the FINAL entry and the record set, each as bits of a byte whose
other bits are clear; the split reply carries up to 20 entries of 7 bytes from the start length on; the ranking reply carries
each ranked lane with its place, its result and its comparison with the lane before; LINE_LEVELS carries the confirmed levels,
the stuck lines and the masks, bit m for line m (R20, R107, R122, R175, section 11.9). -/
def Obligations.ReadsCarryTheRecords : Prop :=
  (∀ (s : State) (f : Frame) (rest : List Frame) (b : Byte), HeadRequest f rest s → f.kind = 0x15 → f.payload = [b] →
    let l := s.lane b.toNat
    let cell (p : List Byte) (i : Nat) (x : Option Nat) : Prop := field p i 4 = (x.getD 0xFFFFFFFF) % 2 ^ 32
    (10 ≤ b.toNat → AnswersOnly .readLane f rest .badLane [] s)
    ∧ (b.toNat < 10 → l.text.length ≤ 16 →
      ∃ p, AnswersOnly .readLane f rest .ok p s ∧ p.length = 101
        ∧ p.take 4 = [b, laneCode l.state, (l.stateAtArm.map laneCode).getD 0xFF, flagByte l.dq]
        ∧ ((byteAt p 4).toNat.testBit 0 = l.earlyRelease ∧ (byteAt p 4).toNat.testBit 1 = l.blockEmptyAtArm
          ∧ (byteAt p 4).toNat.testBit 2 = l.overrange ∧ (byteAt p 4).toNat.testBit 3 = l.countDoubt
          ∧ (byteAt p 4).toNat < 16)
        ∧ (p.drop 5).take 3 = [farTimingCode l.farTiming, trackingCode l.tracking, byte l.takeoffs]
        ∧ (p.drop 8).take 4 = signedBytes l.reaction ∧ cell p 12 (l.reactionTick.map (·.toNat))
        ∧ (p.drop 16).take 2 = [byte l.done, byte l.misses]
        ∧ cell p 18 (l.pad.map (·.time)) ∧ cell p 22 (l.press1.map (·.time)) ∧ cell p 26 (l.press2.map (·.time))
        ∧ cell p 30 (l.press3.map (·.time)) ∧ cell p 34 (l.first.map (·.time))
        ∧ ((byteAt p 38).toNat.testBit 0 = l.pad.any (·.overMark) ∧ (byteAt p 38).toNat.testBit 1 = l.press1.any (·.overMark)
          ∧ (byteAt p 38).toNat.testBit 2 = l.press2.any (·.overMark)
          ∧ (byteAt p 38).toNat.testBit 3 = l.press3.any (·.overMark)
          ∧ (byteAt p 38).toNat.testBit 4 = l.first.any (·.overMark)
          ∧ (byteAt p 38).toNat.testBit 5 = (l.splits.find? (fun x => decide (x.kind = .final))).any (·.overMark)
          ∧ (byteAt p 38).toNat < 64)
        ∧ cell p 39 l.consensus ∧ field p 43 2 = l.lagUsed % 65536 ∧ cell p 45 l.candidate
        ∧ (p.drop 49).take 3 = [sourceCode l.source, reasonCode l.reason, laneByte l.place]
        ∧ (∀ i < 4, (byteAt p 52).toNat.testBit i = l.records.contains i) ∧ (byteAt p 52).toNat < 16 ∧ cell p 53 l.result
        ∧ (∀ j, 1 ≤ j → j ≤ 3 → cell p (48 + 9 * j) (l.exchange j).takeoff
            ∧ (p.drop (52 + 9 * j)).take 5 = signedBytes (l.exchange j).margin ++ [exchangeCode (l.exchange j).status])
        ∧ p.drop 84 = byte l.text.length :: (l.text ++ List.replicate (16 - l.text.length) 0x20)))
  ∧ (∀ (s : State) (f : Frame) (rest : List Frame) (b k : Byte), HeadRequest f rest s → f.kind = 0x16 → f.payload = [b, k] →
    let l := s.lane b.toNat
    (10 ≤ b.toNat → AnswersOnly .readSplits f rest .badLane [] s)
    ∧ (b.toNat < 10 → k.toNat = 0 ∨ 60 < k.toNat → AnswersOnly .readSplits f rest .outOfRange [] s)
    ∧ (b.toNat < 10 → 1 ≤ k.toNat → k.toNat ≤ 60 → l.done = l.splits.length →
      let sent := (l.splits.drop (k.toNat - 1)).take 20
      AnswersOnly .readSplits f rest .ok
        ([b, byte l.done, k, byte sent.length] ++ sent.flatMap (fun x =>
          [byte x.length, splitCode x.kind] ++ timeBytes x.time
          ++ [byte ((if x.fin = .far then 1 else 0) + (if x.overMark then 2 else 0))])) s))
  ∧ (∀ (s : State) (f : Frame) (rest : List Frame), HeadRequest f rest s → f.kind = 0x17 → f.payload = [] →
    let result (n : Nat) := (s.lane n).result
    AnswersOnly .readRanking f rest .ok
      ([raceCode s.race.state] ++ bytesOf 2 s.event.number ++ tickBytes s.race.startTick
        ++ [flagByte s.race.limitMark, byte s.race.lags.length]
        ++ s.race.lags.flatMap (fun x => byte x.lane :: bytesOf 2 x.delta) ++ [byte s.race.ranking.length]
        ++ s.race.ranking.zipIdx.flatMap (fun x =>
            [byte x.1, laneByte (s.lane x.1).place] ++ timeBytes (result x.1)
            ++ [flagByte ((s.lane x.1).splits.find? (fun y => decide (y.kind = .final)) |>.any (·.overMark)),
                (match result x.1, (if x.2 = 0 then none else s.race.ranking[x.2 - 1]?).bind result with
                 | some a, some c => if a / 100 < c / 100 then 0 else if a / 100 = c / 100 then 1 else 2
                 | _, _ => 3)])) s)
  ∧ (∀ (s : State) (f : Frame) (rest : List Frame), HeadRequest f rest s → f.kind = 0x05 → f.payload = [] →
    ∃ p, AnswersOnly .lineLevels f rest .ok p s ∧ p.length = 24 ∧ ∀ m < 64,
      (numberOf (p.take 8)).testBit m = (decide (m < 61) && (s.line m).active)
      ∧ (numberOf ((p.drop 8).take 8)).testBit m = (decide (m < 61) && (s.line m).stuck)
      ∧ (numberOf (p.drop 16)).testBit m = (decide (m < 61) && (s.line m).masked))

/-- STATUS answers the family code, the revision, the POS strap, the race state, the ownership state, the number of alarms,
the flags NOTICES_LOST, ALARM_FULL and WATCH_PENDING and the tick, and clears the first two flags (R173). READ_ALARMS answers
the list, CLEAR_ALARMS empties it and leaves ALARM_FULL (R177). RESET is answered OK and takes effect later (R178).
SET_OPTIONS with an enumerated field outside its set is answered OUT_OF_RANGE with the first such field and changes nothing.
Otherwise the whole record is stored, each numeric field held to its range, the reply carries the record as stored, CLAMPED
where a field was changed, and the lines of a class whose polarity changes are to be loaded again (R5, R174). READ_OPTIONS
answers the record (R174). -/
def Obligations.StatusOptionsAndAlarms : Prop :=
  (∀ (s : State) (f : Frame) (rest : List Frame), HeadRequest f rest s → f.payload = [] →
    (f.kind = 0x01 →
      ∃ flags : Byte, flags.toNat < 8 ∧ flags.toNat.testBit 0 = s.link.noticesLost ∧ flags.toNat.testBit 1 = s.link.alarmFull
        ∧ flags.toNat.testBit 2 = s.link.watch.isSome
        ∧ exec .status s = .next { s with
          link := { s.link.answered f rest .ok
              ([0x3A, 2, if s.share.unitA then 0 else 1, raceCode s.race.state, ownershipCode s.share.state,
                byte s.link.alarms.length, flags] ++ bytesOf 4 s.tick.toNat) with
            noticesLost := false, alarmFull := false } })
    ∧ (f.kind = 0x28 →
        AnswersOnly .readAlarms f rest .ok
          (byte s.link.alarms.length :: s.link.alarms.flatMap (fun a =>
            [alarmCode a.kind, (a.lane.map byte).getD 0xFF] ++ bytesOf 4 a.first.toNat ++ bytesOf 4 a.last.toNat)) s)
    ∧ (f.kind = 0x29 → exec .clearAlarms s = .next { s with link := { s.link.answered f rest .ok [] with alarms := [] } })
    ∧ (f.kind = 0x3F → exec .reset s = .next { s with link := { s.link.answered f rest .ok [] with resetPending := true } }))
  ∧ ((∀ (s : State) (f : Frame) (rest : List Frame), HeadRequest f rest s → f.kind = 0x02 → f.payload.length = 50 →
    takenIn .setOptions s.race.state →
    (∀ n, FirstRefused (optionRefused f.payload) n → AnswersOnly .setOptions f rest .outOfRange [byte n] s)
    ∧ ((∀ n, ¬ optionRefused f.payload n) →
      let o := optionsOf f.payload
      ∃ t, exec .setOptions s = .next t ∧ t.options = o ∧ o.inRange
        ∧ (∀ c, c ∈ t.reloads ↔ c ∈ s.reloads ∨ s.options.polarity c ≠ o.polarity c)
        ∧ t.link = s.link.answered f rest (if optionsBytes o = f.payload then .ok else .clamped) (optionsBytes o)
        ∧ ChangesOnly [.options, .link] s t))
  ∧ (∀ (s : State) (f : Frame) (rest : List Frame), HeadRequest f rest s → f.kind = 0x03 → f.payload = [] →
      AnswersOnly .readOptions f rest .ok (optionsBytes s.options) s))

/-! ## WATCH -/

/-- WATCH is BUSY while a watch is pending or a watch answer waits, is answered at once with the vector where its snapshot
differs from it, and otherwise becomes pending with no reply (R171). That an answer waits until its last byte has been sent is
the model's choice: log entry 13. CANCEL_WATCH answers a pending watch CANCELLED in the watch answer slot and is itself
answered OK (R172). -/
def Obligations.WatchAndCancelWatch : Prop :=
  (∀ (s : State) (f : Frame) (rest : List Frame), HeadRequest f rest s → f.kind = 0x18 → f.payload.length = 11 →
    let free := s.link.watch = none ∧ s.link.watchAnswer = none
    (¬ free → AnswersOnly .watch f rest .busy [] s)
    ∧ (free → f.payload ≠ s.vector → AnswersOnly .watch f rest .ok s.vector s)
    ∧ (free → f.payload = s.vector →
      exec .watch s = .next { s with
        link := { s.link.taken rest with watch := some { tag := f.tag, snapshot := f.payload } } }))
  ∧ (∀ (s : State) (f : Frame) (rest : List Frame), HeadRequest f rest s → f.kind = 0x19 → f.payload = [] →
      (s.link.watch = none → AnswersOnly .cancelWatch f rest .ok [] s)
      ∧ (∀ w, s.link.watch = some w →
        exec .cancelWatch s = .next { s with
          link := { s.link.answered f rest .ok [] with
            watch := none, watchAnswer := some { kind := 0x98, tag := w.tag, payload := [0x0D] } } }))

/-- A pending watch whose snapshot is the current vector stays pending through every command that leaves the vector as it was,
and is answered with the new vector by the very command that changes it (R171). CANCEL_WATCH and CLEAR_RACE answer it in any
case; power-on and RESET drop it. -/
def Obligations.PendingWatchSeesEveryChange : Prop :=
  ∀ (c : Instr) (s t : State) (w : Watch), exec c s = .next t → s.link.watch = some w → w.snapshot = s.vector →
    (∀ p, c ≠ .powerOn p) → c ≠ .resetTakesEffect → c ≠ .cancelWatch → c ≠ .clearRace →
    (t.vector = s.vector → t.link.watch = some w)
    ∧ (t.vector ≠ s.vector →
        t.link.watch = none ∧ t.link.watchAnswer = some { kind := 0x98, tag := w.tag, payload := 0 :: t.vector })

/-! ## The receiver and the transmitter -/

/-- The receiver, by the table of R167: in HUNT a lead byte starts a frame and any other byte is dropped; in LENGTH a length
up to 240 leads to BODY and a greater one fails the frame; in BODY bytes are held until the last, and a frame whose check
matches joins the receive buffer, or is lost with OVERRUN while four are held (R168). More than 200 ticks without a byte fail
the frame. A byte whose stop bit reads low is dropped (R166). -/
def Obligations.ReceiverTakesBytes : Prop :=
  ∀ (s : State) (b : Byte),
    let r := s.link.receiver
    (exec (.byteReceived b false) s = .next s ∧ exec (.frameComplete b false) s = .next s
      ∧ exec (.frameFailed b false) s = .next s)
    ∧ (r.state = .hunt →
        exec (.byteReceived b true) s = .next { s with
          link := if b = 0xA7 then s.link.receiving .length [b] s.tick else s.link.receiving .hunt [] s.tick })
    ∧ (r.state = .length → b.toNat ≤ 240 →
        exec (.byteReceived b true) s = .next { s with link := s.link.receiving (.body (b.toNat + 4)) (r.held ++ [b]) s.tick })
    ∧ (r.state = .length → r.held = [0xA7] → 240 < b.toNat →
        exec (.frameFailed b true) s = .next { s with
          link := (s.link.receiving .hunt [] s.tick).withNotice 0x52 [1, 0, 0] })
    ∧ (∀ n, r.state = .body n → 2 ≤ n →
        exec (.byteReceived b true) s = .next { s with link := s.link.receiving (.body (n - 1)) (r.held ++ [b]) s.tick })
    ∧ (∀ f : Frame, r.state = .body 1 → f.payload.length ≤ 240 → r.held ++ [b] = f.bytes →
        exec (.frameComplete b true) s = .next { s with
          link := if s.link.buffer.length < 4 then { s.link.receiving .hunt [] s.tick with buffer := s.link.buffer ++ [f] }
          else (s.link.receiving .hunt [] s.tick).withNotice 0x52 [3, f.kind, f.tag] })
    ∧ (r.state ≠ .hunt → 200 < interval r.last s.tick →
        exec .frameTimeout s = .next { s with
          link := ({ s.link with receiver := { r with state := .hunt, held := [] } } : Link).withNotice 0x52 [2, 0, 0] })

/-- A frame whose check does not match fails with LINK_ERROR, reason CHECK, and the bytes held behind its lead byte, the last
byte included, are examined again from HUNT in order, as if each were newly received at this tick (R167; log entry 15). -/
def Obligations.FailedFrameIsExaminedAgain : Prop :=
  ∀ (s : State) (b : Byte), s.link.receiver.state = .body 1 →
    (∀ f : Frame, s.link.receiver.held ++ [b] ≠ f.bytes) →
    s.link.receiver.held.length = (byteAt s.link.receiver.held 1).toNat + 5 → s.link.receiver.held.head? = some 0xA7 →
    exec (.frameFailed b true) s
      = receiveAll (s.link.receiver.held.drop 1 ++ [b])
          { s with link := (s.link.receiving .hunt [] s.tick).withNotice 0x52 [0, 0, 0] }

/-- With TXD free and no reset due the transmitter starts the watch answer, else the reply, else the oldest notice, which
leaves its queue: the bytes of its frame, taking the smallest whole number of ticks not less than 100,000 L / r for L bytes at
the bit rate r of the straps. When these have passed the message ends and its slot empties; the end of the reply to RESET
makes the reset due (R166, R169, R178). That a reset due is held in State, and no message starts while it is, is the model's
choice: log entry 14. -/
def Obligations.TransmitterSendsInOrder : Prop :=
  (∀ s : State, s.link.sent = none → s.link.resetDue = false →
    let rate := 57600 * 2 ^ (2 * s.link.rate1.toNat + s.link.rate0.toNat)
    let starts (src : TxSource) (f : Frame) (m : Sent) : Prop :=
      m.source = src ∧ m.bytes = f.bytes ∧ m.bytes.length = f.payload.length + 6 ∧ m.timer.start = s.tick
      ∧ 100000 * m.bytes.length ≤ m.timer.width * rate ∧ m.timer.width * rate < 100000 * m.bytes.length + rate
    (∀ f, s.link.watchAnswer = some f →
      ∃ m, starts .watchAnswer f m ∧ exec .messageStart s = .next { s with link := { s.link with sent := some m } })
    ∧ (∀ f, s.link.watchAnswer = none → s.link.reply = some f →
      ∃ m, starts .reply f m ∧ exec .messageStart s = .next { s with link := { s.link with sent := some m } })
    ∧ (∀ f rest, s.link.watchAnswer = none → s.link.reply = none → s.link.notices = f :: rest →
      ∃ m, starts .notice f m
        ∧ exec .messageStart s = .next { s with link := { s.link with sent := some m, notices := rest } }))
  ∧ (∀ (s : State) (m : Sent), s.link.sent = some m → m.timer.width ≤ interval m.timer.start s.tick →
    (m.source = .watchAnswer → exec .messageEnd s = .next { s with link := { s.link with sent := none, watchAnswer := none } })
    ∧ (m.source = .reply →
        exec .messageEnd s = .next { s with
          link := { s.link with sent := none, reply := none, resetDue := s.link.resetDue || s.link.resetPending } })
    ∧ (m.source = .notice → exec .messageEnd s = .next { s with link := { s.link with sent := none } }))

/-! ## Encodings -/

/-- A frame sent is a frame received: the bytes of any frame with a payload of up to 240 bytes, received one after another in
HUNT with fewer than four frames held, put exactly that frame at the tail of the receive buffer and change nothing else but
the receiver (R166 to R168). -/
def Obligations.FrameSentIsFrameReceived : Prop :=
  ∀ (f : Frame) (s : State), f.payload.length ≤ 240 → s.link.receiver.state = .hunt → s.link.buffer.length < 4 →
    receiveAll f.bytes s
      = .next { s with link := { s.link with
          buffer := s.link.buffer ++ [f], receiver := { state := .hunt, held := [], last := s.tick } } }

/-- Every options record and every event descriptor with its fields in range is written to the bytes of section 11.9 and read
back as it was, and its bytes pass the checks of SET_OPTIONS and LOAD_EVENT (R28, R29, R174). -/
def Obligations.RecordsAreReadAsWritten : Prop :=
  (∀ o : Options, o.inRange →
    optionsOf (optionsBytes o) = o ∧ (∀ n, ¬ optionRefused (optionsBytes o) n) ∧ (optionsBytes o).length = 50)
  ∧ (∀ e : EventDesc, e.inRange →
    eventOf (eventBytes e) = e ∧ (∀ n, ¬ eventFieldRefused (eventBytes e) n)
    ∧ (eventBytes e).length = 26 + e.title.length)

/-! ## What the rows show -/

/-- Every row content has its width (R124), blank where the row is masked. An unmasked lane row of a lane in use shows the
place of a FINISHED or REVIEW lane, the lane number, the text, the time by its state and the marker; an unmasked lap counter
row of a SWIMMING or FINISHING lane shows the lengths to go; the header shows the event number, the title and, while RUNNING,
the clock in tenths; the footer row shows the footer text and spaces. A SWIMMING lane shows the time of its last TIMED entry
while its split hold runs, and the clock in whole seconds without a hold or without such an entry (R124 to R129, R131). -/
def Obligations.RowsShowTheRecords : Prop :=
  (∀ (s : State) (r : Nat), r < 22 →
    (composeRow s r).length = rowWidth r
    ∧ (s.rowMasked r = true → composeRow s r = List.replicate (rowWidth r) (if r ≤ 11 then 0x20 else 0x0F)))
  ∧ (∀ (s : State) (n : Nat), n < 10 → s.rowMasked (n + 1) = false →
    let l := s.lane n
    let row := composeRow s (n + 1)
    let time := (row.drop 19).take 8
    (l.state = .vacant → row = List.replicate 28 0x20)
    ∧ (l.state ≠ .vacant →
        row[2]? = some (byte (0x30 + n))
        ∧ (l.text.length ≤ 16 → (row.drop 3).take 16 = l.text ++ List.replicate (16 - l.text.length) 0x20)
        ∧ ((l.state = .ready ∨ l.state = .set) → time = List.replicate 8 0x20 ∧ row[27]? = some 0x20)
        ∧ (l.state = .swimming → (s.hold n = none ∨ ∀ x ∈ l.splits, x.kind ≠ .timed) → time = secondsText s.raceClock)
        ∧ (∀ xs run x t, l.state = .swimming → s.hold n ≠ none → l.splits = xs ++ [x] ++ run → x.kind = .timed →
            x.time = some t → (∀ y ∈ run, y.kind ≠ .timed) → t ≤ 59999999 → time = hundredthsText t)
        ∧ (∀ ev, l.state = .finishing → l.first = some ev → ev.time ≤ 59999999 → time = hundredthsText ev.time)
        ∧ (∀ t, (l.state = .finished ∨ l.state = .review) → l.result = some t → t ≤ 59999999 → time = hundredthsText t)
        ∧ (∀ p, (l.state = .finished ∨ l.state = .review) → l.place = some p → p ≤ 99 → row.take 2 = rightIn 2 p)
        ∧ ((l.state ≠ .finished ∧ l.state ≠ .review) ∨ l.place = none → row.take 2 = [0x20, 0x20])
        ∧ (l.state = .dns → time = [0x20, 0x20, 0x20, 0x20, 0x20, 0x44, 0x4E, 0x53])
        ∧ (l.state = .dnf → time = [0x20, 0x20, 0x20, 0x20, 0x20, 0x44, 0x4E, 0x46])
        ∧ (l.state ≠ .ready → l.state ≠ .set →
            (l.dq = true → row[27]? = some 0x51)
            ∧ (l.dq = false → (∃ j, 1 ≤ j ∧ j ≤ 3 ∧ (l.exchange j).status = .early) → row[27]? = some 0x54)
            ∧ (∀ i is x, l.dq = false → (∀ j, 1 ≤ j → j ≤ 3 → (l.exchange j).status ≠ .early) → l.records = i :: is →
                s.race.slots[i]? = some x → row[27]? = some x.label)
            ∧ (l.dq = false → (∀ j, 1 ≤ j → j ≤ 3 → (l.exchange j).status ≠ .early) → l.records = [] →
                row[27]? = some 0x20))))
  ∧ (∀ (s : State) (n : Nat), n < 10 → s.rowMasked (n + 12) = false →
    (((s.lane n).state = .swimming ∨ (s.lane n).state = .finishing) → (s.lane n).done ≤ s.event.total → s.event.total ≤ 999 →
      ∃ a b c, composeRow s (n + 12) = [byte a, byte b, byte c] ∧ a ≤ 9 ∧ b ≤ 9 ∧ c ≤ 9
        ∧ a * 100 + b * 10 + c + (s.lane n).done = s.event.total)
    ∧ ((s.lane n).state ≠ .swimming → (s.lane n).state ≠ .finishing → composeRow s (n + 12) = [0x0F, 0x0F, 0x0F]))
  ∧ (∀ s : State, s.rowMasked 0 = false →
    let row := composeRow s 0
    (s.race.state = .idle → row = List.replicate 35 0x20)
    ∧ (s.race.state ≠ .idle → s.event.number ≤ 9999 → s.event.title.length ≤ 24 →
        row.take 4 = rightIn 4 s.event.number
        ∧ (row.drop 4).take 24 = s.event.title ++ List.replicate (24 - s.event.title.length) 0x20
        ∧ (s.race.state = .running → row.drop 28 = tenthsText s.raceClock)
        ∧ (s.race.state = .armed → row.drop 28 = tenthsText 0)
        ∧ ((s.race.state = .loaded ∨ s.race.state = .unofficial ∨ s.race.state = .official) →
            row.drop 28 = List.replicate 7 0x20)))
  ∧ (∀ s : State, s.rowMasked 11 = false → s.board.footer.length ≤ 32 →
    composeRow s 11 = s.board.footer ++ List.replicate (32 - s.board.footer.length) 0x20)

/-! ## Invariants kept by every step -/

/-- Every step keeps the lists of a fixed length, the order of every split list (R57) and the agreement of race state and lane
states (sections 2.3 and 2.4); and the counts of the lanes: the inferred-miss count is the number of MISSED entries (R69), a
FINISHING lane has one length to go, a resolved lane its FINAL entry at length total (R57, R76, R89), and a FINAL_LENGTH input
is on exactly while its lane swims the last length of an event of 8 or more (R70). -/
def Obligations.StatesAndSplitsStayInOrder : Prop :=
  (∀ s t : State, Shape s → SplitsInOrder s → RaceAgrees s → step s = .next t → Shape t ∧ SplitsInOrder t ∧ RaceAgrees t)
  ∧ (∀ s t : State, Shape s → SplitsInOrder s → RaceAgrees s → CountsRight s → step s = .next t → CountsRight t)

/-- Every step keeps the places and the ranking table as the results give them: a lane has a place exactly while it is
FINISHED or REVIEW with a result and no DQ mark (R108, R109); and the lag sample list at one entry or none for each lane, of a
lane that has been resolved, no greater than the disagreement limit (R84). -/
def Obligations.RankingFollowsTheResults : Prop :=
  (∀ s t : State, RaceAgrees s → PlacesRight s → RankingRight s → step s = .next t → PlacesRight t ∧ RankingRight t)
  ∧ (∀ s t : State, RaceAgrees s → LagsRight s → step s = .next t → LagsRight t)

/-- Every step keeps the dirty row queue free of repetitions, the balance between −8 and +8, and the board silent, with no stop
pending, while the unit does not own it (R133, R135, R136, R148, R152). -/
def Obligations.BoardStaysInBounds : Prop :=
  ∀ s t : State, BoardInv s → step s = .next t → BoardInv t

/-- Every step keeps the bounds of the receive buffer, the notice queue and the alarm list, and a pending watch's snapshot
equal to the vector (R168, R170, R171, R176). -/
def Obligations.LinkStaysInBounds : Prop :=
  (∀ s t : State, LinkInv s → step s = .next t → LinkInv t)
  ∧ (∀ s t : State, WatchCurrent s → step s = .next t → WatchCurrent t)

/-- Every step keeps the timed evidence of every lane a minimum length time apart for each length (R60). -/
def Obligations.TimedEvidenceKeepsItsDistance : Prop :=
  ∀ s t : State, RaceAgrees s → SplitsInOrder s → LanesSpaced s → step s = .next t → LanesSpaced t
end

