-- ==== Sys2Proof/Laws/State.lean ====
section
/-!
SUPPORT. The small lemmas of the state's updates: for each update, what it leaves in every field, true by computation. Later
proofs cite these and unfold no update.
-/
namespace Sys2Proof.Machine

/-! ### updLine -/

@[simp] theorem updLine_pending (n : Nat) (f : Line → Line) (s : State) : (s.updLine n f).pending = s.pending := rfl
@[simp] theorem updLine_pinFeed (n : Nat) (f : Line → Line) (s : State) : (s.updLine n f).pinFeed = s.pinFeed := rfl
@[simp] theorem updLine_due (n : Nat) (f : Line → Line) (s : State) : (s.updLine n f).due = s.due := rfl
@[simp] theorem updLine_shareDue (n : Nat) (f : Line → Line) (s : State) : (s.updLine n f).shareDue = s.shareDue := rfl
@[simp] theorem updLine_picks (n : Nat) (f : Line → Line) (s : State) : (s.updLine n f).picks = s.picks := rfl
@[simp] theorem updLine_tick (n : Nat) (f : Line → Line) (s : State) : (s.updLine n f).tick = s.tick := rfl
@[simp] theorem updLine_pins (n : Nat) (f : Line → Line) (s : State) : (s.updLine n f).pins = s.pins := rfl
@[simp] theorem updLine_flagBefore (n : Nat) (f : Line → Line) (s : State) : (s.updLine n f).flagBefore = s.flagBefore := rfl
@[simp] theorem updLine_options (n : Nat) (f : Line → Line) (s : State) : (s.updLine n f).options = s.options := rfl
@[simp] theorem updLine_tested (n : Nat) (f : Line → Line) (s : State) : (s.updLine n f).tested = s.tested := rfl
@[simp] theorem updLine_reloads (n : Nat) (f : Line → Line) (s : State) : (s.updLine n f).reloads = s.reloads := rfl
@[simp] theorem updLine_lines (n : Nat) (f : Line → Line) (s : State) : (s.updLine n f).lines = s.lines.modify n f := rfl
@[simp] theorem updLine_race (n : Nat) (f : Line → Line) (s : State) : (s.updLine n f).race = s.race := rfl
@[simp] theorem updLine_lanes (n : Nat) (f : Line → Line) (s : State) : (s.updLine n f).lanes = s.lanes := rfl
@[simp] theorem updLine_board (n : Nat) (f : Line → Line) (s : State) : (s.updLine n f).board = s.board := rfl
@[simp] theorem updLine_share (n : Nat) (f : Line → Line) (s : State) : (s.updLine n f).share = s.share := rfl
@[simp] theorem updLine_lamps (n : Nat) (f : Line → Line) (s : State) : (s.updLine n f).lamps = s.lamps := rfl
@[simp] theorem updLine_link (n : Nat) (f : Line → Line) (s : State) : (s.updLine n f).link = s.link := rfl

/-! ### updLane -/

@[simp] theorem updLane_pending (n : Nat) (f : Lane → Lane) (s : State) : (s.updLane n f).pending = s.pending := rfl
@[simp] theorem updLane_pinFeed (n : Nat) (f : Lane → Lane) (s : State) : (s.updLane n f).pinFeed = s.pinFeed := rfl
@[simp] theorem updLane_due (n : Nat) (f : Lane → Lane) (s : State) : (s.updLane n f).due = s.due := rfl
@[simp] theorem updLane_shareDue (n : Nat) (f : Lane → Lane) (s : State) : (s.updLane n f).shareDue = s.shareDue := rfl
@[simp] theorem updLane_picks (n : Nat) (f : Lane → Lane) (s : State) : (s.updLane n f).picks = s.picks := rfl
@[simp] theorem updLane_tick (n : Nat) (f : Lane → Lane) (s : State) : (s.updLane n f).tick = s.tick := rfl
@[simp] theorem updLane_pins (n : Nat) (f : Lane → Lane) (s : State) : (s.updLane n f).pins = s.pins := rfl
@[simp] theorem updLane_flagBefore (n : Nat) (f : Lane → Lane) (s : State) : (s.updLane n f).flagBefore = s.flagBefore := rfl
@[simp] theorem updLane_options (n : Nat) (f : Lane → Lane) (s : State) : (s.updLane n f).options = s.options := rfl
@[simp] theorem updLane_tested (n : Nat) (f : Lane → Lane) (s : State) : (s.updLane n f).tested = s.tested := rfl
@[simp] theorem updLane_reloads (n : Nat) (f : Lane → Lane) (s : State) : (s.updLane n f).reloads = s.reloads := rfl
@[simp] theorem updLane_lines (n : Nat) (f : Lane → Lane) (s : State) : (s.updLane n f).lines = s.lines := rfl
@[simp] theorem updLane_race (n : Nat) (f : Lane → Lane) (s : State) : (s.updLane n f).race = s.race := rfl
@[simp] theorem updLane_lanes (n : Nat) (f : Lane → Lane) (s : State) : (s.updLane n f).lanes = s.lanes.modify n f := rfl
@[simp] theorem updLane_board (n : Nat) (f : Lane → Lane) (s : State) : (s.updLane n f).board = s.board := rfl
@[simp] theorem updLane_share (n : Nat) (f : Lane → Lane) (s : State) : (s.updLane n f).share = s.share := rfl
@[simp] theorem updLane_lamps (n : Nat) (f : Lane → Lane) (s : State) : (s.updLane n f).lamps = s.lamps := rfl
@[simp] theorem updLane_link (n : Nat) (f : Lane → Lane) (s : State) : (s.updLane n f).link = s.link := rfl

/-! ### setHold -/

@[simp] theorem setHold_pending (n : Nat) (h : Option Timer) (s : State) : (s.setHold n h).pending = s.pending := rfl
@[simp] theorem setHold_pinFeed (n : Nat) (h : Option Timer) (s : State) : (s.setHold n h).pinFeed = s.pinFeed := rfl
@[simp] theorem setHold_due (n : Nat) (h : Option Timer) (s : State) : (s.setHold n h).due = s.due := rfl
@[simp] theorem setHold_shareDue (n : Nat) (h : Option Timer) (s : State) : (s.setHold n h).shareDue = s.shareDue := rfl
@[simp] theorem setHold_picks (n : Nat) (h : Option Timer) (s : State) : (s.setHold n h).picks = s.picks := rfl
@[simp] theorem setHold_tick (n : Nat) (h : Option Timer) (s : State) : (s.setHold n h).tick = s.tick := rfl
@[simp] theorem setHold_pins (n : Nat) (h : Option Timer) (s : State) : (s.setHold n h).pins = s.pins := rfl
@[simp] theorem setHold_flagBefore (n : Nat) (h : Option Timer) (s : State) : (s.setHold n h).flagBefore = s.flagBefore := rfl
@[simp] theorem setHold_options (n : Nat) (h : Option Timer) (s : State) : (s.setHold n h).options = s.options := rfl
@[simp] theorem setHold_tested (n : Nat) (h : Option Timer) (s : State) : (s.setHold n h).tested = s.tested := rfl
@[simp] theorem setHold_reloads (n : Nat) (h : Option Timer) (s : State) : (s.setHold n h).reloads = s.reloads := rfl
@[simp] theorem setHold_lines (n : Nat) (h : Option Timer) (s : State) : (s.setHold n h).lines = s.lines := rfl
@[simp] theorem setHold_race (n : Nat) (h : Option Timer) (s : State) : (s.setHold n h).race = s.race := rfl
@[simp] theorem setHold_lanes (n : Nat) (h : Option Timer) (s : State) : (s.setHold n h).lanes = s.lanes := rfl
@[simp] theorem setHold_share (n : Nat) (h : Option Timer) (s : State) : (s.setHold n h).share = s.share := rfl
@[simp] theorem setHold_lamps (n : Nat) (h : Option Timer) (s : State) : (s.setHold n h).lamps = s.lamps := rfl
@[simp] theorem setHold_link (n : Nat) (h : Option Timer) (s : State) : (s.setHold n h).link = s.link := rfl

/-! ### sampleLine -/

@[simp] theorem sampleLine_pending (n : Nat) (high : Bool) (s : State) : (s.sampleLine n high).pending = s.pending := rfl
@[simp] theorem sampleLine_pinFeed (n : Nat) (high : Bool) (s : State) : (s.sampleLine n high).pinFeed = s.pinFeed := rfl
@[simp] theorem sampleLine_due (n : Nat) (high : Bool) (s : State) : (s.sampleLine n high).due = s.due := rfl
@[simp] theorem sampleLine_shareDue (n : Nat) (high : Bool) (s : State) : (s.sampleLine n high).shareDue = s.shareDue := rfl
@[simp] theorem sampleLine_picks (n : Nat) (high : Bool) (s : State) : (s.sampleLine n high).picks = s.picks := rfl
@[simp] theorem sampleLine_tick (n : Nat) (high : Bool) (s : State) : (s.sampleLine n high).tick = s.tick := rfl
@[simp] theorem sampleLine_flagBefore (n : Nat) (high : Bool) (s : State) : (s.sampleLine n high).flagBefore = s.flagBefore := rfl
@[simp] theorem sampleLine_options (n : Nat) (high : Bool) (s : State) : (s.sampleLine n high).options = s.options := rfl
@[simp] theorem sampleLine_tested (n : Nat) (high : Bool) (s : State) : (s.sampleLine n high).tested = s.tested := rfl
@[simp] theorem sampleLine_reloads (n : Nat) (high : Bool) (s : State) : (s.sampleLine n high).reloads = s.reloads := rfl
@[simp] theorem sampleLine_lines (n : Nat) (high : Bool) (s : State) : (s.sampleLine n high).lines = s.lines := rfl
@[simp] theorem sampleLine_race (n : Nat) (high : Bool) (s : State) : (s.sampleLine n high).race = s.race := rfl
@[simp] theorem sampleLine_lanes (n : Nat) (high : Bool) (s : State) : (s.sampleLine n high).lanes = s.lanes := rfl
@[simp] theorem sampleLine_board (n : Nat) (high : Bool) (s : State) : (s.sampleLine n high).board = s.board := rfl
@[simp] theorem sampleLine_share (n : Nat) (high : Bool) (s : State) : (s.sampleLine n high).share = s.share := rfl
@[simp] theorem sampleLine_lamps (n : Nat) (high : Bool) (s : State) : (s.sampleLine n high).lamps = s.lamps := rfl
@[simp] theorem sampleLine_link (n : Nat) (high : Bool) (s : State) : (s.sampleLine n high).link = s.link := rfl

/-! ### sampleFlag -/

@[simp] theorem sampleFlag_pending (high : Bool) (s : State) : (s.sampleFlag high).pending = s.pending := rfl
@[simp] theorem sampleFlag_pinFeed (high : Bool) (s : State) : (s.sampleFlag high).pinFeed = s.pinFeed := rfl
@[simp] theorem sampleFlag_due (high : Bool) (s : State) : (s.sampleFlag high).due = s.due := rfl
@[simp] theorem sampleFlag_shareDue (high : Bool) (s : State) : (s.sampleFlag high).shareDue = s.shareDue := rfl
@[simp] theorem sampleFlag_picks (high : Bool) (s : State) : (s.sampleFlag high).picks = s.picks := rfl
@[simp] theorem sampleFlag_tick (high : Bool) (s : State) : (s.sampleFlag high).tick = s.tick := rfl
@[simp] theorem sampleFlag_flagBefore (high : Bool) (s : State) : (s.sampleFlag high).flagBefore = s.flagBefore := rfl
@[simp] theorem sampleFlag_options (high : Bool) (s : State) : (s.sampleFlag high).options = s.options := rfl
@[simp] theorem sampleFlag_tested (high : Bool) (s : State) : (s.sampleFlag high).tested = s.tested := rfl
@[simp] theorem sampleFlag_reloads (high : Bool) (s : State) : (s.sampleFlag high).reloads = s.reloads := rfl
@[simp] theorem sampleFlag_lines (high : Bool) (s : State) : (s.sampleFlag high).lines = s.lines := rfl
@[simp] theorem sampleFlag_race (high : Bool) (s : State) : (s.sampleFlag high).race = s.race := rfl
@[simp] theorem sampleFlag_lanes (high : Bool) (s : State) : (s.sampleFlag high).lanes = s.lanes := rfl
@[simp] theorem sampleFlag_board (high : Bool) (s : State) : (s.sampleFlag high).board = s.board := rfl
@[simp] theorem sampleFlag_share (high : Bool) (s : State) : (s.sampleFlag high).share = s.share := rfl
@[simp] theorem sampleFlag_lamps (high : Bool) (s : State) : (s.sampleFlag high).lamps = s.lamps := rfl
@[simp] theorem sampleFlag_link (high : Bool) (s : State) : (s.sampleFlag high).link = s.link := rfl

/-! ### sampleShare -/

@[simp] theorem sampleShare_pending (v : ShareLevels) (s : State) : (s.sampleShare v).pending = s.pending := rfl
@[simp] theorem sampleShare_pinFeed (v : ShareLevels) (s : State) : (s.sampleShare v).pinFeed = s.pinFeed := rfl
@[simp] theorem sampleShare_due (v : ShareLevels) (s : State) : (s.sampleShare v).due = s.due := rfl
@[simp] theorem sampleShare_shareDue (v : ShareLevels) (s : State) : (s.sampleShare v).shareDue = s.shareDue := rfl
@[simp] theorem sampleShare_picks (v : ShareLevels) (s : State) : (s.sampleShare v).picks = s.picks := rfl
@[simp] theorem sampleShare_tick (v : ShareLevels) (s : State) : (s.sampleShare v).tick = s.tick := rfl
@[simp] theorem sampleShare_flagBefore (v : ShareLevels) (s : State) : (s.sampleShare v).flagBefore = s.flagBefore := rfl
@[simp] theorem sampleShare_options (v : ShareLevels) (s : State) : (s.sampleShare v).options = s.options := rfl
@[simp] theorem sampleShare_tested (v : ShareLevels) (s : State) : (s.sampleShare v).tested = s.tested := rfl
@[simp] theorem sampleShare_reloads (v : ShareLevels) (s : State) : (s.sampleShare v).reloads = s.reloads := rfl
@[simp] theorem sampleShare_lines (v : ShareLevels) (s : State) : (s.sampleShare v).lines = s.lines := rfl
@[simp] theorem sampleShare_race (v : ShareLevels) (s : State) : (s.sampleShare v).race = s.race := rfl
@[simp] theorem sampleShare_lanes (v : ShareLevels) (s : State) : (s.sampleShare v).lanes = s.lanes := rfl
@[simp] theorem sampleShare_board (v : ShareLevels) (s : State) : (s.sampleShare v).board = s.board := rfl
@[simp] theorem sampleShare_lamps (v : ShareLevels) (s : State) : (s.sampleShare v).lamps = s.lamps := rfl
@[simp] theorem sampleShare_link (v : ShareLevels) (s : State) : (s.sampleShare v).link = s.link := rfl

/-! ### markAnyRow -/

@[simp] theorem markAnyRow_pending (r : Nat) (s : State) : (markAnyRow r s).pending = s.pending := rfl
@[simp] theorem markAnyRow_pinFeed (r : Nat) (s : State) : (markAnyRow r s).pinFeed = s.pinFeed := rfl
@[simp] theorem markAnyRow_due (r : Nat) (s : State) : (markAnyRow r s).due = s.due := rfl
@[simp] theorem markAnyRow_shareDue (r : Nat) (s : State) : (markAnyRow r s).shareDue = s.shareDue := rfl
@[simp] theorem markAnyRow_picks (r : Nat) (s : State) : (markAnyRow r s).picks = s.picks := rfl
@[simp] theorem markAnyRow_tick (r : Nat) (s : State) : (markAnyRow r s).tick = s.tick := rfl
@[simp] theorem markAnyRow_pins (r : Nat) (s : State) : (markAnyRow r s).pins = s.pins := rfl
@[simp] theorem markAnyRow_flagBefore (r : Nat) (s : State) : (markAnyRow r s).flagBefore = s.flagBefore := rfl
@[simp] theorem markAnyRow_options (r : Nat) (s : State) : (markAnyRow r s).options = s.options := rfl
@[simp] theorem markAnyRow_tested (r : Nat) (s : State) : (markAnyRow r s).tested = s.tested := rfl
@[simp] theorem markAnyRow_reloads (r : Nat) (s : State) : (markAnyRow r s).reloads = s.reloads := rfl
@[simp] theorem markAnyRow_lines (r : Nat) (s : State) : (markAnyRow r s).lines = s.lines := rfl
@[simp] theorem markAnyRow_race (r : Nat) (s : State) : (markAnyRow r s).race = s.race := rfl
@[simp] theorem markAnyRow_lanes (r : Nat) (s : State) : (markAnyRow r s).lanes = s.lanes := rfl
@[simp] theorem markAnyRow_share (r : Nat) (s : State) : (markAnyRow r s).share = s.share := rfl
@[simp] theorem markAnyRow_lamps (r : Nat) (s : State) : (markAnyRow r s).lamps = s.lamps := rfl
@[simp] theorem markAnyRow_link (r : Nat) (s : State) : (markAnyRow r s).link = s.link := rfl

/-! ### stopHolds -/

@[simp] theorem stopHolds_pending (s : State) : (stopHolds s).pending = s.pending := rfl
@[simp] theorem stopHolds_pinFeed (s : State) : (stopHolds s).pinFeed = s.pinFeed := rfl
@[simp] theorem stopHolds_due (s : State) : (stopHolds s).due = s.due := rfl
@[simp] theorem stopHolds_shareDue (s : State) : (stopHolds s).shareDue = s.shareDue := rfl
@[simp] theorem stopHolds_picks (s : State) : (stopHolds s).picks = s.picks := rfl
@[simp] theorem stopHolds_tick (s : State) : (stopHolds s).tick = s.tick := rfl
@[simp] theorem stopHolds_pins (s : State) : (stopHolds s).pins = s.pins := rfl
@[simp] theorem stopHolds_flagBefore (s : State) : (stopHolds s).flagBefore = s.flagBefore := rfl
@[simp] theorem stopHolds_options (s : State) : (stopHolds s).options = s.options := rfl
@[simp] theorem stopHolds_tested (s : State) : (stopHolds s).tested = s.tested := rfl
@[simp] theorem stopHolds_reloads (s : State) : (stopHolds s).reloads = s.reloads := rfl
@[simp] theorem stopHolds_lines (s : State) : (stopHolds s).lines = s.lines := rfl
@[simp] theorem stopHolds_race (s : State) : (stopHolds s).race = s.race := rfl
@[simp] theorem stopHolds_lanes (s : State) : (stopHolds s).lanes = s.lanes := rfl
@[simp] theorem stopHolds_share (s : State) : (stopHolds s).share = s.share := rfl
@[simp] theorem stopHolds_lamps (s : State) : (stopHolds s).lamps = s.lamps := rfl
@[simp] theorem stopHolds_link (s : State) : (stopHolds s).link = s.link := rfl

/-! ### triggerFlash -/

@[simp] theorem triggerFlash_pending (n : Nat) (s : State) : (triggerFlash n s).pending = s.pending := rfl
@[simp] theorem triggerFlash_pinFeed (n : Nat) (s : State) : (triggerFlash n s).pinFeed = s.pinFeed := rfl
@[simp] theorem triggerFlash_due (n : Nat) (s : State) : (triggerFlash n s).due = s.due := rfl
@[simp] theorem triggerFlash_shareDue (n : Nat) (s : State) : (triggerFlash n s).shareDue = s.shareDue := rfl
@[simp] theorem triggerFlash_picks (n : Nat) (s : State) : (triggerFlash n s).picks = s.picks := rfl
@[simp] theorem triggerFlash_tick (n : Nat) (s : State) : (triggerFlash n s).tick = s.tick := rfl
@[simp] theorem triggerFlash_pins (n : Nat) (s : State) : (triggerFlash n s).pins = s.pins := rfl
@[simp] theorem triggerFlash_flagBefore (n : Nat) (s : State) : (triggerFlash n s).flagBefore = s.flagBefore := rfl
@[simp] theorem triggerFlash_options (n : Nat) (s : State) : (triggerFlash n s).options = s.options := rfl
@[simp] theorem triggerFlash_tested (n : Nat) (s : State) : (triggerFlash n s).tested = s.tested := rfl
@[simp] theorem triggerFlash_reloads (n : Nat) (s : State) : (triggerFlash n s).reloads = s.reloads := rfl
@[simp] theorem triggerFlash_lines (n : Nat) (s : State) : (triggerFlash n s).lines = s.lines := rfl
@[simp] theorem triggerFlash_race (n : Nat) (s : State) : (triggerFlash n s).race = s.race := rfl
@[simp] theorem triggerFlash_lanes (n : Nat) (s : State) : (triggerFlash n s).lanes = s.lanes := rfl
@[simp] theorem triggerFlash_board (n : Nat) (s : State) : (triggerFlash n s).board = s.board := rfl
@[simp] theorem triggerFlash_share (n : Nat) (s : State) : (triggerFlash n s).share = s.share := rfl
@[simp] theorem triggerFlash_link (n : Nat) (s : State) : (triggerFlash n s).link = s.link := rfl

/-! ### triggerAlert -/

@[simp] theorem triggerAlert_pending (n : Nat) (s : State) : (triggerAlert n s).pending = s.pending := rfl
@[simp] theorem triggerAlert_pinFeed (n : Nat) (s : State) : (triggerAlert n s).pinFeed = s.pinFeed := rfl
@[simp] theorem triggerAlert_due (n : Nat) (s : State) : (triggerAlert n s).due = s.due := rfl
@[simp] theorem triggerAlert_shareDue (n : Nat) (s : State) : (triggerAlert n s).shareDue = s.shareDue := rfl
@[simp] theorem triggerAlert_picks (n : Nat) (s : State) : (triggerAlert n s).picks = s.picks := rfl
@[simp] theorem triggerAlert_tick (n : Nat) (s : State) : (triggerAlert n s).tick = s.tick := rfl
@[simp] theorem triggerAlert_pins (n : Nat) (s : State) : (triggerAlert n s).pins = s.pins := rfl
@[simp] theorem triggerAlert_flagBefore (n : Nat) (s : State) : (triggerAlert n s).flagBefore = s.flagBefore := rfl
@[simp] theorem triggerAlert_options (n : Nat) (s : State) : (triggerAlert n s).options = s.options := rfl
@[simp] theorem triggerAlert_tested (n : Nat) (s : State) : (triggerAlert n s).tested = s.tested := rfl
@[simp] theorem triggerAlert_reloads (n : Nat) (s : State) : (triggerAlert n s).reloads = s.reloads := rfl
@[simp] theorem triggerAlert_lines (n : Nat) (s : State) : (triggerAlert n s).lines = s.lines := rfl
@[simp] theorem triggerAlert_race (n : Nat) (s : State) : (triggerAlert n s).race = s.race := rfl
@[simp] theorem triggerAlert_lanes (n : Nat) (s : State) : (triggerAlert n s).lanes = s.lanes := rfl
@[simp] theorem triggerAlert_board (n : Nat) (s : State) : (triggerAlert n s).board = s.board := rfl
@[simp] theorem triggerAlert_share (n : Nat) (s : State) : (triggerAlert n s).share = s.share := rfl
@[simp] theorem triggerAlert_link (n : Nat) (s : State) : (triggerAlert n s).link = s.link := rfl

/-! ### triggerBell -/

@[simp] theorem triggerBell_pending (s : State) : (triggerBell s).pending = s.pending := rfl
@[simp] theorem triggerBell_pinFeed (s : State) : (triggerBell s).pinFeed = s.pinFeed := rfl
@[simp] theorem triggerBell_due (s : State) : (triggerBell s).due = s.due := rfl
@[simp] theorem triggerBell_shareDue (s : State) : (triggerBell s).shareDue = s.shareDue := rfl
@[simp] theorem triggerBell_picks (s : State) : (triggerBell s).picks = s.picks := rfl
@[simp] theorem triggerBell_tick (s : State) : (triggerBell s).tick = s.tick := rfl
@[simp] theorem triggerBell_pins (s : State) : (triggerBell s).pins = s.pins := rfl
@[simp] theorem triggerBell_flagBefore (s : State) : (triggerBell s).flagBefore = s.flagBefore := rfl
@[simp] theorem triggerBell_options (s : State) : (triggerBell s).options = s.options := rfl
@[simp] theorem triggerBell_tested (s : State) : (triggerBell s).tested = s.tested := rfl
@[simp] theorem triggerBell_reloads (s : State) : (triggerBell s).reloads = s.reloads := rfl
@[simp] theorem triggerBell_lines (s : State) : (triggerBell s).lines = s.lines := rfl
@[simp] theorem triggerBell_race (s : State) : (triggerBell s).race = s.race := rfl
@[simp] theorem triggerBell_lanes (s : State) : (triggerBell s).lanes = s.lanes := rfl
@[simp] theorem triggerBell_board (s : State) : (triggerBell s).board = s.board := rfl
@[simp] theorem triggerBell_share (s : State) : (triggerBell s).share = s.share := rfl
@[simp] theorem triggerBell_link (s : State) : (triggerBell s).link = s.link := rfl

/-! ### triggerRecord -/

@[simp] theorem triggerRecord_pending (s : State) : (triggerRecord s).pending = s.pending := rfl
@[simp] theorem triggerRecord_pinFeed (s : State) : (triggerRecord s).pinFeed = s.pinFeed := rfl
@[simp] theorem triggerRecord_due (s : State) : (triggerRecord s).due = s.due := rfl
@[simp] theorem triggerRecord_shareDue (s : State) : (triggerRecord s).shareDue = s.shareDue := rfl
@[simp] theorem triggerRecord_picks (s : State) : (triggerRecord s).picks = s.picks := rfl
@[simp] theorem triggerRecord_tick (s : State) : (triggerRecord s).tick = s.tick := rfl
@[simp] theorem triggerRecord_pins (s : State) : (triggerRecord s).pins = s.pins := rfl
@[simp] theorem triggerRecord_flagBefore (s : State) : (triggerRecord s).flagBefore = s.flagBefore := rfl
@[simp] theorem triggerRecord_options (s : State) : (triggerRecord s).options = s.options := rfl
@[simp] theorem triggerRecord_tested (s : State) : (triggerRecord s).tested = s.tested := rfl
@[simp] theorem triggerRecord_reloads (s : State) : (triggerRecord s).reloads = s.reloads := rfl
@[simp] theorem triggerRecord_lines (s : State) : (triggerRecord s).lines = s.lines := rfl
@[simp] theorem triggerRecord_race (s : State) : (triggerRecord s).race = s.race := rfl
@[simp] theorem triggerRecord_lanes (s : State) : (triggerRecord s).lanes = s.lanes := rfl
@[simp] theorem triggerRecord_board (s : State) : (triggerRecord s).board = s.board := rfl
@[simp] theorem triggerRecord_share (s : State) : (triggerRecord s).share = s.share := rfl
@[simp] theorem triggerRecord_link (s : State) : (triggerRecord s).link = s.link := rfl

/-! ### setFinalInput -/

@[simp] theorem setFinalInput_pending (n : Nat) (on : Bool) (s : State) : (setFinalInput n on s).pending = s.pending := rfl
@[simp] theorem setFinalInput_pinFeed (n : Nat) (on : Bool) (s : State) : (setFinalInput n on s).pinFeed = s.pinFeed := rfl
@[simp] theorem setFinalInput_due (n : Nat) (on : Bool) (s : State) : (setFinalInput n on s).due = s.due := rfl
@[simp] theorem setFinalInput_shareDue (n : Nat) (on : Bool) (s : State) : (setFinalInput n on s).shareDue = s.shareDue := rfl
@[simp] theorem setFinalInput_picks (n : Nat) (on : Bool) (s : State) : (setFinalInput n on s).picks = s.picks := rfl
@[simp] theorem setFinalInput_tick (n : Nat) (on : Bool) (s : State) : (setFinalInput n on s).tick = s.tick := rfl
@[simp] theorem setFinalInput_pins (n : Nat) (on : Bool) (s : State) : (setFinalInput n on s).pins = s.pins := rfl
@[simp] theorem setFinalInput_flagBefore (n : Nat) (on : Bool) (s : State) : (setFinalInput n on s).flagBefore = s.flagBefore := rfl
@[simp] theorem setFinalInput_options (n : Nat) (on : Bool) (s : State) : (setFinalInput n on s).options = s.options := rfl
@[simp] theorem setFinalInput_tested (n : Nat) (on : Bool) (s : State) : (setFinalInput n on s).tested = s.tested := rfl
@[simp] theorem setFinalInput_reloads (n : Nat) (on : Bool) (s : State) : (setFinalInput n on s).reloads = s.reloads := rfl
@[simp] theorem setFinalInput_lines (n : Nat) (on : Bool) (s : State) : (setFinalInput n on s).lines = s.lines := rfl
@[simp] theorem setFinalInput_race (n : Nat) (on : Bool) (s : State) : (setFinalInput n on s).race = s.race := rfl
@[simp] theorem setFinalInput_lanes (n : Nat) (on : Bool) (s : State) : (setFinalInput n on s).lanes = s.lanes := rfl
@[simp] theorem setFinalInput_board (n : Nat) (on : Bool) (s : State) : (setFinalInput n on s).board = s.board := rfl
@[simp] theorem setFinalInput_share (n : Nat) (on : Bool) (s : State) : (setFinalInput n on s).share = s.share := rfl
@[simp] theorem setFinalInput_link (n : Nat) (on : Bool) (s : State) : (setFinalInput n on s).link = s.link := rfl

/-! ### stopLaneLamps -/

@[simp] theorem stopLaneLamps_pending (s : State) : (stopLaneLamps s).pending = s.pending := rfl
@[simp] theorem stopLaneLamps_pinFeed (s : State) : (stopLaneLamps s).pinFeed = s.pinFeed := rfl
@[simp] theorem stopLaneLamps_due (s : State) : (stopLaneLamps s).due = s.due := rfl
@[simp] theorem stopLaneLamps_shareDue (s : State) : (stopLaneLamps s).shareDue = s.shareDue := rfl
@[simp] theorem stopLaneLamps_picks (s : State) : (stopLaneLamps s).picks = s.picks := rfl
@[simp] theorem stopLaneLamps_tick (s : State) : (stopLaneLamps s).tick = s.tick := rfl
@[simp] theorem stopLaneLamps_pins (s : State) : (stopLaneLamps s).pins = s.pins := rfl
@[simp] theorem stopLaneLamps_flagBefore (s : State) : (stopLaneLamps s).flagBefore = s.flagBefore := rfl
@[simp] theorem stopLaneLamps_options (s : State) : (stopLaneLamps s).options = s.options := rfl
@[simp] theorem stopLaneLamps_tested (s : State) : (stopLaneLamps s).tested = s.tested := rfl
@[simp] theorem stopLaneLamps_reloads (s : State) : (stopLaneLamps s).reloads = s.reloads := rfl
@[simp] theorem stopLaneLamps_lines (s : State) : (stopLaneLamps s).lines = s.lines := rfl
@[simp] theorem stopLaneLamps_race (s : State) : (stopLaneLamps s).race = s.race := rfl
@[simp] theorem stopLaneLamps_lanes (s : State) : (stopLaneLamps s).lanes = s.lanes := rfl
@[simp] theorem stopLaneLamps_board (s : State) : (stopLaneLamps s).board = s.board := rfl
@[simp] theorem stopLaneLamps_share (s : State) : (stopLaneLamps s).share = s.share := rfl
@[simp] theorem stopLaneLamps_link (s : State) : (stopLaneLamps s).link = s.link := rfl

/-! ### stopAllLamps -/

@[simp] theorem stopAllLamps_pending (s : State) : (stopAllLamps s).pending = s.pending := rfl
@[simp] theorem stopAllLamps_pinFeed (s : State) : (stopAllLamps s).pinFeed = s.pinFeed := rfl
@[simp] theorem stopAllLamps_due (s : State) : (stopAllLamps s).due = s.due := rfl
@[simp] theorem stopAllLamps_shareDue (s : State) : (stopAllLamps s).shareDue = s.shareDue := rfl
@[simp] theorem stopAllLamps_picks (s : State) : (stopAllLamps s).picks = s.picks := rfl
@[simp] theorem stopAllLamps_tick (s : State) : (stopAllLamps s).tick = s.tick := rfl
@[simp] theorem stopAllLamps_pins (s : State) : (stopAllLamps s).pins = s.pins := rfl
@[simp] theorem stopAllLamps_flagBefore (s : State) : (stopAllLamps s).flagBefore = s.flagBefore := rfl
@[simp] theorem stopAllLamps_options (s : State) : (stopAllLamps s).options = s.options := rfl
@[simp] theorem stopAllLamps_tested (s : State) : (stopAllLamps s).tested = s.tested := rfl
@[simp] theorem stopAllLamps_reloads (s : State) : (stopAllLamps s).reloads = s.reloads := rfl
@[simp] theorem stopAllLamps_lines (s : State) : (stopAllLamps s).lines = s.lines := rfl
@[simp] theorem stopAllLamps_race (s : State) : (stopAllLamps s).race = s.race := rfl
@[simp] theorem stopAllLamps_lanes (s : State) : (stopAllLamps s).lanes = s.lanes := rfl
@[simp] theorem stopAllLamps_board (s : State) : (stopAllLamps s).board = s.board := rfl
@[simp] theorem stopAllLamps_share (s : State) : (stopAllLamps s).share = s.share := rfl
@[simp] theorem stopAllLamps_link (s : State) : (stopAllLamps s).link = s.link := rfl

/-! ### answerWatch -/

@[simp] theorem answerWatch_pending (w : Watch) (c : ReplyCode) (x : List Byte) (s : State) : (answerWatch w c x s).pending = s.pending := rfl
@[simp] theorem answerWatch_pinFeed (w : Watch) (c : ReplyCode) (x : List Byte) (s : State) : (answerWatch w c x s).pinFeed = s.pinFeed := rfl
@[simp] theorem answerWatch_due (w : Watch) (c : ReplyCode) (x : List Byte) (s : State) : (answerWatch w c x s).due = s.due := rfl
@[simp] theorem answerWatch_shareDue (w : Watch) (c : ReplyCode) (x : List Byte) (s : State) : (answerWatch w c x s).shareDue = s.shareDue := rfl
@[simp] theorem answerWatch_picks (w : Watch) (c : ReplyCode) (x : List Byte) (s : State) : (answerWatch w c x s).picks = s.picks := rfl
@[simp] theorem answerWatch_tick (w : Watch) (c : ReplyCode) (x : List Byte) (s : State) : (answerWatch w c x s).tick = s.tick := rfl
@[simp] theorem answerWatch_pins (w : Watch) (c : ReplyCode) (x : List Byte) (s : State) : (answerWatch w c x s).pins = s.pins := rfl
@[simp] theorem answerWatch_flagBefore (w : Watch) (c : ReplyCode) (x : List Byte) (s : State) : (answerWatch w c x s).flagBefore = s.flagBefore := rfl
@[simp] theorem answerWatch_options (w : Watch) (c : ReplyCode) (x : List Byte) (s : State) : (answerWatch w c x s).options = s.options := rfl
@[simp] theorem answerWatch_tested (w : Watch) (c : ReplyCode) (x : List Byte) (s : State) : (answerWatch w c x s).tested = s.tested := rfl
@[simp] theorem answerWatch_reloads (w : Watch) (c : ReplyCode) (x : List Byte) (s : State) : (answerWatch w c x s).reloads = s.reloads := rfl
@[simp] theorem answerWatch_lines (w : Watch) (c : ReplyCode) (x : List Byte) (s : State) : (answerWatch w c x s).lines = s.lines := rfl
@[simp] theorem answerWatch_race (w : Watch) (c : ReplyCode) (x : List Byte) (s : State) : (answerWatch w c x s).race = s.race := rfl
@[simp] theorem answerWatch_lanes (w : Watch) (c : ReplyCode) (x : List Byte) (s : State) : (answerWatch w c x s).lanes = s.lanes := rfl
@[simp] theorem answerWatch_board (w : Watch) (c : ReplyCode) (x : List Byte) (s : State) : (answerWatch w c x s).board = s.board := rfl
@[simp] theorem answerWatch_share (w : Watch) (c : ReplyCode) (x : List Byte) (s : State) : (answerWatch w c x s).share = s.share := rfl
@[simp] theorem answerWatch_lamps (w : Watch) (c : ReplyCode) (x : List Byte) (s : State) : (answerWatch w c x s).lamps = s.lamps := rfl

/-! ### putReply -/

@[simp] theorem putReply_pending (f : Frame) (c : ReplyCode) (x : List Byte) (s : State) : (putReply f c x s).pending = s.pending := rfl
@[simp] theorem putReply_pinFeed (f : Frame) (c : ReplyCode) (x : List Byte) (s : State) : (putReply f c x s).pinFeed = s.pinFeed := rfl
@[simp] theorem putReply_due (f : Frame) (c : ReplyCode) (x : List Byte) (s : State) : (putReply f c x s).due = s.due := rfl
@[simp] theorem putReply_shareDue (f : Frame) (c : ReplyCode) (x : List Byte) (s : State) : (putReply f c x s).shareDue = s.shareDue := rfl
@[simp] theorem putReply_picks (f : Frame) (c : ReplyCode) (x : List Byte) (s : State) : (putReply f c x s).picks = s.picks := rfl
@[simp] theorem putReply_tick (f : Frame) (c : ReplyCode) (x : List Byte) (s : State) : (putReply f c x s).tick = s.tick := rfl
@[simp] theorem putReply_pins (f : Frame) (c : ReplyCode) (x : List Byte) (s : State) : (putReply f c x s).pins = s.pins := rfl
@[simp] theorem putReply_flagBefore (f : Frame) (c : ReplyCode) (x : List Byte) (s : State) : (putReply f c x s).flagBefore = s.flagBefore := rfl
@[simp] theorem putReply_options (f : Frame) (c : ReplyCode) (x : List Byte) (s : State) : (putReply f c x s).options = s.options := rfl
@[simp] theorem putReply_tested (f : Frame) (c : ReplyCode) (x : List Byte) (s : State) : (putReply f c x s).tested = s.tested := rfl
@[simp] theorem putReply_reloads (f : Frame) (c : ReplyCode) (x : List Byte) (s : State) : (putReply f c x s).reloads = s.reloads := rfl
@[simp] theorem putReply_lines (f : Frame) (c : ReplyCode) (x : List Byte) (s : State) : (putReply f c x s).lines = s.lines := rfl
@[simp] theorem putReply_race (f : Frame) (c : ReplyCode) (x : List Byte) (s : State) : (putReply f c x s).race = s.race := rfl
@[simp] theorem putReply_lanes (f : Frame) (c : ReplyCode) (x : List Byte) (s : State) : (putReply f c x s).lanes = s.lanes := rfl
@[simp] theorem putReply_board (f : Frame) (c : ReplyCode) (x : List Byte) (s : State) : (putReply f c x s).board = s.board := rfl
@[simp] theorem putReply_share (f : Frame) (c : ReplyCode) (x : List Byte) (s : State) : (putReply f c x s).share = s.share := rfl
@[simp] theorem putReply_lamps (f : Frame) (c : ReplyCode) (x : List Byte) (s : State) : (putReply f c x s).lamps = s.lamps := rfl

/-! ### popRequest -/

@[simp] theorem popRequest_pending (s : State) : (popRequest s).pending = s.pending := rfl
@[simp] theorem popRequest_pinFeed (s : State) : (popRequest s).pinFeed = s.pinFeed := rfl
@[simp] theorem popRequest_due (s : State) : (popRequest s).due = s.due := rfl
@[simp] theorem popRequest_shareDue (s : State) : (popRequest s).shareDue = s.shareDue := rfl
@[simp] theorem popRequest_picks (s : State) : (popRequest s).picks = s.picks := rfl
@[simp] theorem popRequest_tick (s : State) : (popRequest s).tick = s.tick := rfl
@[simp] theorem popRequest_pins (s : State) : (popRequest s).pins = s.pins := rfl
@[simp] theorem popRequest_flagBefore (s : State) : (popRequest s).flagBefore = s.flagBefore := rfl
@[simp] theorem popRequest_options (s : State) : (popRequest s).options = s.options := rfl
@[simp] theorem popRequest_tested (s : State) : (popRequest s).tested = s.tested := rfl
@[simp] theorem popRequest_reloads (s : State) : (popRequest s).reloads = s.reloads := rfl
@[simp] theorem popRequest_lines (s : State) : (popRequest s).lines = s.lines := rfl
@[simp] theorem popRequest_race (s : State) : (popRequest s).race = s.race := rfl
@[simp] theorem popRequest_lanes (s : State) : (popRequest s).lanes = s.lanes := rfl
@[simp] theorem popRequest_board (s : State) : (popRequest s).board = s.board := rfl
@[simp] theorem popRequest_share (s : State) : (popRequest s).share = s.share := rfl
@[simp] theorem popRequest_lamps (s : State) : (popRequest s).lamps = s.lamps := rfl
@[simp] theorem popRequest_link (s : State) : (popRequest s).link = { s.link with buffer := s.link.buffer.tail, requestTaken := true } := rfl

/-! ### setReceiver -/

@[simp] theorem setReceiver_pending (st : RxState) (held : List Byte) (s : State) : (setReceiver st held s).pending = s.pending := rfl
@[simp] theorem setReceiver_pinFeed (st : RxState) (held : List Byte) (s : State) : (setReceiver st held s).pinFeed = s.pinFeed := rfl
@[simp] theorem setReceiver_due (st : RxState) (held : List Byte) (s : State) : (setReceiver st held s).due = s.due := rfl
@[simp] theorem setReceiver_shareDue (st : RxState) (held : List Byte) (s : State) : (setReceiver st held s).shareDue = s.shareDue := rfl
@[simp] theorem setReceiver_picks (st : RxState) (held : List Byte) (s : State) : (setReceiver st held s).picks = s.picks := rfl
@[simp] theorem setReceiver_tick (st : RxState) (held : List Byte) (s : State) : (setReceiver st held s).tick = s.tick := rfl
@[simp] theorem setReceiver_pins (st : RxState) (held : List Byte) (s : State) : (setReceiver st held s).pins = s.pins := rfl
@[simp] theorem setReceiver_flagBefore (st : RxState) (held : List Byte) (s : State) : (setReceiver st held s).flagBefore = s.flagBefore := rfl
@[simp] theorem setReceiver_options (st : RxState) (held : List Byte) (s : State) : (setReceiver st held s).options = s.options := rfl
@[simp] theorem setReceiver_tested (st : RxState) (held : List Byte) (s : State) : (setReceiver st held s).tested = s.tested := rfl
@[simp] theorem setReceiver_reloads (st : RxState) (held : List Byte) (s : State) : (setReceiver st held s).reloads = s.reloads := rfl
@[simp] theorem setReceiver_lines (st : RxState) (held : List Byte) (s : State) : (setReceiver st held s).lines = s.lines := rfl
@[simp] theorem setReceiver_race (st : RxState) (held : List Byte) (s : State) : (setReceiver st held s).race = s.race := rfl
@[simp] theorem setReceiver_lanes (st : RxState) (held : List Byte) (s : State) : (setReceiver st held s).lanes = s.lanes := rfl
@[simp] theorem setReceiver_board (st : RxState) (held : List Byte) (s : State) : (setReceiver st held s).board = s.board := rfl
@[simp] theorem setReceiver_share (st : RxState) (held : List Byte) (s : State) : (setReceiver st held s).share = s.share := rfl
@[simp] theorem setReceiver_lamps (st : RxState) (held : List Byte) (s : State) : (setReceiver st held s).lamps = s.lamps := rfl

/-! ### stampByte -/

@[simp] theorem stampByte_pending (s : State) : (stampByte s).pending = s.pending := rfl
@[simp] theorem stampByte_pinFeed (s : State) : (stampByte s).pinFeed = s.pinFeed := rfl
@[simp] theorem stampByte_due (s : State) : (stampByte s).due = s.due := rfl
@[simp] theorem stampByte_shareDue (s : State) : (stampByte s).shareDue = s.shareDue := rfl
@[simp] theorem stampByte_picks (s : State) : (stampByte s).picks = s.picks := rfl
@[simp] theorem stampByte_tick (s : State) : (stampByte s).tick = s.tick := rfl
@[simp] theorem stampByte_pins (s : State) : (stampByte s).pins = s.pins := rfl
@[simp] theorem stampByte_flagBefore (s : State) : (stampByte s).flagBefore = s.flagBefore := rfl
@[simp] theorem stampByte_options (s : State) : (stampByte s).options = s.options := rfl
@[simp] theorem stampByte_tested (s : State) : (stampByte s).tested = s.tested := rfl
@[simp] theorem stampByte_reloads (s : State) : (stampByte s).reloads = s.reloads := rfl
@[simp] theorem stampByte_lines (s : State) : (stampByte s).lines = s.lines := rfl
@[simp] theorem stampByte_race (s : State) : (stampByte s).race = s.race := rfl
@[simp] theorem stampByte_lanes (s : State) : (stampByte s).lanes = s.lanes := rfl
@[simp] theorem stampByte_board (s : State) : (stampByte s).board = s.board := rfl
@[simp] theorem stampByte_share (s : State) : (stampByte s).share = s.share := rfl
@[simp] theorem stampByte_lamps (s : State) : (stampByte s).lamps = s.lamps := rfl

/-! ### driveByte -/

@[simp] theorem driveByte_pending (b : Byte) (s : State) : (driveByte b s).pending = s.pending := rfl
@[simp] theorem driveByte_pinFeed (b : Byte) (s : State) : (driveByte b s).pinFeed = s.pinFeed := rfl
@[simp] theorem driveByte_due (b : Byte) (s : State) : (driveByte b s).due = s.due := rfl
@[simp] theorem driveByte_shareDue (b : Byte) (s : State) : (driveByte b s).shareDue = s.shareDue := rfl
@[simp] theorem driveByte_picks (b : Byte) (s : State) : (driveByte b s).picks = s.picks := rfl
@[simp] theorem driveByte_tick (b : Byte) (s : State) : (driveByte b s).tick = s.tick := rfl
@[simp] theorem driveByte_pins (b : Byte) (s : State) : (driveByte b s).pins = s.pins := rfl
@[simp] theorem driveByte_flagBefore (b : Byte) (s : State) : (driveByte b s).flagBefore = s.flagBefore := rfl
@[simp] theorem driveByte_options (b : Byte) (s : State) : (driveByte b s).options = s.options := rfl
@[simp] theorem driveByte_tested (b : Byte) (s : State) : (driveByte b s).tested = s.tested := rfl
@[simp] theorem driveByte_reloads (b : Byte) (s : State) : (driveByte b s).reloads = s.reloads := rfl
@[simp] theorem driveByte_lines (b : Byte) (s : State) : (driveByte b s).lines = s.lines := rfl
@[simp] theorem driveByte_race (b : Byte) (s : State) : (driveByte b s).race = s.race := rfl
@[simp] theorem driveByte_lanes (b : Byte) (s : State) : (driveByte b s).lanes = s.lanes := rfl
@[simp] theorem driveByte_share (b : Byte) (s : State) : (driveByte b s).share = s.share := rfl
@[simp] theorem driveByte_lamps (b : Byte) (s : State) : (driveByte b s).lamps = s.lamps := rfl
@[simp] theorem driveByte_link (b : Byte) (s : State) : (driveByte b s).link = s.link := rfl

/-! ### driveStb -/

@[simp] theorem driveStb_pending (level : Bool) (s : State) : (driveStb level s).pending = s.pending := rfl
@[simp] theorem driveStb_pinFeed (level : Bool) (s : State) : (driveStb level s).pinFeed = s.pinFeed := rfl
@[simp] theorem driveStb_due (level : Bool) (s : State) : (driveStb level s).due = s.due := rfl
@[simp] theorem driveStb_shareDue (level : Bool) (s : State) : (driveStb level s).shareDue = s.shareDue := rfl
@[simp] theorem driveStb_picks (level : Bool) (s : State) : (driveStb level s).picks = s.picks := rfl
@[simp] theorem driveStb_tick (level : Bool) (s : State) : (driveStb level s).tick = s.tick := rfl
@[simp] theorem driveStb_pins (level : Bool) (s : State) : (driveStb level s).pins = s.pins := rfl
@[simp] theorem driveStb_flagBefore (level : Bool) (s : State) : (driveStb level s).flagBefore = s.flagBefore := rfl
@[simp] theorem driveStb_options (level : Bool) (s : State) : (driveStb level s).options = s.options := rfl
@[simp] theorem driveStb_tested (level : Bool) (s : State) : (driveStb level s).tested = s.tested := rfl
@[simp] theorem driveStb_reloads (level : Bool) (s : State) : (driveStb level s).reloads = s.reloads := rfl
@[simp] theorem driveStb_lines (level : Bool) (s : State) : (driveStb level s).lines = s.lines := rfl
@[simp] theorem driveStb_race (level : Bool) (s : State) : (driveStb level s).race = s.race := rfl
@[simp] theorem driveStb_lanes (level : Bool) (s : State) : (driveStb level s).lanes = s.lanes := rfl
@[simp] theorem driveStb_share (level : Bool) (s : State) : (driveStb level s).share = s.share := rfl
@[simp] theorem driveStb_lamps (level : Bool) (s : State) : (driveStb level s).lamps = s.lamps := rfl
@[simp] theorem driveStb_link (level : Bool) (s : State) : (driveStb level s).link = s.link := rfl

/-! ### enterPhase -/

@[simp] theorem enterPhase_pending (p : BytePhase) (x : Sending) (s : State) : (enterPhase p x s).pending = s.pending := rfl
@[simp] theorem enterPhase_pinFeed (p : BytePhase) (x : Sending) (s : State) : (enterPhase p x s).pinFeed = s.pinFeed := rfl
@[simp] theorem enterPhase_due (p : BytePhase) (x : Sending) (s : State) : (enterPhase p x s).due = s.due := rfl
@[simp] theorem enterPhase_shareDue (p : BytePhase) (x : Sending) (s : State) : (enterPhase p x s).shareDue = s.shareDue := rfl
@[simp] theorem enterPhase_picks (p : BytePhase) (x : Sending) (s : State) : (enterPhase p x s).picks = s.picks := rfl
@[simp] theorem enterPhase_tick (p : BytePhase) (x : Sending) (s : State) : (enterPhase p x s).tick = s.tick := rfl
@[simp] theorem enterPhase_pins (p : BytePhase) (x : Sending) (s : State) : (enterPhase p x s).pins = s.pins := rfl
@[simp] theorem enterPhase_flagBefore (p : BytePhase) (x : Sending) (s : State) : (enterPhase p x s).flagBefore = s.flagBefore := rfl
@[simp] theorem enterPhase_options (p : BytePhase) (x : Sending) (s : State) : (enterPhase p x s).options = s.options := rfl
@[simp] theorem enterPhase_tested (p : BytePhase) (x : Sending) (s : State) : (enterPhase p x s).tested = s.tested := rfl
@[simp] theorem enterPhase_reloads (p : BytePhase) (x : Sending) (s : State) : (enterPhase p x s).reloads = s.reloads := rfl
@[simp] theorem enterPhase_lines (p : BytePhase) (x : Sending) (s : State) : (enterPhase p x s).lines = s.lines := rfl
@[simp] theorem enterPhase_race (p : BytePhase) (x : Sending) (s : State) : (enterPhase p x s).race = s.race := rfl
@[simp] theorem enterPhase_lanes (p : BytePhase) (x : Sending) (s : State) : (enterPhase p x s).lanes = s.lanes := rfl
@[simp] theorem enterPhase_share (p : BytePhase) (x : Sending) (s : State) : (enterPhase p x s).share = s.share := rfl
@[simp] theorem enterPhase_lamps (p : BytePhase) (x : Sending) (s : State) : (enterPhase p x s).lamps = s.lamps := rfl
@[simp] theorem enterPhase_link (p : BytePhase) (x : Sending) (s : State) : (enterPhase p x s).link = s.link := rfl

/-! ### beginClaim -/

@[simp] theorem beginClaim_pending (s : State) : (beginClaim s).pending = s.pending := rfl
@[simp] theorem beginClaim_pinFeed (s : State) : (beginClaim s).pinFeed = s.pinFeed := rfl
@[simp] theorem beginClaim_due (s : State) : (beginClaim s).due = s.due := rfl
@[simp] theorem beginClaim_shareDue (s : State) : (beginClaim s).shareDue = s.shareDue := rfl
@[simp] theorem beginClaim_picks (s : State) : (beginClaim s).picks = s.picks := rfl
@[simp] theorem beginClaim_tick (s : State) : (beginClaim s).tick = s.tick := rfl
@[simp] theorem beginClaim_pins (s : State) : (beginClaim s).pins = s.pins := rfl
@[simp] theorem beginClaim_flagBefore (s : State) : (beginClaim s).flagBefore = s.flagBefore := rfl
@[simp] theorem beginClaim_options (s : State) : (beginClaim s).options = s.options := rfl
@[simp] theorem beginClaim_tested (s : State) : (beginClaim s).tested = s.tested := rfl
@[simp] theorem beginClaim_reloads (s : State) : (beginClaim s).reloads = s.reloads := rfl
@[simp] theorem beginClaim_lines (s : State) : (beginClaim s).lines = s.lines := rfl
@[simp] theorem beginClaim_race (s : State) : (beginClaim s).race = s.race := rfl
@[simp] theorem beginClaim_lanes (s : State) : (beginClaim s).lanes = s.lanes := rfl
@[simp] theorem beginClaim_board (s : State) : (beginClaim s).board = s.board := rfl
@[simp] theorem beginClaim_lamps (s : State) : (beginClaim s).lamps = s.lamps := rfl
@[simp] theorem beginClaim_link (s : State) : (beginClaim s).link = s.link := rfl

/-! ### dropAsk -/

@[simp] theorem dropAsk_pending (s : State) : (dropAsk s).pending = s.pending := rfl
@[simp] theorem dropAsk_pinFeed (s : State) : (dropAsk s).pinFeed = s.pinFeed := rfl
@[simp] theorem dropAsk_due (s : State) : (dropAsk s).due = s.due := rfl
@[simp] theorem dropAsk_shareDue (s : State) : (dropAsk s).shareDue = s.shareDue := rfl
@[simp] theorem dropAsk_picks (s : State) : (dropAsk s).picks = s.picks := rfl
@[simp] theorem dropAsk_tick (s : State) : (dropAsk s).tick = s.tick := rfl
@[simp] theorem dropAsk_pins (s : State) : (dropAsk s).pins = s.pins := rfl
@[simp] theorem dropAsk_flagBefore (s : State) : (dropAsk s).flagBefore = s.flagBefore := rfl
@[simp] theorem dropAsk_options (s : State) : (dropAsk s).options = s.options := rfl
@[simp] theorem dropAsk_tested (s : State) : (dropAsk s).tested = s.tested := rfl
@[simp] theorem dropAsk_reloads (s : State) : (dropAsk s).reloads = s.reloads := rfl
@[simp] theorem dropAsk_lines (s : State) : (dropAsk s).lines = s.lines := rfl
@[simp] theorem dropAsk_race (s : State) : (dropAsk s).race = s.race := rfl
@[simp] theorem dropAsk_lanes (s : State) : (dropAsk s).lanes = s.lanes := rfl
@[simp] theorem dropAsk_board (s : State) : (dropAsk s).board = s.board := rfl
@[simp] theorem dropAsk_lamps (s : State) : (dropAsk s).lamps = s.lamps := rfl
@[simp] theorem dropAsk_link (s : State) : (dropAsk s).link = s.link := rfl

/-! ### loseBoard -/

@[simp] theorem loseBoard_pending (s : State) : (loseBoard s).pending = s.pending := rfl
@[simp] theorem loseBoard_pinFeed (s : State) : (loseBoard s).pinFeed = s.pinFeed := rfl
@[simp] theorem loseBoard_due (s : State) : (loseBoard s).due = s.due := rfl
@[simp] theorem loseBoard_shareDue (s : State) : (loseBoard s).shareDue = s.shareDue := rfl
@[simp] theorem loseBoard_picks (s : State) : (loseBoard s).picks = s.picks := rfl
@[simp] theorem loseBoard_tick (s : State) : (loseBoard s).tick = s.tick := rfl
@[simp] theorem loseBoard_pins (s : State) : (loseBoard s).pins = s.pins := rfl
@[simp] theorem loseBoard_flagBefore (s : State) : (loseBoard s).flagBefore = s.flagBefore := rfl
@[simp] theorem loseBoard_options (s : State) : (loseBoard s).options = s.options := rfl
@[simp] theorem loseBoard_tested (s : State) : (loseBoard s).tested = s.tested := rfl
@[simp] theorem loseBoard_reloads (s : State) : (loseBoard s).reloads = s.reloads := rfl
@[simp] theorem loseBoard_lines (s : State) : (loseBoard s).lines = s.lines := rfl
@[simp] theorem loseBoard_race (s : State) : (loseBoard s).race = s.race := rfl
@[simp] theorem loseBoard_lanes (s : State) : (loseBoard s).lanes = s.lanes := rfl
@[simp] theorem loseBoard_lamps (s : State) : (loseBoard s).lamps = s.lamps := rfl
@[simp] theorem loseBoard_link (s : State) : (loseBoard s).link = s.link := rfl

end Sys2Proof.Machine
end

