-- ==== Sys2Proof/Laws/Ops.lean ====
section
/-!
SUPPORT. What each shared operation leaves alone. `State.outer` forgets the race record, the lanes, the board, the lamps and
the link, the five parts that the Race Engine's operations reach; an operation with `(op s).outer = s.outer` changes nothing
else. The lemmas named after a part say that the operation leaves that part as it is.
-/
namespace Sys2Proof.Machine

/-- The state with the five parts that the Race Engine's operations reach forgotten. -/
def State.outer (s : State) : State :=
  { s with race := Race.cleared, lanes := [], board := Board.powerOn, lamps := Lamps.powerOn,
           link := Link.powerOn Pins.low.straps }

/-- Equal outer parts, field by field. -/
theorem outer_fields {s t : State} (h : t.outer = s.outer) :
    t.pending = s.pending ∧ t.pinFeed = s.pinFeed ∧ t.due = s.due ∧ t.shareDue = s.shareDue ∧ t.picks = s.picks
    ∧ t.tick = s.tick ∧ t.pins = s.pins ∧ t.flagBefore = s.flagBefore ∧ t.options = s.options ∧ t.tested = s.tested
    ∧ t.reloads = s.reloads ∧ t.lines = s.lines ∧ t.share = s.share := by
  simp only [State.outer, State.mk.injEq] at h
  simp_all

theorem outer_tick {s t : State} (h : t.outer = s.outer) : t.tick = s.tick := (outer_fields h).2.2.2.2.2.1

theorem outer_options {s t : State} (h : t.outer = s.outer) : t.options = s.options :=
  (outer_fields h).2.2.2.2.2.2.2.2.1

theorem outer_lines {s t : State} (h : t.outer = s.outer) : t.lines = s.lines :=
  (outer_fields h).2.2.2.2.2.2.2.2.2.2.2.1

theorem outer_share {s t : State} (h : t.outer = s.outer) : t.share = s.share :=
  (outer_fields h).2.2.2.2.2.2.2.2.2.2.2.2

/-- An operation that keeps a part keeps it however often it is done. -/
theorem forEach_keeps {α : Type} (g : State → α) (f : Nat → State → State) (h : ∀ n s, g (f n s) = g s) (ns : List Nat)
    (s : State) : g (forEach ns f s) = g s := by
  induction ns generalizing s with
  | nil => rfl
  | cons n ns ih => exact (ih (f n s)).trans (h n s)

/-! ### The primitive updates -/

@[simp] theorem outer_updLane (n : Nat) (f : Lane → Lane) (s : State) : (s.updLane n f).outer = s.outer := rfl
@[simp] theorem outer_setHold (n : Nat) (h : Option Timer) (s : State) : (s.setHold n h).outer = s.outer := rfl
@[simp] theorem outer_markAnyRow (r : Nat) (s : State) : (markAnyRow r s).outer = s.outer := rfl
@[simp] theorem outer_stopHolds (s : State) : (stopHolds s).outer = s.outer := rfl
@[simp] theorem outer_triggerFlash (n : Nat) (s : State) : (triggerFlash n s).outer = s.outer := rfl
@[simp] theorem outer_triggerAlert (n : Nat) (s : State) : (triggerAlert n s).outer = s.outer := rfl
@[simp] theorem outer_triggerBell (s : State) : (triggerBell s).outer = s.outer := rfl
@[simp] theorem outer_triggerRecord (s : State) : (triggerRecord s).outer = s.outer := rfl
@[simp] theorem outer_setFinalInput (n : Nat) (on : Bool) (s : State) : (setFinalInput n on s).outer = s.outer := rfl
@[simp] theorem outer_stopLaneLamps (s : State) : (stopLaneLamps s).outer = s.outer := rfl
@[simp] theorem outer_stopAllLamps (s : State) : (stopAllLamps s).outer = s.outer := rfl
@[simp] theorem outer_answerWatch (w : Watch) (c : ReplyCode) (x : List Byte) (s : State) :
    (answerWatch w c x s).outer = s.outer := rfl
@[simp] theorem outer_putReply (f : Frame) (c : ReplyCode) (x : List Byte) (s : State) :
    (putReply f c x s).outer = s.outer := rfl
@[simp] theorem outer_popRequest (s : State) : (popRequest s).outer = s.outer := rfl

/-! ### Notices, alarms, rows -/

@[simp] theorem outer_handNotice (k : Byte) (p : List Byte) (s : State) : (handNotice k p s).outer = s.outer := by
  unfold handNotice
  (repeat' split) <;> rfl
@[simp] theorem handNotice_race (k : Byte) (p : List Byte) (s : State) : (handNotice k p s).race = s.race := by
  unfold handNotice
  (repeat' split) <;> simp
@[simp] theorem handNotice_lanes (k : Byte) (p : List Byte) (s : State) : (handNotice k p s).lanes = s.lanes := by
  unfold handNotice
  (repeat' split) <;> simp
@[simp] theorem handNotice_board (k : Byte) (p : List Byte) (s : State) : (handNotice k p s).board = s.board := by
  unfold handNotice
  (repeat' split) <;> simp
@[simp] theorem handNotice_lamps (k : Byte) (p : List Byte) (s : State) : (handNotice k p s).lamps = s.lamps := by
  unfold handNotice
  (repeat' split) <;> simp
@[simp] theorem outer_handAlarm (k : AlarmKind) (lane : Option Nat) (s : State) : (handAlarm k lane s).outer = s.outer := by
  unfold handAlarm
  (repeat' split) <;> (simp; rfl)
@[simp] theorem handAlarm_race (k : AlarmKind) (lane : Option Nat) (s : State) : (handAlarm k lane s).race = s.race := by
  unfold handAlarm
  (repeat' split) <;> simp
@[simp] theorem handAlarm_lanes (k : AlarmKind) (lane : Option Nat) (s : State) : (handAlarm k lane s).lanes = s.lanes := by
  unfold handAlarm
  (repeat' split) <;> simp
@[simp] theorem handAlarm_board (k : AlarmKind) (lane : Option Nat) (s : State) : (handAlarm k lane s).board = s.board := by
  unfold handAlarm
  (repeat' split) <;> simp
@[simp] theorem handAlarm_lamps (k : AlarmKind) (lane : Option Nat) (s : State) : (handAlarm k lane s).lamps = s.lamps := by
  unfold handAlarm
  (repeat' split) <;> simp
@[simp] theorem outer_markRow (r : Nat) (s : State) : (markRow r s).outer = s.outer := by
  unfold markRow
  (repeat' split) <;> simp
@[simp] theorem markRow_race (r : Nat) (s : State) : (markRow r s).race = s.race := by
  unfold markRow
  (repeat' split) <;> simp
@[simp] theorem markRow_lanes (r : Nat) (s : State) : (markRow r s).lanes = s.lanes := by
  unfold markRow
  (repeat' split) <;> simp
@[simp] theorem markRow_lamps (r : Nat) (s : State) : (markRow r s).lamps = s.lamps := by
  unfold markRow
  (repeat' split) <;> simp
@[simp] theorem markRow_link (r : Nat) (s : State) : (markRow r s).link = s.link := by
  unfold markRow
  (repeat' split) <;> simp
@[simp] theorem outer_markLaneRow (n : Nat) (s : State) : (markLaneRow n s).outer = s.outer := by
  unfold markLaneRow
  simp
@[simp] theorem markLaneRow_race (n : Nat) (s : State) : (markLaneRow n s).race = s.race := by
  unfold markLaneRow
  simp
@[simp] theorem markLaneRow_lanes (n : Nat) (s : State) : (markLaneRow n s).lanes = s.lanes := by
  unfold markLaneRow
  simp
@[simp] theorem markLaneRow_lamps (n : Nat) (s : State) : (markLaneRow n s).lamps = s.lamps := by
  unfold markLaneRow
  simp
@[simp] theorem markLaneRow_link (n : Nat) (s : State) : (markLaneRow n s).link = s.link := by
  unfold markLaneRow
  simp
@[simp] theorem outer_markLaneRows (n : Nat) (s : State) : (markLaneRows n s).outer = s.outer := by
  unfold markLaneRows
  simp
@[simp] theorem markLaneRows_race (n : Nat) (s : State) : (markLaneRows n s).race = s.race := by
  unfold markLaneRows
  simp
@[simp] theorem markLaneRows_lanes (n : Nat) (s : State) : (markLaneRows n s).lanes = s.lanes := by
  unfold markLaneRows
  simp
@[simp] theorem markLaneRows_lamps (n : Nat) (s : State) : (markLaneRows n s).lamps = s.lamps := by
  unfold markLaneRows
  simp
@[simp] theorem markLaneRows_link (n : Nat) (s : State) : (markLaneRows n s).link = s.link := by
  unfold markLaneRows
  simp
@[simp] theorem outer_markAllRows (s : State) : (markAllRows s).outer = s.outer := by
  unfold markAllRows
  exact forEach_keeps (fun t => t.outer) _ (by simp) _ s
@[simp] theorem markAllRows_race (s : State) : (markAllRows s).race = s.race := by
  unfold markAllRows
  exact forEach_keeps (fun t => t.race) _ (by simp) _ s
@[simp] theorem markAllRows_lanes (s : State) : (markAllRows s).lanes = s.lanes := by
  unfold markAllRows
  exact forEach_keeps (fun t => t.lanes) _ (by simp) _ s
@[simp] theorem markAllRows_lamps (s : State) : (markAllRows s).lamps = s.lamps := by
  unfold markAllRows
  exact forEach_keeps (fun t => t.lamps) _ (by simp) _ s
@[simp] theorem markAllRows_link (s : State) : (markAllRows s).link = s.link := by
  unfold markAllRows
  exact forEach_keeps (fun t => t.link) _ (by simp) _ s
@[simp] theorem outer_startHold (n : Nat) (s : State) : (startHold n s).outer = s.outer := by
  unfold startHold
  simp
@[simp] theorem startHold_race (n : Nat) (s : State) : (startHold n s).race = s.race := by
  unfold startHold
  simp
@[simp] theorem startHold_lanes (n : Nat) (s : State) : (startHold n s).lanes = s.lanes := by
  unfold startHold
  simp
@[simp] theorem startHold_lamps (n : Nat) (s : State) : (startHold n s).lamps = s.lamps := by
  unfold startHold
  simp
@[simp] theorem startHold_link (n : Nat) (s : State) : (startHold n s).link = s.link := by
  unfold startHold
  simp
@[simp] theorem outer_endHold (n : Nat) (s : State) : (endHold n s).outer = s.outer := by
  unfold endHold
  (repeat' split) <;> simp
@[simp] theorem endHold_race (n : Nat) (s : State) : (endHold n s).race = s.race := by
  unfold endHold
  (repeat' split) <;> simp
@[simp] theorem endHold_lanes (n : Nat) (s : State) : (endHold n s).lanes = s.lanes := by
  unfold endHold
  (repeat' split) <;> simp
@[simp] theorem endHold_lamps (n : Nat) (s : State) : (endHold n s).lamps = s.lamps := by
  unfold endHold
  (repeat' split) <;> simp
@[simp] theorem endHold_link (n : Nat) (s : State) : (endHold n s).link = s.link := by
  unfold endHold
  (repeat' split) <;> simp
@[simp] theorem outer_watchCheck (s : State) : (watchCheck s).outer = s.outer := by
  unfold watchCheck
  (repeat' split) <;> simp
@[simp] theorem watchCheck_race (s : State) : (watchCheck s).race = s.race := by
  unfold watchCheck
  (repeat' split) <;> simp
@[simp] theorem watchCheck_lanes (s : State) : (watchCheck s).lanes = s.lanes := by
  unfold watchCheck
  (repeat' split) <;> simp
@[simp] theorem watchCheck_board (s : State) : (watchCheck s).board = s.board := by
  unfold watchCheck
  (repeat' split) <;> simp
@[simp] theorem watchCheck_lamps (s : State) : (watchCheck s).lamps = s.lamps := by
  unfold watchCheck
  (repeat' split) <;> simp

/-! ### Race state and lane states -/

@[simp] theorem outer_setRaceState (r : RaceState) (s : State) : (setRaceState r s).outer = s.outer := by
  unfold setRaceState
  split
  · rfl
  · rw [outer_handNotice, outer_markRow]; rfl
@[simp] theorem setRaceState_lanes (r : RaceState) (s : State) : (setRaceState r s).lanes = s.lanes := by
  unfold setRaceState
  (repeat' split) <;> simp
@[simp] theorem setRaceState_lamps (r : RaceState) (s : State) : (setRaceState r s).lamps = s.lamps := by
  unfold setRaceState
  (repeat' split) <;> simp
@[simp] theorem outer_setLaneState (n : Nat) (st : LaneState) (s : State) : (setLaneState n st s).outer = s.outer := by
  unfold setLaneState
  dsimp only
  (repeat' split) <;> simp
@[simp] theorem setLaneState_race (n : Nat) (st : LaneState) (s : State) : (setLaneState n st s).race = s.race := by
  unfold setLaneState
  dsimp only
  (repeat' split) <;> simp
@[simp] theorem setLaneState_lamps (n : Nat) (st : LaneState) (s : State) : (setLaneState n st s).lamps = s.lamps := by
  unfold setLaneState
  dsimp only
  (repeat' split) <;> simp
@[simp] theorem setLaneState_link (n : Nat) (st : LaneState) (s : State) : (setLaneState n st s).link = s.link := by
  unfold setLaneState
  dsimp only
  (repeat' split) <;> simp
@[simp] theorem outer_raiseOverrange (n : Nat) (m : Bool) (s : State) : (raiseOverrange n m s).outer = s.outer := by
  unfold raiseOverrange
  (repeat' split) <;> simp
@[simp] theorem raiseOverrange_race (n : Nat) (m : Bool) (s : State) : (raiseOverrange n m s).race = s.race := by
  unfold raiseOverrange
  (repeat' split) <;> simp
@[simp] theorem raiseOverrange_board (n : Nat) (m : Bool) (s : State) : (raiseOverrange n m s).board = s.board := by
  unfold raiseOverrange
  (repeat' split) <;> simp
@[simp] theorem raiseOverrange_lamps (n : Nat) (m : Bool) (s : State) : (raiseOverrange n m s).lamps = s.lamps := by
  unfold raiseOverrange
  (repeat' split) <;> simp
@[simp] theorem raiseOverrange_link (n : Nat) (m : Bool) (s : State) : (raiseOverrange n m s).link = s.link := by
  unfold raiseOverrange
  (repeat' split) <;> simp

/-! ### Exchanges -/

@[simp] theorem outer_handExchange (n j : Nat) (s : State) : (handExchange n j s).outer = s.outer := by
  unfold handExchange
  simp
@[simp] theorem handExchange_race (n j : Nat) (s : State) : (handExchange n j s).race = s.race := by
  unfold handExchange
  simp
@[simp] theorem handExchange_lanes (n j : Nat) (s : State) : (handExchange n j s).lanes = s.lanes := by
  unfold handExchange
  simp
@[simp] theorem handExchange_board (n j : Nat) (s : State) : (handExchange n j s).board = s.board := by
  unfold handExchange
  simp
@[simp] theorem handExchange_lamps (n j : Nat) (s : State) : (handExchange n j s).lamps = s.lamps := by
  unfold handExchange
  simp
@[simp] theorem outer_judgeExchange (n j a b : Nat) (s : State) : (judgeExchange n j a b s).outer = s.outer := by
  unfold judgeExchange
  dsimp only
  (repeat' split) <;> simp
@[simp] theorem judgeExchange_race (n j a b : Nat) (s : State) : (judgeExchange n j a b s).race = s.race := by
  unfold judgeExchange
  dsimp only
  (repeat' split) <;> simp
@[simp] theorem outer_unjudgeExchange (n j : Nat) (s : State) : (unjudgeExchange n j s).outer = s.outer := by
  unfold unjudgeExchange
  simp
@[simp] theorem unjudgeExchange_race (n j : Nat) (s : State) : (unjudgeExchange n j s).race = s.race := by
  unfold unjudgeExchange
  simp
@[simp] theorem unjudgeExchange_board (n j : Nat) (s : State) : (unjudgeExchange n j s).board = s.board := by
  unfold unjudgeExchange
  simp
@[simp] theorem unjudgeExchange_lamps (n j : Nat) (s : State) : (unjudgeExchange n j s).lamps = s.lamps := by
  unfold unjudgeExchange
  simp
@[simp] theorem outer_exchangeAppend (n : Nat) (e : Split) (s : State) : (exchangeAppend n e s).outer = s.outer := by
  unfold exchangeAppend
  (repeat' split) <;> simp
@[simp] theorem exchangeAppend_race (n : Nat) (e : Split) (s : State) : (exchangeAppend n e s).race = s.race := by
  unfold exchangeAppend
  (repeat' split) <;> simp
@[simp] theorem outer_takeTakeoff (n : Nat) (e : Tick) (s : State) : (takeTakeoff n e s).outer = s.outer := by
  unfold takeTakeoff
  dsimp only
  (repeat' split) <;> simp
@[simp] theorem takeTakeoff_race (n : Nat) (e : Tick) (s : State) : (takeTakeoff n e s).race = s.race := by
  unfold takeTakeoff
  dsimp only
  (repeat' split) <;> simp
@[simp] theorem outer_withdrawExchange (n k : Nat) (s : State) : (withdrawExchange n k s).outer = s.outer := by
  unfold withdrawExchange
  dsimp only
  (repeat' split) <;> simp
@[simp] theorem withdrawExchange_race (n k : Nat) (s : State) : (withdrawExchange n k s).race = s.race := by
  unfold withdrawExchange
  dsimp only
  (repeat' split) <;> simp
@[simp] theorem withdrawExchange_lamps (n k : Nat) (s : State) : (withdrawExchange n k s).lamps = s.lamps := by
  unfold withdrawExchange
  dsimp only
  (repeat' split) <;> simp

/-! ### Appends -/

@[simp] theorem outer_handSplit (n : Nat) (e : Split) (s : State) : (handSplit n e s).outer = s.outer := by
  unfold handSplit
  simp
@[simp] theorem handSplit_race (n : Nat) (e : Split) (s : State) : (handSplit n e s).race = s.race := by
  unfold handSplit
  simp
@[simp] theorem handSplit_lanes (n : Nat) (e : Split) (s : State) : (handSplit n e s).lanes = s.lanes := by
  unfold handSplit
  simp
@[simp] theorem handSplit_board (n : Nat) (e : Split) (s : State) : (handSplit n e s).board = s.board := by
  unfold handSplit
  simp
@[simp] theorem handSplit_lamps (n : Nat) (e : Split) (s : State) : (handSplit n e s).lamps = s.lamps := by
  unfold handSplit
  simp
@[simp] theorem outer_countMiss (n : Nat) (s : State) : (countMiss n s).outer = s.outer := by
  unfold countMiss
  dsimp only
  (repeat' split) <;> simp
@[simp] theorem countMiss_race (n : Nat) (s : State) : (countMiss n s).race = s.race := by
  unfold countMiss
  dsimp only
  (repeat' split) <;> simp
@[simp] theorem countMiss_board (n : Nat) (s : State) : (countMiss n s).board = s.board := by
  unfold countMiss
  dsimp only
  (repeat' split) <;> simp
@[simp] theorem countMiss_lamps (n : Nat) (s : State) : (countMiss n s).lamps = s.lamps := by
  unfold countMiss
  dsimp only
  (repeat' split) <;> simp
@[simp] theorem outer_bellCheck (n : Nat) (s : State) : (bellCheck n s).outer = s.outer := by
  unfold bellCheck
  (repeat' split) <;> simp
@[simp] theorem bellCheck_race (n : Nat) (s : State) : (bellCheck n s).race = s.race := by
  unfold bellCheck
  (repeat' split) <;> simp
@[simp] theorem bellCheck_lanes (n : Nat) (s : State) : (bellCheck n s).lanes = s.lanes := by
  unfold bellCheck
  (repeat' split) <;> simp
@[simp] theorem bellCheck_board (n : Nat) (s : State) : (bellCheck n s).board = s.board := by
  unfold bellCheck
  (repeat' split) <;> simp
@[simp] theorem bellCheck_link (n : Nat) (s : State) : (bellCheck n s).link = s.link := by
  unfold bellCheck
  (repeat' split) <;> simp
@[simp] theorem outer_appendSplit (n : Nat) (k : SplitKind) (t : Option Nat) (m : Bool) (s : State) : (appendSplit n k t m s).outer = s.outer := by
  unfold appendSplit
  dsimp only
  (repeat' split) <;> simp
@[simp] theorem appendSplit_race (n : Nat) (k : SplitKind) (t : Option Nat) (m : Bool) (s : State) : (appendSplit n k t m s).race = s.race := by
  unfold appendSplit
  dsimp only
  (repeat' split) <;> simp
@[simp] theorem outer_syncFinalLength (n : Nat) (s : State) : (syncFinalLength n s).outer = s.outer := by
  unfold syncFinalLength
  simp
@[simp] theorem syncFinalLength_race (n : Nat) (s : State) : (syncFinalLength n s).race = s.race := by
  unfold syncFinalLength
  simp
@[simp] theorem syncFinalLength_lanes (n : Nat) (s : State) : (syncFinalLength n s).lanes = s.lanes := by
  unfold syncFinalLength
  simp
@[simp] theorem syncFinalLength_board (n : Nat) (s : State) : (syncFinalLength n s).board = s.board := by
  unfold syncFinalLength
  simp
@[simp] theorem syncFinalLength_link (n : Nat) (s : State) : (syncFinalLength n s).link = s.link := by
  unfold syncFinalLength
  simp

/-! ### Resolution -/

@[simp] theorem outer_recomputeRanking (s : State) : (recomputeRanking s).outer = s.outer := by
  unfold recomputeRanking
  dsimp only
  split <;> (try simp only [outer_handNotice]) <;>
    exact (forEach_keeps (fun t => t.outer) _ (by simp) _ _).trans rfl
@[simp] theorem recomputeRanking_lamps (s : State) : (recomputeRanking s).lamps = s.lamps := by
  unfold recomputeRanking
  dsimp only
  split <;> (try simp only [handNotice_lamps]) <;>
    exact (forEach_keeps (fun t => t.lamps) _ (by simp) _ _).trans rfl
@[simp] theorem outer_recordCheck (n : Nat) (s : State) : (recordCheck n s).outer = s.outer := by
  unfold recordCheck
  dsimp only
  (repeat' split) <;> simp
@[simp] theorem recordCheck_race (n : Nat) (s : State) : (recordCheck n s).race = s.race := by
  unfold recordCheck
  dsimp only
  (repeat' split) <;> simp
@[simp] theorem outer_appendLag (n : Nat) (d : Option Nat) (s : State) : (appendLag n d s).outer = s.outer := by
  unfold appendLag
  split <;> rfl
@[simp] theorem appendLag_lanes (n : Nat) (d : Option Nat) (s : State) : (appendLag n d s).lanes = s.lanes := by
  unfold appendLag
  split <;> rfl
@[simp] theorem appendLag_board (n : Nat) (d : Option Nat) (s : State) : (appendLag n d s).board = s.board := by
  unfold appendLag
  split <;> rfl
@[simp] theorem appendLag_lamps (n : Nat) (d : Option Nat) (s : State) : (appendLag n d s).lamps = s.lamps := by
  unfold appendLag
  split <;> rfl
@[simp] theorem appendLag_link (n : Nat) (d : Option Nat) (s : State) : (appendLag n d s).link = s.link := by
  unfold appendLag
  split <;> rfl
@[simp] theorem outer_resolveLane (n : Nat) (s : State) : (resolveLane n s).outer = s.outer := by
  unfold resolveLane
  dsimp only
  (repeat' split) <;> simp
@[simp] theorem outer_endOfRaceCheck (s : State) : (endOfRaceCheck s).outer = s.outer := by
  unfold endOfRaceCheck
  (repeat' split) <;> simp
@[simp] theorem endOfRaceCheck_lanes (s : State) : (endOfRaceCheck s).lanes = s.lanes := by
  unfold endOfRaceCheck
  (repeat' split) <;> simp
@[simp] theorem endOfRaceCheck_lamps (s : State) : (endOfRaceCheck s).lamps = s.lamps := by
  unfold endOfRaceCheck
  (repeat' split) <;> simp
@[simp] theorem outer_earlyCloseCheck (n : Nat) (s : State) : (earlyCloseCheck n s).outer = s.outer := by
  unfold earlyCloseCheck
  (repeat' split) <;> simp
@[simp] theorem outer_openFinish (n : Nat) (e : Tick) (ev : Evidence) (b : Option Nat) (s : State) : (openFinish n e ev b s).outer = s.outer := by
  unfold openFinish
  dsimp only
  (repeat' split) <;> simp

/-! ### Capture events -/

@[simp] theorem outer_touchSwimming (n : Nat) (p : PoolEnd) (e : Tick) (ev : Evidence) (s : State) : (touchSwimming n p e ev s).outer = s.outer := by
  unfold touchSwimming
  dsimp only
  (repeat' split) <;> simp
@[simp] theorem outer_touchFinishing (n : Nat) (p : PoolEnd) (ev : Evidence) (s : State) : (touchFinishing n p ev s).outer = s.outer := by
  unfold touchFinishing
  dsimp only
  (repeat' split) <;> simp
@[simp] theorem outer_takePadMake (n : Nat) (p : PoolEnd) (e : Tick) (s : State) : (takePadMake n p e s).outer = s.outer := by
  unfold takePadMake
  dsimp only
  (repeat' split) <;> simp
@[simp] theorem outer_pressSwimming (n b : Nat) (e : Tick) (ev : Evidence) (s : State) : (pressSwimming n b e ev s).outer = s.outer := by
  unfold pressSwimming
  dsimp only
  (repeat' split) <;> simp
@[simp] theorem outer_pressFinishing (n b : Nat) (ev : Evidence) (s : State) : (pressFinishing n b ev s).outer = s.outer := by
  unfold pressFinishing
  (repeat' split) <;> simp
@[simp] theorem outer_takeButtonPress (n b : Nat) (e : Tick) (s : State) : (takeButtonPress n b e s).outer = s.outer := by
  unfold takeButtonPress
  dsimp only
  (repeat' split) <;> simp
@[simp] theorem outer_takeBlockLoad (n : Nat) (s : State) : (takeBlockLoad n s).outer = s.outer := by
  unfold takeBlockLoad
  (repeat' split) <;> simp
@[simp] theorem takeBlockLoad_race (n : Nat) (s : State) : (takeBlockLoad n s).race = s.race := by
  unfold takeBlockLoad
  (repeat' split) <;> simp
@[simp] theorem takeBlockLoad_board (n : Nat) (s : State) : (takeBlockLoad n s).board = s.board := by
  unfold takeBlockLoad
  (repeat' split) <;> simp
@[simp] theorem takeBlockLoad_lamps (n : Nat) (s : State) : (takeBlockLoad n s).lamps = s.lamps := by
  unfold takeBlockLoad
  (repeat' split) <;> simp
@[simp] theorem takeBlockLoad_link (n : Nat) (s : State) : (takeBlockLoad n s).link = s.link := by
  unfold takeBlockLoad
  (repeat' split) <;> simp
@[simp] theorem outer_storeReaction (n : Nat) (r : Int) (s : State) : (storeReaction n r s).outer = s.outer := by
  unfold storeReaction
  simp
@[simp] theorem storeReaction_race (n : Nat) (r : Int) (s : State) : (storeReaction n r s).race = s.race := by
  unfold storeReaction
  simp
@[simp] theorem storeReaction_board (n : Nat) (r : Int) (s : State) : (storeReaction n r s).board = s.board := by
  unfold storeReaction
  simp
@[simp] theorem storeReaction_lamps (n : Nat) (r : Int) (s : State) : (storeReaction n r s).lamps = s.lamps := by
  unfold storeReaction
  simp
@[simp] theorem storeReaction_link (n : Nat) (r : Int) (s : State) : (storeReaction n r s).link = s.link := by
  unfold storeReaction
  simp
@[simp] theorem outer_handEarlyRelease (n : Nat) (r : Int) (s : State) : (handEarlyRelease n r s).outer = s.outer := by
  unfold handEarlyRelease
  simp
@[simp] theorem handEarlyRelease_race (n : Nat) (r : Int) (s : State) : (handEarlyRelease n r s).race = s.race := by
  unfold handEarlyRelease
  simp
@[simp] theorem handEarlyRelease_lanes (n : Nat) (r : Int) (s : State) : (handEarlyRelease n r s).lanes = s.lanes := by
  unfold handEarlyRelease
  simp
@[simp] theorem handEarlyRelease_board (n : Nat) (r : Int) (s : State) : (handEarlyRelease n r s).board = s.board := by
  unfold handEarlyRelease
  simp
@[simp] theorem handEarlyRelease_lamps (n : Nat) (r : Int) (s : State) : (handEarlyRelease n r s).lamps = s.lamps := by
  unfold handEarlyRelease
  simp
@[simp] theorem outer_classifyRelease (n : Nat) (e : Tick) (s : State) : (classifyRelease n e s).outer = s.outer := by
  unfold classifyRelease
  dsimp only
  (repeat' split) <;> simp
@[simp] theorem classifyRelease_race (n : Nat) (e : Tick) (s : State) : (classifyRelease n e s).race = s.race := by
  unfold classifyRelease
  dsimp only
  (repeat' split) <;> simp
@[simp] theorem outer_takeBlockRelease (n : Nat) (e : Tick) (s : State) : (takeBlockRelease n e s).outer = s.outer := by
  unfold takeBlockRelease
  (repeat' split) <;> simp
@[simp] theorem takeBlockRelease_race (n : Nat) (e : Tick) (s : State) : (takeBlockRelease n e s).race = s.race := by
  unfold takeBlockRelease
  (repeat' split) <;> simp
@[simp] theorem outer_startLane (st : Tick) (n : Nat) (s : State) : (startLane st n s).outer = s.outer := by
  unfold startLane
  dsimp only
  (repeat' split) <;> simp
@[simp] theorem startLane_race (st : Tick) (n : Nat) (s : State) : (startLane st n s).race = s.race := by
  unfold startLane
  dsimp only
  (repeat' split) <;> simp
@[simp] theorem startLane_lamps (st : Tick) (n : Nat) (s : State) : (startLane st n s).lamps = s.lamps := by
  unfold startLane
  dsimp only
  (repeat' split) <;> simp
@[simp] theorem startLane_link (st : Tick) (n : Nat) (s : State) : (startLane st n s).link = s.link := by
  unfold startLane
  dsimp only
  (repeat' split) <;> simp
@[simp] theorem outer_startNotice (n : Nat) (s : State) : (startNotice n s).outer = s.outer := by
  unfold startNotice
  (repeat' split) <;> simp
@[simp] theorem startNotice_race (n : Nat) (s : State) : (startNotice n s).race = s.race := by
  unfold startNotice
  (repeat' split) <;> simp
@[simp] theorem startNotice_lanes (n : Nat) (s : State) : (startNotice n s).lanes = s.lanes := by
  unfold startNotice
  (repeat' split) <;> simp
@[simp] theorem startNotice_board (n : Nat) (s : State) : (startNotice n s).board = s.board := by
  unfold startNotice
  (repeat' split) <;> simp
@[simp] theorem startNotice_lamps (n : Nat) (s : State) : (startNotice n s).lamps = s.lamps := by
  unfold startNotice
  (repeat' split) <;> simp
@[simp] theorem outer_startRace (e : Tick) (s : State) : (startRace e s).outer = s.outer := by
  unfold startRace
  dsimp only
  rw [forEach_keeps (fun t => t.outer) _ (by simp), forEach_keeps (fun t => t.outer) _ (by simp), outer_handNotice,
    outer_setRaceState, forEach_keeps (fun t => t.outer) _ (by simp)]
  rfl
@[simp] theorem outer_takeStart (e : Tick) (s : State) : (takeStart e s).outer = s.outer := by
  unfold takeStart
  (repeat' split) <;> simp
@[simp] theorem outer_takeCapture (c : CaptureEvent) (s : State) : (takeCapture c s).outer = s.outer := by
  unfold takeCapture
  (repeat' split) <;> simp

/-! ### Requests of the race -/

@[simp] theorem outer_clearField (e : Option EventDesc) (s : State) : (clearField e s).outer = s.outer := by
  unfold clearField
  simp
  rfl
@[simp] theorem outer_armLane (n : Nat) (s : State) : (armLane n s).outer = s.outer := by
  unfold armLane
  dsimp only
  (repeat' split) <;> simp
@[simp] theorem armLane_race (n : Nat) (s : State) : (armLane n s).race = s.race := by
  unfold armLane
  dsimp only
  (repeat' split) <;> simp
@[simp] theorem armLane_lamps (n : Nat) (s : State) : (armLane n s).lamps = s.lamps := by
  unfold armLane
  dsimp only
  (repeat' split) <;> simp
@[simp] theorem armLane_link (n : Nat) (s : State) : (armLane n s).link = s.link := by
  unfold armLane
  dsimp only
  (repeat' split) <;> simp
@[simp] theorem outer_recallArmedLane (n : Nat) (s : State) : (recallArmedLane n s).outer = s.outer := by
  unfold recallArmedLane
  dsimp only
  (repeat' split) <;> simp
@[simp] theorem recallArmedLane_race (n : Nat) (s : State) : (recallArmedLane n s).race = s.race := by
  unfold recallArmedLane
  dsimp only
  (repeat' split) <;> simp
@[simp] theorem recallArmedLane_lamps (n : Nat) (s : State) : (recallArmedLane n s).lamps = s.lamps := by
  unfold recallArmedLane
  dsimp only
  (repeat' split) <;> simp
@[simp] theorem recallArmedLane_link (n : Nat) (s : State) : (recallArmedLane n s).link = s.link := by
  unfold recallArmedLane
  dsimp only
  (repeat' split) <;> simp
@[simp] theorem outer_recallRunning (s : State) : (recallRunning s).outer = s.outer := by
  unfold recallRunning
  dsimp only
  split <;> simp <;> rfl
@[simp] theorem outer_dnfLane (n : Nat) (s : State) : (dnfLane n s).outer = s.outer := by
  unfold dnfLane
  simp
@[simp] theorem dnfLane_race (n : Nat) (s : State) : (dnfLane n s).race = s.race := by
  unfold dnfLane
  simp
@[simp] theorem dnfLane_link (n : Nat) (s : State) : (dnfLane n s).link = s.link := by
  unfold dnfLane
  simp
@[simp] theorem outer_removeTail (n : Nat) (s : State) : (removeTail n s).outer = s.outer := by
  unfold removeTail
  simp
@[simp] theorem removeTail_race (n : Nat) (s : State) : (removeTail n s).race = s.race := by
  unfold removeTail
  simp
@[simp] theorem outer_adjudicateLane (n : Nat) (ev : Evidence) (src : ResultSource) (s : State) : (adjudicateLane n ev src s).outer = s.outer := by
  unfold adjudicateLane
  simp
@[simp] theorem outer_declareDnsLane (n : Nat) (s : State) : (declareDnsLane n s).outer = s.outer := by
  unfold declareDnsLane
  simp
@[simp] theorem outer_declareDnfLane (n : Nat) (s : State) : (declareDnfLane n s).outer = s.outer := by
  unfold declareDnfLane
  simp
@[simp] theorem outer_markDq (dq : Bool) (n : Nat) (s : State) : (markDq dq n s).outer = s.outer := by
  unfold markDq
  simp
@[simp] theorem outer_declareDqLane (n : Nat) (s : State) : (declareDqLane n s).outer = s.outer := by
  unfold declareDqLane
  (repeat' split) <;> simp
@[simp] theorem outer_declareReinstateLane (n : Nat) (s : State) : (declareReinstateLane n s).outer = s.outer := by
  unfold declareReinstateLane
  (repeat' split) <;> simp
@[simp] theorem outer_answerClear (s : State) : (answerClear s).outer = s.outer := by
  unfold answerClear
  (repeat' split) <;> simp
@[simp] theorem answerClear_race (s : State) : (answerClear s).race = s.race := by
  unfold answerClear
  (repeat' split) <;> simp
@[simp] theorem answerClear_lanes (s : State) : (answerClear s).lanes = s.lanes := by
  unfold answerClear
  (repeat' split) <;> simp
@[simp] theorem answerClear_board (s : State) : (answerClear s).board = s.board := by
  unfold answerClear
  (repeat' split) <;> simp
@[simp] theorem answerClear_lamps (s : State) : (answerClear s).lamps = s.lamps := by
  unfold answerClear
  (repeat' split) <;> simp

/-! ## Split holds and REQ_IN, said once -/

/-- A split hold of 0 has ended when it starts; any other runs from this tick for the current width (R2, R129; log entry 26). -/
theorem newHold_eq (s : State) : s.newHold = holdStarted s := rfl

/-- What an OWNING unit does at a sample with REQ_IN active, by the yield option and what is pending (R154; log entries 18, 19). -/
theorem onRequest_cases (s : State) :
    let t : State := { s with share := { s.share with reqRun := true, reqDue := false } }
    (s.options.yieldOnRequest = true ∧ s.share.yieldPending = false ∧ s.board.sending = none ∧ onRequest s = leaveByYield t)
    ∨ (s.options.yieldOnRequest = true ∧ s.share.yieldPending = false ∧ s.board.sending ≠ none
        ∧ onRequest s = { t with share := { t.share with yieldPending := true } })
    ∨ (s.options.yieldOnRequest = false ∧ s.share.reqRun = false ∧ onRequest s = handBoard .owning .asked t)
    ∨ ((s.options.yieldOnRequest = true ∧ s.share.yieldPending = true
        ∨ s.options.yieldOnRequest = false ∧ s.share.reqRun = true) ∧ onRequest s = t) := by
  dsimp only [onRequest]
  cases s.options.yieldOnRequest <;> cases s.share.yieldPending <;> cases s.share.reqRun <;> cases s.board.sending <;> simp

end Sys2Proof.Machine
end

