-- ==== Sys2Proof/Laws/Closed.lean ====
section
/-!
SUPPORT. What the Race Engine can do to the other blocks, said once. A property of states is `RaceClosed` if it does not look at
the race record or the lanes and survives the handing of a notice, the answering of the watch, the marking of a row 0 to 21, the
start and the end of a split hold and every lamp command. Each operation of the Race Engine keeps every such property: the
bounds of the notice queue, the order of the dirty row queue, the frames of the other blocks.
-/
namespace Sys2Proof.Machine

/-- A property that whatever the Race Engine does to the other blocks keeps. -/
structure RaceClosed (Q : State → Prop) : Prop where
  race : ∀ (s : State) (r : Race), Q s → Q { s with race := r }
  lanes : ∀ (s : State) (ls : List Lane), Q s → Q { s with lanes := ls }
  lamps : ∀ (s : State) (x : Lamps), x.startFlash.length = s.lamps.startFlash.length →
    x.takeoffAlert.length = s.lamps.takeoffAlert.length → x.finalLength.length = s.lamps.finalLength.length →
    Q s → Q { s with lamps := x }
  notice : ∀ (k : Byte) (p : List Byte) (s : State), Q s → Q (handNotice k p s)
  answer : ∀ (w : Watch) (c : ReplyCode) (x : List Byte) (s : State), Q s → Q (answerWatch w c x s)
  mark : ∀ (r : Nat) (s : State), r < 22 → Q s → Q (markAnyRow r s)
  hold : ∀ (n : Nat) (h : Option Timer) (s : State), Q s → Q (s.setHold n h)
  stops : ∀ s : State, Q s → Q (stopHolds s)

/-- An operation that keeps a property for each number of a list keeps it over the list. -/
theorem forEach_closed (Q : State → Prop) (f : Nat → State → State) (ns : List Nat) (s : State)
    (h : ∀ n ∈ ns, ∀ t, Q t → Q (f n t)) (hs : Q s) : Q (forEach ns f s) := by
  induction ns generalizing s with
  | nil => exact hs
  | cons n ns ih =>
    exact ih (f n s) (fun m hm => h m (List.mem_cons_of_mem n hm)) (h n List.mem_cons_self s hs)

theorem lt_of_mem_laneNumbers {n : Nat} (h : n ∈ laneNumbers) : n < 10 := List.mem_range.mp h

/-- The lane that a capture event names. -/
def CaptureEvent.laneNumber (c : CaptureEvent) : Option Nat :=
  match c with
  | .padMake n _ _ => some n
  | .buttonPress n _ _ => some n
  | .blockLoad n _ => some n
  | .blockRelease n _ => some n
  | .start _ => none

namespace RaceClosed

variable {Q : State → Prop} (h : RaceClosed Q)
include h

theorem updLane {s : State} (n : Nat) (f : Lane → Lane) (hs : Q s) : Q (s.updLane n f) := h.lanes s _ hs

theorem markRow {s : State} (r : Nat) (hr : r < 22) (hs : Q s) : Q (markRow r s) := by
  unfold Machine.markRow
  split
  · exact hs
  · exact h.mark r s hr hs

theorem markLaneRow {s : State} (n : Nat) (hn : n < 10) (hs : Q s) : Q (markLaneRow n s) :=
  h.markRow _ (by omega) hs

theorem markLaneRows {s : State} (n : Nat) (hn : n < 10) (hs : Q s) : Q (markLaneRows n s) :=
  h.markRow _ (by omega) (h.markRow _ (by omega) hs)

theorem markAllRows {s : State} (hs : Q s) : Q (markAllRows s) :=
  forEach_closed Q _ _ _ (fun n hn t ht => h.markRow n (by simpa [Config.rowCount] using hn) ht) hs

theorem startHold {s : State} (n : Nat) (hn : n < 10) (hs : Q s) : Q (startHold n s) :=
  h.markLaneRow n hn (h.hold n _ s hs)

theorem endHold {s : State} (n : Nat) (hn : n < 10) (hs : Q s) : Q (endHold n s) := by
  unfold Machine.endHold
  split
  · exact h.markLaneRow n hn (h.hold n _ s hs)
  · exact hs

theorem watchCheck {s : State} (hs : Q s) : Q (watchCheck s) := by
  unfold Machine.watchCheck
  (repeat' split)
  · exact hs
  · exact hs
  · exact h.answer _ _ _ s hs

theorem setRaceState {s : State} (r : RaceState) (hs : Q s) : Q (setRaceState r s) := by
  unfold Machine.setRaceState
  split
  · exact hs
  · exact h.notice _ _ _ (h.markRow 0 (by omega) (h.race s _ hs))

theorem setLaneState {s : State} (n : Nat) (hn : n < 10) (st : LaneState) (hs : Q s) : Q (setLaneState n st s) := by
  unfold Machine.setLaneState
  dsimp only
  (repeat' split)
  · exact hs
  · exact h.endHold n hn (h.markLaneRows n hn (h.updLane n _ hs))
  · exact h.markLaneRows n hn (h.updLane n _ hs)

theorem raiseOverrange {s : State} (n : Nat) (m : Bool) (hs : Q s) : Q (raiseOverrange n m s) := by
  unfold Machine.raiseOverrange
  split
  · exact h.updLane n _ hs
  · exact hs

theorem triggerFlash {s : State} (n : Nat) (hs : Q s) : Q (triggerFlash n s) :=
  h.lamps s _ (by simp) rfl rfl hs

theorem triggerAlert {s : State} (n : Nat) (hs : Q s) : Q (triggerAlert n s) :=
  h.lamps s _ rfl (by simp) rfl hs

theorem triggerBell {s : State} (hs : Q s) : Q (triggerBell s) := h.lamps s _ rfl rfl rfl hs

theorem triggerRecord {s : State} (hs : Q s) : Q (triggerRecord s) := h.lamps s _ rfl rfl rfl hs

theorem syncFinalLength {s : State} (n : Nat) (hs : Q s) : Q (syncFinalLength n s) :=
  h.lamps s _ rfl rfl (by simp) hs

theorem stopLaneLamps {s : State} (hs : Q s) : Q (stopLaneLamps s) :=
  h.lamps s _ (by simp) (by simp) (by simp) hs

theorem stopAllLamps {s : State} (hs : Q s) : Q (stopAllLamps s) :=
  h.lamps _ _ rfl rfl rfl (h.stopLaneLamps hs)

theorem handExchange {s : State} (n j : Nat) (hs : Q s) : Q (handExchange n j s) := by
  unfold Machine.handExchange
  exact h.notice _ _ _ hs

theorem judgeExchange {s : State} (n : Nat) (hn : n < 10) (j a b : Nat) (hs : Q s) : Q (judgeExchange n j a b s) := by
  unfold Machine.judgeExchange
  dsimp only
  (repeat' split)
  all_goals
    repeat' with_reducible first
      | exact hs
      | exact hn
      | apply h.triggerAlert
      | apply h.notice
      | apply h.handExchange
      | apply h.markLaneRow
      | apply h.updLane

theorem unjudgeExchange {s : State} (n j : Nat) (hs : Q s) : Q (unjudgeExchange n j s) := by
  unfold Machine.unjudgeExchange
  exact h.handExchange _ _ (h.updLane _ _ hs)

theorem exchangeAppend {s : State} (n : Nat) (hn : n < 10) (e : Split) (hs : Q s) : Q (exchangeAppend n e s) := by
  unfold Machine.exchangeAppend
  (repeat' split)
  all_goals
    repeat' with_reducible first
      | exact hs
      | exact hn
      | apply h.judgeExchange
      | apply h.unjudgeExchange

theorem takeTakeoff {s : State} (n : Nat) (hn : n < 10) (e : Tick) (hs : Q s) : Q (takeTakeoff n e s) := by
  unfold Machine.takeTakeoff
  dsimp only
  (repeat' split)
  all_goals
    repeat' with_reducible first
      | exact hs
      | exact hn
      | apply h.judgeExchange
      | apply h.updLane

theorem withdrawExchange {s : State} (n : Nat) (hn : n < 10) (k : Nat) (hs : Q s) : Q (withdrawExchange n k s) := by
  unfold Machine.withdrawExchange
  dsimp only
  (repeat' split)
  all_goals
    repeat' with_reducible first
      | exact hs
      | exact hn
      | apply h.handExchange
      | apply h.markLaneRow
      | apply h.updLane

theorem handSplit {s : State} (n : Nat) (e : Split) (hs : Q s) : Q (handSplit n e s) := by
  unfold Machine.handSplit
  exact h.notice _ _ _ hs

theorem countMiss {s : State} (n : Nat) (hs : Q s) : Q (countMiss n s) := by
  unfold Machine.countMiss
  dsimp only
  (repeat' split)
  all_goals
    repeat' with_reducible first
      | exact hs
      | apply h.notice
      | apply h.updLane

theorem bellCheck {s : State} (n : Nat) (hs : Q s) : Q (bellCheck n s) := by
  unfold Machine.bellCheck
  (repeat' split)
  all_goals
    repeat' with_reducible first
      | exact hs
      | apply h.triggerBell

theorem appendSplit {s : State} (n : Nat) (hn : n < 10) (k : SplitKind) (t : Option Nat) (m : Bool) (hs : Q s) : Q (appendSplit n k t m s) := by
  unfold Machine.appendSplit
  dsimp only
  (repeat' split)
  all_goals
    repeat' with_reducible first
      | exact hs
      | exact hn
      | apply h.bellCheck
      | apply h.exchangeAppend
      | apply h.countMiss
      | apply h.startHold
      | apply h.markLaneRows
      | apply h.handSplit
      | apply h.updLane

theorem recomputeRanking {s : State} (hs : Q s) : Q (recomputeRanking s) := by
  unfold Machine.recomputeRanking
  dsimp only
  have hu := forEach_closed Q Machine.markLaneRow
    (laneNumbers.filter (fun n => decide ((s.lane n).place ≠ placeIn s.lanes (s.lane n)))) _
    (fun n hn t ht => h.markLaneRow n (lt_of_mem_laneNumbers (List.mem_filter.mp hn).1) ht)
    (h.race { s with lanes := s.lanes.map (fun l => { l with place := placeIn s.lanes l }) }
      { s.race with ranking := rankingOf s.lanes } (h.lanes s _ hs))
  split
  · exact hu
  · exact h.notice _ _ _ hu

theorem recordCheck {s : State} (n : Nat) (hn : n < 10) (hs : Q s) : Q (recordCheck n s) := by
  unfold Machine.recordCheck
  dsimp only
  (repeat' split)
  all_goals
    repeat' with_reducible first
      | exact hs
      | exact hn
      | apply h.triggerRecord
      | apply h.notice
      | apply h.markLaneRow
      | apply h.updLane

theorem appendLag {s : State} (n : Nat) (d : Option Nat) (hs : Q s) : Q (appendLag n d s) := by
  unfold Machine.appendLag
  split
  · exact h.race s _ hs
  · exact hs

theorem resolveLane {s : State} (n : Nat) (hn : n < 10) (hs : Q s) : Q (resolveLane n s) := by
  unfold Machine.resolveLane
  dsimp only
  (repeat' split)
  all_goals
    repeat' with_reducible first
      | exact hs
      | exact hn
      | apply h.recordCheck
      | apply h.recomputeRanking
      | apply h.notice
      | apply h.appendLag
      | apply h.appendSplit
      | apply h.setLaneState
      | apply h.updLane

theorem endOfRaceCheck {s : State} (hs : Q s) : Q (endOfRaceCheck s) := by
  unfold Machine.endOfRaceCheck
  split
  · exact h.setRaceState _ hs
  · exact hs

theorem earlyCloseCheck {s : State} (n : Nat) (hn : n < 10) (hs : Q s) : Q (earlyCloseCheck n s) := by
  unfold Machine.earlyCloseCheck
  split
  · exact h.endOfRaceCheck (h.resolveLane n hn hs)
  · exact hs

theorem openFinish {s : State} (n : Nat) (hn : n < 10) (e : Tick) (ev : Evidence) (b : Option Nat) (hs : Q s) : Q (openFinish n e ev b s) := by
  unfold Machine.openFinish
  exact h.earlyCloseCheck n hn (h.updLane _ _ (h.setLaneState n hn _ hs))

theorem touchSwimming {s : State} (n : Nat) (hn : n < 10) (p : PoolEnd) (e : Tick) (ev : Evidence) (hs : Q s) : Q (touchSwimming n p e ev s) := by
  unfold Machine.touchSwimming
  dsimp only
  (repeat' split)
  all_goals
    repeat' with_reducible first
      | exact hs
      | exact hn
      | apply h.appendSplit
      | apply h.openFinish

theorem touchFinishing {s : State} (n : Nat) (hn : n < 10) (p : PoolEnd) (ev : Evidence) (hs : Q s) : Q (touchFinishing n p ev s) := by
  unfold Machine.touchFinishing
  dsimp only
  (repeat' split)
  all_goals
    repeat' with_reducible first
      | exact hs
      | exact hn
      | apply h.earlyCloseCheck
      | apply h.updLane

theorem takePadMake {s : State} (n : Nat) (hn : n < 10) (p : PoolEnd) (e : Tick) (hs : Q s) : Q (takePadMake n p e s) := by
  unfold Machine.takePadMake
  dsimp only
  (repeat' split)
  all_goals
    repeat' with_reducible first
      | exact hs
      | exact hn
      | apply h.syncFinalLength
      | apply h.touchSwimming
      | apply h.touchFinishing
      | apply h.raiseOverrange

theorem pressSwimming {s : State} (n : Nat) (hn : n < 10) (b : Nat) (e : Tick) (ev : Evidence) (hs : Q s) : Q (pressSwimming n b e ev s) := by
  unfold Machine.pressSwimming
  dsimp only
  (repeat' split)
  all_goals
    repeat' with_reducible first
      | exact hs
      | exact hn
      | apply h.openFinish
      | apply h.appendSplit

theorem pressFinishing {s : State} (n : Nat) (hn : n < 10) (b : Nat) (ev : Evidence) (hs : Q s) : Q (pressFinishing n b ev s) := by
  unfold Machine.pressFinishing
  (repeat' split)
  all_goals
    repeat' with_reducible first
      | exact hs
      | exact hn
      | apply h.earlyCloseCheck
      | apply h.updLane

theorem takeButtonPress {s : State} (n : Nat) (hn : n < 10) (b : Nat) (e : Tick) (hs : Q s) : Q (takeButtonPress n b e s) := by
  unfold Machine.takeButtonPress
  dsimp only
  (repeat' split)
  all_goals
    repeat' with_reducible first
      | exact hs
      | exact hn
      | apply h.syncFinalLength
      | apply h.pressSwimming
      | apply h.pressFinishing
      | apply h.raiseOverrange

theorem takeBlockLoad {s : State} (n : Nat) (hs : Q s) : Q (takeBlockLoad n s) := by
  unfold Machine.takeBlockLoad
  (repeat' split)
  all_goals
    repeat' with_reducible first
      | exact hs
      | apply h.updLane

theorem storeReaction {s : State} (n : Nat) (r : Int) (hs : Q s) : Q (storeReaction n r s) := h.updLane n _ hs

theorem handEarlyRelease {s : State} (n : Nat) (r : Int) (hs : Q s) : Q (handEarlyRelease n r s) := h.notice _ _ s hs

theorem classifyRelease {s : State} (n : Nat) (hn : n < 10) (e : Tick) (hs : Q s) : Q (classifyRelease n e s) := by
  unfold Machine.classifyRelease
  dsimp only
  (repeat' split)
  all_goals
    repeat' with_reducible first
      | exact hs
      | exact hn
      | apply h.takeTakeoff
      | apply h.handEarlyRelease
      | apply h.storeReaction
      | apply h.updLane

theorem takeBlockRelease {s : State} (n : Nat) (hn : n < 10) (e : Tick) (hs : Q s) : Q (takeBlockRelease n e s) := by
  unfold Machine.takeBlockRelease
  (repeat' split)
  all_goals
    repeat' with_reducible first
      | exact hs
      | exact hn
      | apply h.classifyRelease
      | apply h.updLane

theorem startLane {s : State} (n : Nat) (hn : n < 10) (st : Tick) (hs : Q s) : Q (startLane st n s) := by
  unfold Machine.startLane
  dsimp only
  (repeat' split)
  all_goals
    repeat' with_reducible first
      | exact hs
      | exact hn
      | apply h.storeReaction
      | apply h.setLaneState

theorem startNotice {s : State} (n : Nat) (hs : Q s) : Q (startNotice n s) := by
  unfold Machine.startNotice
  (repeat' split)
  all_goals
    repeat' with_reducible first
      | exact hs
      | apply h.handEarlyRelease

theorem startRace {s : State} (e : Tick) (hs : Q s) : Q (startRace e s) := by
  unfold Machine.startRace
  dsimp only
  refine forEach_closed Q _ _ _ (fun n _ t ht => h.triggerFlash n ht) ?_
  refine forEach_closed Q _ _ _ (fun n _ t ht => h.startNotice n ht) ?_
  refine h.notice _ _ _ (h.setRaceState _ ?_)
  exact forEach_closed Q _ _ _ (fun n hn t ht => h.startLane n (lt_of_mem_laneNumbers hn) e ht) (h.race s _ hs)

theorem takeStart {s : State} (e : Tick) (hs : Q s) : Q (takeStart e s) := by
  unfold Machine.takeStart
  split
  · exact h.startRace e hs
  · exact h.notice _ _ _ hs

theorem clearField {s : State} (e : Option EventDesc) (hs : Q s) : Q (clearField e s) := by
  unfold Machine.clearField
  exact h.markAllRows (h.stopAllLamps (h.stops _ (h.race { s with lanes := s.lanes.map (fun _ => Lane.blank) }
    { Race.cleared with state := s.race.state, event := e } (h.lanes s _ hs))))

theorem armLane {s : State} (n : Nat) (hn : n < 10) (hs : Q s) : Q (armLane n s) := by
  unfold Machine.armLane
  dsimp only
  (repeat' split)
  all_goals
    repeat' with_reducible first
      | exact hs
      | exact hn
      | apply h.setLaneState
      | apply h.updLane

theorem recallArmedLane {s : State} (n : Nat) (hn : n < 10) (hs : Q s) : Q (recallArmedLane n s) := by
  unfold Machine.recallArmedLane
  dsimp only
  (repeat' split)
  all_goals
    repeat' with_reducible first
      | exact hs
      | exact hn
      | apply h.setLaneState
      | apply h.updLane

theorem recallRunning {s : State} (hs : Q s) : Q (recallRunning s) := by
  unfold Machine.recallRunning
  dsimp only
  have hu := h.setRaceState .loaded (h.markAllRows (h.stopAllLamps (h.stops _ (h.race
    { s with lanes := s.lanes.map Lane.recallRunning }
    { s.race with startTick := none, limitMark := false, lags := [], ranking := [] } (h.lanes s _ hs)))))
  split
  · exact h.notice _ _ _ hu
  · exact hu

theorem dnfLane {s : State} (n : Nat) (hn : n < 10) (hs : Q s) : Q (dnfLane n s) := by
  unfold Machine.dnfLane
  exact h.syncFinalLength n (h.setLaneState n hn _ hs)

theorem removeTail {s : State} (n : Nat) (hn : n < 10) (hs : Q s) : Q (removeTail n s) := by
  unfold Machine.removeTail
  exact h.syncFinalLength n (h.withdrawExchange n hn _ (h.markLaneRows n hn (h.updLane n _ hs)))

theorem adjudicateLane {s : State} (n : Nat) (hn : n < 10) (ev : Evidence) (src : ResultSource) (hs : Q s) : Q (adjudicateLane n ev src s) := by
  unfold Machine.adjudicateLane
  exact h.recordCheck n hn (h.recomputeRanking (h.markLaneRows n hn (h.handSplit n _ (h.setLaneState n hn _ (h.updLane n _ hs)))))

theorem declareDnsLane {s : State} (n : Nat) (hn : n < 10) (hs : Q s) : Q (declareDnsLane n s) := by
  unfold Machine.declareDnsLane
  exact h.endOfRaceCheck (h.syncFinalLength n (h.setLaneState n hn _ hs))

theorem declareDnfLane {s : State} (n : Nat) (hn : n < 10) (hs : Q s) : Q (declareDnfLane n s) := by
  unfold Machine.declareDnfLane
  exact h.endOfRaceCheck (h.dnfLane n hn hs)

theorem markDq {s : State} (n : Nat) (hn : n < 10) (dq : Bool) (hs : Q s) : Q (markDq dq n s) := by
  unfold Machine.markDq
  exact h.markLaneRow n hn (h.recordCheck n hn (h.recomputeRanking (h.updLane n _ hs)))

theorem declareDqLane {s : State} (n : Nat) (hn : n < 10) (hs : Q s) : Q (declareDqLane n s) := by
  unfold Machine.declareDqLane
  split
  · exact hs
  · exact h.markDq n hn true hs

theorem declareReinstateLane {s : State} (n : Nat) (hn : n < 10) (hs : Q s) : Q (declareReinstateLane n s) := by
  unfold Machine.declareReinstateLane
  split
  · exact h.markDq n hn false hs
  · exact hs

theorem answerClear {s : State} (hs : Q s) : Q (answerClear s) := by
  unfold Machine.answerClear
  split
  · exact h.answer _ _ _ s hs
  · exact hs

/-- What the Race Engine does with a capture event keeps the property. -/
theorem takeCapture {s : State} (c : CaptureEvent) (hc : ∀ n, c.laneNumber = some n → n < 10) (hs : Q s) :
    Q (takeCapture c s) := by
  cases c with
  | padMake n p e => exact h.watchCheck (h.takePadMake n (hc n rfl) p e hs)
  | buttonPress n b e => exact h.watchCheck (h.takeButtonPress n (hc n rfl) b e hs)
  | blockLoad n e => exact h.takeBlockLoad n hs
  | blockRelease n e => exact h.takeBlockRelease n (hc n rfl) e hs
  | start e => exact h.watchCheck (h.takeStart e hs)

end RaceClosed

end Sys2Proof.Machine
end

