-- ==== Sys2Proof/Laws/Requests.lean ====
section
/-!
SUPPORT. What the taking of a request can do, said once (R168), and the forms in which the meanings of the request commands are
used by later proofs.
-/
namespace Sys2Proof.Machine

/-- A ready request is the head of the receive buffer, with the conditions of R168 met. -/
theorem requestReady_some {s : State} {f : Frame} (h : s.requestReady = some f) :
    HeadRequest f s.link.buffer.tail s := by
  unfold State.requestReady at h
  split at h
  case isTrue hc =>
    obtain ⟨hr, ht, hd⟩ := hc
    cases hb : s.link.buffer with
    | nil => simp [hb] at h
    | cons g gs =>
      simp [hb] at h
      exact ⟨by simp [hb, h], by simpa using hr, ht, hd⟩
  case isFalse => cases h

/-- The head of the receive buffer is the ready request where the conditions of R168 are met. -/
theorem requestReady_of_head {s : State} {f : Frame} {rest : List Frame} (h : HeadRequest f rest s) :
    s.requestReady = some f := by
  obtain ⟨hb, hr, ht, hd⟩ := h
  simp [State.requestReady, hb, hr, ht, hd]

/-- The four outcomes of taking a request: none is ready or it is another command's, its length is refused, or the owning block
acts on it. -/
theorem takeRequest_cases (kind : Byte) (mine : List Byte → Bool) (lengthOk : Nat → Bool) (bad : State → List Byte)
    (act : Frame → State → State) (s : State) :
    takeRequest kind mine lengthOk bad act s = s
    ∨ ∃ f, s.requestReady = some f ∧ f.kind = kind ∧ mine f.payload = true
        ∧ ((lengthOk f.payload.length = true ∧ takeRequest kind mine lengthOk bad act s = act f (popRequest s))
          ∨ (lengthOk f.payload.length = false
              ∧ takeRequest kind mine lengthOk bad act s = putReply f .badLength (bad s) (popRequest s))) := by
  unfold takeRequest
  cases hr : s.requestReady with
  | none => exact .inl rfl
  | some f =>
    by_cases hm : f.kind = kind ∧ mine f.payload = true
    · right
      refine ⟨f, rfl, hm.1, hm.2, ?_⟩
      cases hl : lengthOk f.payload.length with
      | true => exact .inl ⟨rfl, by simp [hm, hl]⟩
      | false => exact .inr ⟨rfl, by simp [hm, hl]⟩
    · left
      simp only [hm, if_false]

/-- A property that the taking of a frame, the placing of a reply and the owning block keep is kept by the request. -/
theorem takeRequest_closed (Q : State → Prop) (kind : Byte) (mine : List Byte → Bool) (lengthOk : Nat → Bool)
    (bad : State → List Byte) (act : Frame → State → State) (s : State) (hs : Q s) (hpop : ∀ s, Q s → Q (popRequest s))
    (hput : ∀ f c x s, Q s → Q (putReply f c x s)) (hact : ∀ f t, Q t → Q (act f t)) :
    Q (takeRequest kind mine lengthOk bad act s) := by
  rcases takeRequest_cases kind mine lengthOk bad act s with h | ⟨f, -, -, -, ⟨-, h⟩ | ⟨-, h⟩⟩
  · rwa [h]
  · rw [h]; exact hact f _ (hpop s hs)
  · rw [h]; exact hput _ _ _ _ (hpop s hs)

/-- The request at the head of the receive buffer, of the command's kind and of an allowed length, reaches its block. -/
theorem takeRequest_head {kind : Byte} {mine : List Byte → Bool} {lengthOk : Nat → Bool} {bad : State → List Byte}
    {act : Frame → State → State} {s : State} {f : Frame} {rest : List Frame} (h : HeadRequest f rest s)
    (hk : f.kind = kind) (hm : mine f.payload = true) (hl : lengthOk f.payload.length = true) :
    takeRequest kind mine lengthOk bad act s = act f (popRequest s) := by
  simp [takeRequest, requestReady_of_head h, hk, hm, hl]

/-- The request at the head of the receive buffer, of the command's kind and of a length not allowed, is answered
BAD_LENGTH. -/
theorem takeRequest_badLength {kind : Byte} {mine : List Byte → Bool} {lengthOk : Nat → Bool} {bad : State → List Byte}
    {act : Frame → State → State} {s : State} {f : Frame} {rest : List Frame} (h : HeadRequest f rest s)
    (hk : f.kind = kind) (hm : mine f.payload = true) (hl : lengthOk f.payload.length = false) :
    takeRequest kind mine lengthOk bad act s = putReply f .badLength (bad s) (popRequest s) := by
  simp [takeRequest, requestReady_of_head h, hk, hm, hl]

/-- Where no request is ready, a request command does nothing. -/
theorem takeRequest_none {kind : Byte} {mine : List Byte → Bool} {lengthOk : Nat → Bool} {bad : State → List Byte}
    {act : Frame → State → State} {s : State} (h : s.requestReady = none) :
    takeRequest kind mine lengthOk bad act s = s := by simp [takeRequest, h]

/-- The same for a request all of whose frames are its own. -/
theorem takePlain_head {kind : Byte} {lengthOk : Nat → Bool} {act : Frame → State → State} {s : State} {f : Frame}
    {rest : List Frame} (h : HeadRequest f rest s) (hk : f.kind = kind) (hl : lengthOk f.payload.length = true) :
    takePlain kind lengthOk act s = act f (popRequest s) := takeRequest_head h hk rfl hl

theorem takePlain_closed (Q : State → Prop) (kind : Byte) (lengthOk : Nat → Bool) (act : Frame → State → State) (s : State)
    (hs : Q s) (hpop : ∀ s, Q s → Q (popRequest s)) (hput : ∀ f c x s, Q s → Q (putReply f c x s))
    (hact : ∀ f t, Q t → Q (act f t)) : Q (takePlain kind lengthOk act s) :=
  takeRequest_closed Q kind _ lengthOk _ act s hs hpop hput hact

namespace RaceClosed

variable {Q : State → Prop} (h : RaceClosed Q) (hput : ∀ f c x s, Q s → Q (putReply f c x s))
include h hput

theorem actLoadEvent {s : State} (f : Frame) (hs : Q s) : Q (actLoadEvent f s) := by
  unfold Machine.actLoadEvent
  dsimp only
  (repeat' split) <;> apply hput <;>
    first | with_reducible exact hs | exact h.watchCheck (h.setRaceState _ (h.clearField _ hs))

theorem actSetLane {s : State} (f : Frame) (hs : Q s) : Q (actSetLane f s) := by
  unfold Machine.actSetLane
  dsimp only
  split
  · exact hput _ _ _ _ hs
  split
  · exact hput _ _ _ _ hs
  case isFalse hn =>
    have hn : (byteAt f.payload 0).toNat < 10 := by simpa [Config.laneCount] using hn
    split
    · exact hput _ _ _ _ hs
    split
    · exact hput _ _ _ _ hs
    · exact hput _ _ _ _ (h.watchCheck (h.markLaneRow _ hn (h.updLane _ _ (h.setLaneState _ hn _ hs))))

theorem actSetRecord {s : State} (f : Frame) (hs : Q s) : Q (actSetRecord f s) := by
  unfold Machine.actSetRecord
  dsimp only
  (repeat' split) <;> apply hput <;> first | with_reducible exact hs | exact h.race s _ hs

theorem actClearRace {s : State} (f : Frame) (hs : Q s) : Q (actClearRace f s) :=
  hput _ _ _ _ (h.answerClear (h.setRaceState _ (h.clearField _ hs)))

theorem actArm {s : State} (f : Frame) (hs : Q s) : Q (actArm f s) := by
  unfold Machine.actArm
  dsimp only
  (repeat' split) <;> apply hput
  · exact hs
  · exact hs
  · exact h.watchCheck (h.setRaceState _
      (forEach_closed Q _ _ _ (fun n hn t ht => h.armLane n (lt_of_mem_laneNumbers hn) ht) hs))

theorem actRecall {s : State} (f : Frame) (hs : Q s) : Q (actRecall f s) := by
  unfold Machine.actRecall
  (repeat' split) <;> apply hput
  · exact h.watchCheck (h.setRaceState _
      (forEach_closed Q _ _ _ (fun n hn t ht => h.recallArmedLane n (lt_of_mem_laneNumbers hn) ht) hs))
  · exact hs
  · exact h.watchCheck (h.recallRunning hs)
  · exact hs

theorem actStop {s : State} (f : Frame) (hs : Q s) : Q (actStop f s) := by
  unfold Machine.actStop
  dsimp only
  split <;> apply hput
  · exact hs
  · refine h.watchCheck (h.setRaceState _ (h.stopLaneLamps ?_))
    refine forEach_closed Q _ _ _ (fun n hn t ht => h.dnfLane n (lt_of_mem_laneNumbers (List.mem_filter.mp hn).1) ht) ?_
    exact forEach_closed Q _ _ _ (fun n hn t ht => h.resolveLane n (lt_of_mem_laneNumbers (List.mem_filter.mp hn).1) ht) hs

theorem actClose {s : State} (f : Frame) (hs : Q s) : Q (actClose f s) := by
  unfold Machine.actClose
  dsimp only
  (repeat' split) <;> apply hput <;> first | with_reducible exact hs | exact h.watchCheck (h.setRaceState _ hs)

omit h hput in
/-- An accepted ADJUST_LENGTH names a lane. -/
theorem adjustCheck_lane {p : List Byte} {s : State} (hc : adjustCheck p s = none) : (byteAt p 0).toNat < 10 := by
  unfold adjustCheck at hc
  dsimp only at hc
  split at hc
  · cases hc
  split at hc
  · cases hc
  · simp_all [Config.laneCount]

theorem actAdjustPlus {s : State} (f : Frame) (hs : Q s) : Q (actAdjustPlus f s) := by
  unfold Machine.actAdjustPlus
  dsimp only
  split
  · exact hput _ _ _ _ hs
  case h_2 hc => exact hput _ _ _ _ (h.syncFinalLength _ (h.appendSplit _ (adjustCheck_lane hc) _ _ _ hs))

theorem actAdjustMinus {s : State} (f : Frame) (hs : Q s) : Q (actAdjustMinus f s) := by
  unfold Machine.actAdjustMinus
  dsimp only
  split
  · exact hput _ _ _ _ hs
  case h_2 hc => exact hput _ _ _ _ (h.removeTail _ (adjustCheck_lane hc) hs)

omit h hput in
/-- An accepted ADJUDICATE names a lane. -/
theorem adjudicateCheck_lane {p : List Byte} {s : State} (hc : adjudicateCheck p s = none) : (byteAt p 0).toNat < 10 := by
  unfold adjudicateCheck at hc
  dsimp only at hc
  split at hc
  · cases hc
  split at hc
  · cases hc
  · simp_all [Config.laneCount]

theorem actAdjudicate {s : State} (f : Frame) (hs : Q s) : Q (actAdjudicate f s) := by
  unfold Machine.actAdjudicate
  dsimp only
  split
  case h_1 hc _ => exact hput _ _ _ _ (h.watchCheck (h.adjudicateLane _ (adjudicateCheck_lane hc) _ _ hs))
  · exact hput _ _ _ _ hs
  · exact hput _ _ _ _ hs

omit h hput in
/-- An accepted DECLARE names a lane. -/
theorem declareCheck_lane {rok : RaceState → Bool} {lok : Lane → Bool} {p : List Byte} {s : State}
    (hc : declareCheck rok lok p s = none) : (byteAt p 0).toNat < 10 := by
  unfold declareCheck at hc
  dsimp only at hc
  split at hc
  · cases hc
  split at hc
  · cases hc
  split at hc
  · cases hc
  · simp_all [Config.laneCount]

theorem actDeclare {s : State} (rok : RaceState → Bool) (lok : Lane → Bool) (effect : Nat → State → State) (f : Frame)
    (he : ∀ n < 10, ∀ t, Q t → Q (effect n t)) (hs : Q s) : Q (actDeclare rok lok effect f s) := by
  unfold Machine.actDeclare
  dsimp only
  split
  · exact hput _ _ _ _ hs
  case h_2 hc => exact hput _ _ _ _ (h.watchCheck (he _ (declareCheck_lane hc) _ hs))

end RaceClosed

end Sys2Proof.Machine
end

