-- ==== Sys2Proof/Tests/Slice0.lean ====
section
/-!
SUPPORT. The modeller's own tests: the smoke test of WellFormed, small tests of the commands with expected values from the
worked sequences and tables of spec/ (each names its source), and, for every statement of Certificates/Slice0/Obligations.lean
that has hypotheses, a witness: a state and operands that meet them together, at the boundaries of their ranges.
-/
namespace Sys2Proof.Tests
open Sys2Proof Sys2Proof.Machine

-- One theorem at a time: each `decide +kernel` waits for the kernel, and the waiting threads take more memory than the tests.
set_option Elab.async false

/-! ## Small states -/

/-- The next state of a command; a stop would leave the state as it was. -/
def does (c : Instr) (s : State) : State :=
  match exec c s with
  | .next t => t
  | .fault _ => s
  | .refused _ => s

/-- A frame with tag 7. -/
def frm (k : Byte) (p : List Byte) : Frame := { kind := k, tag := 7, payload := p }

/-- The state with one frame in the receive buffer. -/
def ask (k : Byte) (p : List Byte) (s : State) : State := { s with link := { s.link with buffer := [frm k p] } }

/-- The payload of the reply that a request gets. -/
def answer (c : Instr) (k : Byte) (p : List Byte) (s : State) : Option (List Byte) :=
  (does c (ask k p s)).link.reply.map (·.payload)

/-- The kinds and payloads of the notices that a state holds. -/
def told (s : State) : List (Byte × List Byte) := s.link.notices.map (fun f => (f.kind, f.payload))

/-- A state with an event, a start tick of 0 once the race has run, and lanes from lane 0 on. -/
def inState (r : RaceState) (e : EventDesc) (ls : List Lane) (now : Tick) : State :=
  { State.reset with
    tick := now
    race := { Race.cleared with
      state := r, event := some e, startTick := if r = .running ∨ r = .unofficial then some 0 else none }
    lanes := ls ++ List.replicate (10 - ls.length) Lane.blank }

/-- Line `n` with a pending edge to `active`. -/
def edge (n : Nat) (lead : Tick) (active : Bool) (s : State) : State :=
  s.updLine n (fun l => { l with active := !active, pendingEdge := some { lead := lead, active := active } })

/-- Event 415 of section 5.7: 100 m freestyle. -/
def e415 : EventDesc where
  number := 415
  pool := 50
  total := 2
  kind := .individual
  start := .dive
  farFitted := true
  minLength := 160000
  buttons := 3
  window := 50000
  disagreement := 3000
  defaultLag := 0
  tolerance := 0
  recallWindow := 100000
  title := []

/-- Event 305 of section 4.8: 400 m freestyle. -/
def e305 : EventDesc := { e415 with number := 305, total := 8, minLength := 240000 }

/-- Event 520 of section 6.8: a 4×100 m relay. -/
def e520 : EventDesc := { e415 with number := 520, total := 8, kind := .relay, minLength := 200000, tolerance := 300 }

/-- Event 416 of section 5.7: 200 m breaststroke. -/
def e416 : EventDesc :=
  { e415 with number := 416, total := 4, minLength := 400000, buttons := 2, window := 60000, disagreement := 1500
              defaultLag := 1200 }

def timed (k t : Nat) : Split := timedEntry k .timed { time := t, overMark := false }

def swimmer : Lane := { Lane.blank with state := .swimming, stateAtArm := some .ready }

/-- A swimmer with these entries behind. -/
def swum (l : List Split) : Lane := { swimmer with done := l.length, splits := l }

def onBlock (l : Lane) : Lane := { l with tracking := .loaded }

/-- A relay swimmer of event 520 with a held reaction release, before length 2 ends. -/
def relaySwimmer : Lane := onBlock { swum [timed 1 247600] with reactionTick := some 6500, reaction := some 6500 }

/-- The same lane with takeoff 1 stored at `t`. -/
def leftAt (t : Nat) : Lane :=
  { relaySwimmer with takeoffs := 1, exchange1 := { takeoff := some t, margin := none, status := .pending } }

def seen (t : Nat) : Evidence := { time := t, overMark := false }

/-- Lane 0's line `n` confirmed active at `now`, in a RUNNING race with lane 0 as given. -/
def running (e : EventDesc) (l : Lane) (n : Nat) (lead now : Tick) : State := edge n lead true (inState .running e [l] now)

/-- What a confirmed edge of line `n` leaves of the lane in port 0. -/
def lane0 (n : Nat) (high : Bool) (s : State) : Lane := (does (.edgeConfirmed n high) s).lane 0

/-! ## From checks to hypotheses -/

theorem head_ask (k : Byte) (p : List Byte) (s : State)
    (h : s.link.reply = none ∧ s.link.requestTaken = false ∧ s.link.resetDue = false) :
    HeadRequest (frm k p) [] (ask k p s) := ⟨rfl, h.1, h.2.1, h.2.2⟩

theorem watch_none {s : State} (h : s.link.watch = none) : WatchCurrent s := by
  intro w hw
  rw [h] at hw
  exact absurd hw (by simp)

def confirmsB (n : Nat) (high : Bool) (e : PendingEdge) (s : State) : Bool :=
  decide (n < 61 ∧ s.lines.length = 61 ∧ (s.line n).pendingEdge = some e
    ∧ normalised (s.tested.polarity (lineClass n)) high = e.active
    ∧ s.tested.deglitch (lineClass n) ≤ interval e.lead s.tick)

theorem confirms_of {n : Nat} {high : Bool} {e : PendingEdge} {s : State} (h : confirmsB n high e s = true) :
    Confirms n high e s := by
  obtain ⟨h1, h2, h3, h4, h5⟩ := of_decide_eq_true h
  exact ⟨h1, h2, h3, h4, h5⟩

/-- Line `n` is unmasked, NORMAL and READY, and the edge is to active, or line `n` is a block. -/
def deliversB (n : Nat) (e : PendingEdge) (s : State) : Bool :=
  decide ((s.line n).masked = false ∧ (s.line n).stuck = false
    ∧ (lineClass n = .block ∨ ((lineClass n = .pad ∨ lineClass n = .button) ∧ e.active = true ∧ (s.line n).rearm = .ready)
      ∨ (lineClass n = .start ∧ e.active = true ∧ (s.line n).rearm = .ready ∧ s.options.trigger = .onActivate)))

theorem delivers_of {n : Nat} {e : PendingEdge} {s : State} (h : deliversB n e s = true) : Delivers n e s := by
  obtain ⟨h1, h2, h3⟩ := of_decide_eq_true h
  refine ⟨h1, h2, ?_⟩
  rcases h3 with hc | ⟨hc | hc, h4⟩ | ⟨hc, h4⟩ <;> rw [hc]
  · trivial
  · exact h4
  · exact h4
  · exact .inl h4

theorem touch_of {n : Nat} {at0 : PoolEnd} {high : Bool} {e : PendingEdge} {s : State}
    (h : (decide (n < 10 ∧ s.lanes.length = 10) && confirmsB (padLine n at0) high e s && deliversB (padLine n at0) e s)
      = true) : Touch n at0 high e s := by
  simp only [Bool.and_eq_true, decide_eq_true_eq] at h
  exact ⟨h.1.1.1, h.1.1.2, confirms_of h.1.2, delivers_of h.2⟩

theorem press_of {n b : Nat} {high : Bool} {e : PendingEdge} {s : State}
    (h : (decide (n < 10 ∧ s.lanes.length = 10 ∧ 1 ≤ b ∧ b ≤ 3) && confirmsB (buttonLine n b) high e s
      && deliversB (buttonLine n b) e s) = true) : Press n b high e s := by
  simp only [Bool.and_eq_true, decide_eq_true_eq] at h
  exact ⟨h.1.1.1, h.1.1.2.2, h.1.1.2.1, confirms_of h.1.2, delivers_of h.2⟩

theorem block_of {n : Nat} {high : Bool} {e : PendingEdge} {s : State}
    (h : (decide (n < 10 ∧ s.lanes.length = 10) && confirmsB (blockLine n) high e s && deliversB (blockLine n) e s)
      = true) : BlockEdge n high e s := by
  simp only [Bool.and_eq_true, decide_eq_true_eq] at h
  exact ⟨h.1.1.1, h.1.1.2, confirms_of h.1.2, delivers_of h.2⟩

/-! ## WellFormed: an ill-formed term for each check -/

theorem test_wellformed_refuses_a_line :
    (Instr.pendingEdge 61 true).wellFormed = false ∧ (Instr.pendingEdgeDropped 61 true).wellFormed = false
    ∧ (Instr.edgeConfirmed 61 true).wellFormed = false ∧ (Instr.padHoldExpiry 61).wellFormed = false
    ∧ (Instr.lineStuck 61).wellFormed = false ∧ (Instr.lineStuck 60).wellFormed = true := by decide

theorem test_wellformed_refuses_a_lane :
    (Instr.backupWindowExpiry 10).wellFormed = false ∧ (Instr.splitHoldExpiry 10).wellFormed = false
    ∧ (Instr.pulseExpiry (.startFlash 10)).wellFormed = false
    ∧ (Instr.extendedExpiry (.takeoffAlert 10)).wellFormed = false ∧ (Instr.offDelayExpiry 10).wellFormed = false
    ∧ (Instr.offDelayExpiry 9).wellFormed = true := by decide

theorem test_wellformed_refuses_missing_pins :
    (Instr.powerOn { Pins.low with lines := List.replicate 60 false }).wellFormed = false
    ∧ (Instr.powerOn Pins.low).wellFormed = true := by decide

/-! ## The step and power-on -/

theorem witness_StepRunsFrontCommand :
    ({ State.reset with pending := [.status, .reset] } : State).pending = .status :: [.reset] := rfl

/-- One notice waits and TXD is free. -/
def oneDue : State := { State.reset with link := { State.reset.link with notices := [frm 0x40 []] } }

/-- A race past its clock limit, its start tick 0. -/
def overLimit (now : Tick) : State :=
  let s := inState .running e415 [swimmer] now
  { s with race := { s.race with limitMark := true } }

theorem witness_EmptyQueueTakesWhatIsDueOrATickPasses :
    (oneDue.pending = [] ∧ allDue oneDue = [.messageStart])
    ∧ ((ask 1 [] oneDue).pending = [] ∧ (allDue (ask 1 [] oneDue)).length = 2)
    ∧ (let s := { State.reset with reloads := [.pad] }
       s.pending = [] ∧ allDue s = [] ∧ 60 < s.lines.length ∧ lineClass 0 ∈ s.reloads ∧ lineClass 60 ∉ s.reloads)
    ∧ (let s := overLimit 60000249
       s.pending = [] ∧ allDue s = [] ∧ s.race.state = .running ∧ s.race.limitMark = true ∧ s.race.startTick = some 0
       ∧ 250 + 1 = interval (0 + 59999999) (s.tick + 1))
    ∧ (allDue (overLimit 60000248) = []
      ∧ 250 = interval ((0 : Tick) + 59999999) ((overLimit 60000248).tick + 1))
    ∧ Shape oneDue := by
  refine ⟨?_, ?_, ?_, ?_, ?_, ⟨rfl, rfl, rfl, rfl, rfl, rfl, rfl, rfl⟩⟩ <;> decide +kernel

/-- R6, R7 and R150: the samples of a new tick make a pending edge and the partner's taking of the board due, and, 20 ticks later,
the edge's confirmation. -/
theorem test_tick_makes_due :
    (let t := advanceTick { State.reset with pinFeed := [{ Pins.low with
        lines := Pins.low.lines.set 13 true, share := { own := true, req := false, force := false } }] }
     t.due = [.pendingEdge 13 true] ∧ t.shareDue = true
     ∧ allDue t = [.pendingEdge 13 true, .partnerTook { own := true, req := false, force := false }])
    ∧ (let s (lead : Tick) : State := edge 13 lead true { State.reset with
        tick := 19, pins := { Pins.low with lines := Pins.low.lines.set 13 true } }
       (advanceTick (s 0)).due = [.edgeConfirmed 13 true] ∧ (advanceTick (s 1)).due = []) := by decide +kernel

/-- R55: the latch is set 251 ticks behind the limit tick, not at 250, and it stays while the race is RUNNING. -/
theorem test_past_limit_latch :
    (advanceTick (overLimit 60000249)).race.pastLimit = true ∧ (advanceTick (overLimit 60000248)).race.pastLimit = false
    ∧ (advanceTick { overLimit 5 with race := { (overLimit 5).race with pastLimit := true } }).race.pastLimit = true := by
  decide +kernel

theorem witness_CommandsTouchOnlyTheirSettings : exec .headerTenths State.reset = .next State.reset := rfl

/-- RESET's reply of 7 bytes on TXD since tick 0. -/
def resetting (now : Tick) : State :=
  { State.reset with
    tick := now
    link := { State.reset.link with
      resetPending := true
      sent := some { source := .reply, bytes := (frm 0xBF [0]).bytes, timer := { start := 0, width := 13 } } } }

theorem witness_PowerOnAndResetState :
    ({ State.reset with link := { State.reset.link with resetDue := true } } : State).link.resetDue = true
    ∧ ((resetting 13).link.resetPending = true
      ∧ ∃ m, (resetting 13).link.sent = some m ∧ m.source = .reply ∧ m.timer.width ≤ interval m.timer.start (resetting 13).tick)
    := by
  refine ⟨rfl, rfl, _, rfl, rfl, ?_⟩
  decide +kernel

/-- R157 and R21: a unit powered with OWN_IN active is in PARTNER_OWNS, and a pad found active waits for its release. -/
theorem test_power_on :
    (let t := does (.powerOn { Pins.low with
        lines := true :: List.replicate 60 false, share := { own := true, req := false, force := false } }) State.reset
     t.share.state = .partnerOwns ∧ (t.line 0).active = true ∧ (t.line 0).rearm = .waitRelease ∧ (t.line 1).rearm = .ready)
    := by decide +kernel

/-- R178: at the tick the reply's last byte ends the reset takes effect, and not a tick earlier. -/
theorem test_reset_takes_effect :
    (does .resetTakesEffect (resetting 13)).tick = 0 ∧ (does .resetTakesEffect (resetting 12)).tick = 12 := by decide +kernel

/-! ## The Capture Unit -/

/-- Line 0 with an edge to active from tick 0 on. -/
def pendingPad (now : Tick) : State := edge 0 0 true { State.reset with tick := now }

theorem witness_PendingEdgesAreRecordedAndConfirmed :
    ((State.reset.line 60).pendingEdge = none
      ∧ normalised (State.reset.tested.polarity (lineClass 60)) true ≠ (State.reset.line 60).active)
    ∧ (((pendingPad 3).line 0).pendingEdge ≠ none
      ∧ normalised ((pendingPad 3).tested.polarity (lineClass 0)) false = ((pendingPad 3).line 0).active)
    ∧ Confirms 0 true { lead := 0, active := true } (pendingPad 20)
    ∧ ¬ Delivers 0 { lead := 0, active := true } ((pendingPad 20).updLine 0 (fun l => { l with masked := true })) := by
  refine ⟨by decide +kernel, by decide +kernel, confirms_of (by decide +kernel), ?_⟩
  intro h
  exact absurd h.1 (by decide +kernel)

/-- Section 1.12: a level first seen at 100,000 is pending from there, and dropped when it returns at 100,003. -/
theorem test_pending_edge :
    ((does (.pendingEdge 13 true) { State.reset with tick := 100000 }).line 13).pendingEdge
      = some { lead := 100000, active := true } := by decide +kernel

theorem test_pending_edge_dropped :
    ((does (.pendingEdgeDropped 13 false) (edge 13 100000 true { State.reset with tick := 100003 })).line 13).pendingEdge
      = none := by decide +kernel

/-- Section 1.12: the break of 100,900, confirmed at 100,920, starts the hold from 100,900; it expires at 102,900. -/
theorem test_edge_confirmed_break :
    (let s := (edge 13 100900 false { State.reset with tick := 100920 }).updLine 13 (fun l => { l with rearm := .waitRelease })
     ((does (.edgeConfirmed 13 false) s).line 13).rearm = .hold 100900) := by decide +kernel

theorem test_pad_hold_expiry :
    (let s (now : Tick) : State := ({ State.reset with tick := now } : State).updLine 13 (fun l => { l with rearm := .hold 100900 })
     ((does (.padHoldExpiry 13) (s 102900)).line 13).rearm = .ready
     ∧ ((does (.padHoldExpiry 13) (s 102899)).line 13).rearm = .hold 100900) := by decide +kernel

/-- Line `n` active since tick 200,000. -/
def activeSince (n : Nat) (now : Tick) : State :=
  ({ State.reset with tick := now } : State).updLine n (fun l => { l with active := true, activeSince := 200000 })

theorem witness_LineTimersExpire :
    (∃ from0, ((State.reset.updLine 13 (fun l => { l with rearm := .hold 2294967296 })).line 13).rearm = .hold from0
      ∧ State.reset.tested.padHold ≤ interval from0 State.reset.tick)
    ∧ (∀ n ∈ [0, 46, 60], lineClass n ≠ .block ∧ ((activeSince n 250001).line n).stuck = false
      ∧ ((activeSince n 250001).line n).active = true
      ∧ (activeSince n 250001).tested.stuckTime < interval ((activeSince n 250001).line n).activeSince 250001) := by
  refine ⟨⟨2294967296, ?_⟩, ?_⟩ <;> decide +kernel

/-- Section 1.12: lane 7's third button, active since 200,000, is stuck at 250,001 and not at 250,000. -/
theorem test_line_stuck :
    told (does (.lineStuck 46) (activeSince 46 250001)) = [(0x50, [2, 7] ++ bytesOf 4 250001)]
    ∧ ((does (.lineStuck 46) (activeSince 46 250000)).line 46).stuck = false := by decide +kernel

theorem witness_LineMaskSetsTheMasks :
    HeadRequest (frm 4 [0, 0, 0, 0, 0, 0, 0, 1]) [] (ask 4 [0, 0, 0, 0, 0, 0, 0, 1] (pendingPad 3))
    ∧ HeadRequest (frm 4 [0, 0, 0, 0, 0, 0, 1]) [] (ask 4 [0, 0, 0, 0, 0, 0, 1] (pendingPad 3))
    ∧ exec .headerTenths State.reset = .next State.reset :=
  ⟨head_ask _ _ _ (by decide +kernel), head_ask _ _ _ (by decide +kernel), rfl⟩

/-- Sections 1.12 and 11.9: bit 30 masks line 30 and drops its pending edge. -/
theorem test_line_mask :
    (let s := ask 4 [0, 0, 0, 0, 0x40, 0, 0, 0] (edge 30 300000 true { State.reset with tick := 300012 })
     let t := does .lineMask s
     (t.line 30).masked = true ∧ (t.line 30).pendingEdge = none ∧ (t.line 29).masked = false) := by decide +kernel

/-- R20: LINE_LEVELS shows line 46 active and stuck after section 1.12's button has stuck. -/
theorem test_line_levels :
    answer .lineLevels 5 [] (does (.lineStuck 46) (activeSince 46 250001))
      = some (0 :: ([0, 0, 0x40, 0, 0, 0, 0, 0] ++ [0, 0, 0x40, 0, 0, 0, 0, 0] ++ List.replicate 8 0)) := by decide +kernel

/-! ## The start -/

/-- Lane 0 is SET in an ARMED race, its block released at tick 998,000, and START has gone active at tick 1,000,000 (the DIVE
heat of section 3.4). -/
def starting (e : EventDesc) (l : Lane) : State := edge 60 1000000 true (inState .armed e [l] 1000005)

def setLane0 : Lane := { Lane.blank with state := .set, stateAtArm := some .ready, reactionTick := some 998000 }

theorem witness_StartStartsTheRace :
    Confirms 60 true { lead := 1000000, active := true } (starting e415 setLane0)
    ∧ Delivers 60 { lead := 1000000, active := true } (starting e415 setLane0)
    ∧ (starting e415 setLane0).lanes.length = 10 ∧ (starting e415 setLane0).race.state = .armed
    ∧ (∃ l ∈ (starting e415 setLane0).lanes, l.state = .set)
    ∧ ((starting e415 setLane0).event.start = .dive ∧ ((starting e415 setLane0).lane 0).reactionTick = some 998000)
    ∧ (starting { e415 with start := .water } setLane0).event.start = .water :=
  ⟨confirms_of (by decide +kernel), delivers_of (by decide +kernel), by decide +kernel⟩

/-- Section 3.4: the start tick is the leading edge; a release of 998,000 reacts −2,000, early, after RACE_STATE and STARTED. -/
theorem test_race_start :
    (let t := does (.edgeConfirmed 60 true) (starting e415 setLane0)
     t.race.startTick = some 1000000 ∧ (t.lane 0).state = .swimming ∧ (t.lane 0).reaction = some (-2000)
     ∧ (t.lane 0).earlyRelease = true ∧ (told t).map (·.1) = [0x40, 0x41, 0x43]) := by decide +kernel

theorem witness_StartIsIgnoredOtherwise :
    (let s := edge 60 0 true { State.reset with tick := 5 }
     Confirms 60 true { lead := 0, active := true } s ∧ s.lanes.length = 10 ∧ WatchCurrent s
     ∧ Delivers 60 { lead := 0, active := true } s ∧ s.race.state ≠ .armed)
    ∧ (let s := starting e415 Lane.blank
       Confirms 60 true { lead := 1000000, active := true } s ∧ s.lanes.length = 10 ∧ WatchCurrent s
       ∧ Delivers 60 { lead := 1000000, active := true } s ∧ s.race.state = .armed ∧ ∀ l ∈ s.lanes, l.state ≠ .set)
    ∧ (let s := (starting e415 setLane0).updLine 60 (fun l => { l with masked := true })
       Confirms 60 true { lead := 1000000, active := true } s ∧ s.lanes.length = 10 ∧ WatchCurrent s
       ∧ ¬ Delivers 60 { lead := 1000000, active := true } s) := by
  refine ⟨⟨confirms_of (by decide +kernel), by decide +kernel, watch_none rfl, delivers_of (by decide +kernel), by decide +kernel⟩,
    ⟨confirms_of (by decide +kernel), by decide +kernel, watch_none rfl, delivers_of (by decide +kernel), by decide +kernel⟩,
    ⟨confirms_of (by decide +kernel), by decide +kernel, watch_none rfl, fun h => absurd h.1 (by decide +kernel)⟩⟩

/-! ## Race times -/

theorem witness_RaceTimesAndTheClockLimit :
    (let s (now : Tick) : State := inState .running e415 [swimmer] now
     (s 1).race.startTick = some 0 ∧ (s 1).race.pastLimit = false ∧ (s 1).race.limitMark = false
     ∧ interval 0 (s 1).tick < interval 4294967295 (s 1).tick
     ∧ (interval 59999999 (s 60000200).tick ≤ interval 0 (s 60000200).tick ∧ interval 0 59999999 ≤ 59999999)
     ∧ (interval 60000000 (s 60000200).tick ≤ interval 0 (s 60000200).tick ∧ 59999999 < interval 0 60000000)
     ∧ (s 59999999).race.state = .running ∧ (s 59999999).tick = 0 + 59999999)
    ∧ (let s : State := { State.reset with race := { Race.cleared with startTick := some 0, limitMark := true, pastLimit := true } }
       s.race.startTick = some 0 ∧ s.race.limitMark = true ∧ s.race.pastLimit = true)
    ∧ (let s : State := { overLimit 60000250 with race := { (overLimit 60000250).race with pastLimit := true } }
       exec .headerTenths s = .next s ∧ s.race.pastLimit = true ∧ s.race.state = .running) :=
  ⟨by decide +kernel, by decide +kernel, rfl, rfl, rfl⟩

/-- R2's example: with the start tick 4,294,960,000, a touch stamped 12,704 has the race time 20,000. -/
theorem test_race_time_wraps :
    ({ inState .running e415 [] 12724 with
      race := { (inState .running e415 [] 0).race with startTick := some 4294960000 } } : State).raceTime 12704 = seen 20000 := by
  decide +kernel

/-- R55 and R56: the mark and CLOCK_LIMIT at the limit tick. -/
theorem test_clock_limit :
    (let t := does .clockLimit (inState .running e415 [swimmer] 59999999)
     t.race.limitMark = true ∧ told t = [(0x50, [7, 0xFF] ++ bytesOf 4 59999999)] ∧ does .clockLimit t = t) := by
  decide +kernel

/-! ## Touches and splits -/

theorem witness_OrdinaryTouchAppendsASplit :
    (let s := running e305 swimmer 0 240000 240020
     Touch 0 .far true { lead := 240000, active := true } s ∧ WatchCurrent s ∧ (s.lane 0).state = .swimming
     ∧ (s.lane 0).farTiming = .fitted ∧ PoolEnd.far = endOf ((s.lane 0).done + 1) ∧ (s.lane 0).done + 1 < s.event.total
     ∧ lengthLimit s.event (s.lane 0) 1 = (s.raceTime 240000).time ∧ NoExchange s.event ((s.lane 0).done + 1)
     ∧ s.board.holds.length = 10) := by
  refine ⟨touch_of (by decide +kernel), watch_none rfl, by decide +kernel, by decide +kernel, by decide +kernel,
    by decide +kernel, by decide +kernel, .inl (by decide +kernel), by decide +kernel⟩

/-- Section 4.8: lane 3's far touch of 279,410 is length 1 and hands its SPLIT. -/
theorem test_ordinary_touch :
    (let t := does (.edgeConfirmed 0 true) (running e305 swimmer 0 279410 279430)
     (t.lane 0).splits = [timed 1 279410] ∧ (t.lane 0).done = 1 ∧ t.board.queue = [1, 12]
     ∧ told t = [(0x44, [0, 1, 0] ++ bytesOf 4 279410 ++ [0])]) := by decide +kernel

theorem witness_MissedTurnAppendsTwoEntries :
    (let s := running e305 (swum [timed 1 279410, timed 2 581250]) 1 1061250 1061270
     Touch 0 .near true { lead := 1061250, active := true } s ∧ WatchCurrent s ∧ (s.lane 0).state = .swimming
     ∧ PoolEnd.near ≠ endOf ((s.lane 0).done + 1) ∧ (s.lane 0).done + 2 < s.event.total
     ∧ lengthLimit s.event (s.lane 0) 2 = (s.raceTime 1061250).time ∧ s.event.kind ≠ .relay
     ∧ s.board.holds.length = 10)
    ∧ (let s := running e305 { swimmer with farTiming := .untimed } 1 480000 480020
       Touch 0 .near true { lead := 480000, active := true } s ∧ WatchCurrent s
       ∧ endOf ((s.lane 0).done + 1) = .far ∧ (s.lane 0).farTiming = .untimed
       ∧ lengthLimit s.event (s.lane 0) 2 = (s.raceTime 480000).time)
    ∧ (let s := running e520 (leftAt 512100) 0 647600 647620
       Touch 0 .far true { lead := 647600, active := true } s ∧ WatchCurrent s ∧ (s.lane 0).state = .swimming
       ∧ (s.lane 0).farTiming = .fitted ∧ PoolEnd.far ≠ endOf ((s.lane 0).done + 1)
       ∧ (s.lane 0).done + 2 < s.event.total ∧ lengthLimit s.event (s.lane 0) 2 = (s.raceTime 647600).time
       ∧ unjudgedBy s.event (s.lane 0) = some 1 ∧ (s.lane 0).done + 2 ≠ 1 * (s.event.total / 4)
       ∧ (s.lane 0).done + 2 ≠ 2 * (s.event.total / 4))
    ∧ (let s := running e520 { leftAt 512100 with splits := [], done := 0 } 1 512340 512360
       Touch 0 .near true { lead := 512340, active := true } s ∧ WatchCurrent s ∧ s.event.kind = .relay
       ∧ 0 < s.event.total / 4 ∧ (s.lane 0).done + 2 = 1 * (s.event.total / 4)
       ∧ (((s.lane 0).withMissing s.event).exchange 1).takeoff = some 512100
       ∧ lengthLimit s.event (s.lane 0) 2 ≤ (s.raceTime 512340).time) := by
  refine ⟨⟨touch_of ?_, watch_none rfl, ?_⟩, ⟨touch_of ?_, watch_none rfl, ?_⟩, ⟨touch_of ?_, watch_none rfl, ?_⟩,
    touch_of ?_, watch_none rfl, ?_⟩ <;> decide +kernel

/-- Section 4.8: the near touch of 1,193,800 appends MISSED L3 and TIMED L4. -/
theorem test_missed_turn :
    (let l := lane0 1 true (running e305 (swum [timed 1 279410, timed 2 581250]) 1 1193800 1193820)
     l.splits = [timed 1 279410, timed 2 581250, untimedEntry 3 .missed, timed 4 1193800] ∧ l.done = 4 ∧ l.misses = 1) := by
  decide +kernel

/-- R101: a MISSED entry at length 2 of event 520 leaves exchange 1 UNJUDGED with its takeoff, between the two SPLIT notices. -/
theorem test_missed_exchange :
    (let t := does (.edgeConfirmed 0 true) (running e520 (leftAt 512100) 0 700000 700020)
     (t.lane 0).exchange1 = { takeoff := some 512100, margin := none, status := .unjudged }
     ∧ (t.lane 0).splits = [timed 1 247600, untimedEntry 2 .missed, timed 3 700000]
     ∧ (told t).map (·.1) = [0x44, 0x47, 0x44]) := by decide +kernel

/-- A lane in FINISHING with pad evidence. -/
def finisher (pad : Option Evidence) : Lane :=
  { swum [timed 1 234000] with state := .finishing, pad := pad, first := some (seen 478321)
                               window := some { start := 478321, width := 50000 } }

theorem witness_StrayTouchesAndPressesChangeNothing :
    (let s := running e305 Lane.blank 0 240000 240020
     Touch 0 .far true { lead := 240000, active := true } s ∧ WatchCurrent s
     ∧ (s.lane 0).state ≠ .swimming ∧ (s.lane 0).state ≠ .finishing)
    ∧ (let s := running e305 swimmer 0 239999 240020
       Touch 0 .far true { lead := 239999, active := true } s ∧ PoolEnd.far = endOf ((s.lane 0).done + 1)
       ∧ (s.raceTime 239999).time + 1 = lengthLimit s.event (s.lane 0) 1
       ∧ s.lamps.finalLength[0]?.map (·.input) = some (decide (8 ≤ s.event.total ∧ (s.lane 0).done + 1 = s.event.total)))
    ∧ (let s := running e305 swimmer 1 479999 480020
       Touch 0 .near true { lead := 479999, active := true } s ∧ PoolEnd.near ≠ endOf ((s.lane 0).done + 1)
       ∧ (s.raceTime 479999).time + 1 = lengthLimit s.event (s.lane 0) 2)
    ∧ (let s := running e415 (finisher none) 1 393999 394020
       Touch 0 .near true { lead := 393999, active := true } s ∧ (s.lane 0).state = .finishing
       ∧ PoolEnd.near = endOf s.event.total ∧ (s.raceTime 393999).time + 1 = lengthLimit s.event (s.lane 0) 1)
    ∧ (let s := running e415 (swum [timed 1 234000]) 2 393999 394050
       Press 0 1 true { lead := 393999, active := true } s ∧ (s.lane 0).done + 1 = s.event.total
       ∧ (s.raceTime 393999).time + 1 = lengthLimit s.event (s.lane 0) 1)
    ∧ (let s := running e416 (swum [timed 1 430000, timed 2 900000]) 2 1699999 1700050
       Press 0 1 true { lead := 1699999, active := true } s ∧ (s.lane 0).done + 2 = s.event.total
       ∧ (s.raceTime 1699999).time + 1 = lengthLimit s.event (s.lane 0) 2)
    ∧ (let s := running e416 (swum [timed 1 430000, timed 2 900000]) 4 1900000 1900050
       Press 0 3 true { lead := 1900000, active := true } s ∧ s.event.buttons + 1 = 3)
    ∧ (let s := running e415 { finisher none with press1 := some (seen 480810) } 2 490000 490050
       Press 0 1 true { lead := 490000, active := true } s ∧ (s.lane 0).state = .finishing ∧ (s.lane 0).press 1 ≠ none) := by
  refine ⟨⟨touch_of ?_, watch_none rfl, ?_⟩, ⟨touch_of ?_, ?_⟩, ⟨touch_of ?_, ?_⟩, ⟨touch_of ?_, ?_⟩, ⟨press_of ?_, ?_⟩,
    ⟨press_of ?_, ?_⟩, ⟨press_of ?_, ?_⟩, press_of ?_, ?_⟩ <;> decide +kernel

/-- Section 4.8: the foot strike of 284,900 at the far end is stray: 284,900 < 759,410. -/
theorem test_stray_touch :
    (let s := running e305 (swum [timed 1 279410]) 0 284900 284920
     lane0 0 true s = s.lane 0 ∧ told (does (.edgeConfirmed 0 true) s) = []) := by decide +kernel

/-! ## Finish evidence and resolution -/

/-- The pad at the near end of lane 0 is masked. -/
def padMasked (s : State) : State := s.updLine 1 (fun l => { l with masked := true })

theorem witness_TouchOrPressOpensTheFinish :
    (let s := running e415 (swum [timed 1 234000]) 1 394000 394020
     Touch 0 .near true { lead := 394000, active := true } s ∧ (s.lane 0).state = .swimming
     ∧ PoolEnd.near = endOf ((s.lane 0).done + 1) ∧ (s.lane 0).done + 1 = s.event.total
     ∧ lengthLimit s.event (s.lane 0) 1 = (s.raceTime 394000).time ∧ PressAwaited 0 0 s)
    ∧ (let s := running { e415 with buttons := 0 } (swum [timed 1 234000]) 1 394000 394020
       Touch 0 .near true { lead := 394000, active := true } s ∧ ¬ PressAwaited 0 0 s
       ∧ (s.lane 0).done + 1 = s.event.total ∧ ∀ x ∈ (s.lane 0).splits, x.kind ≠ .final)
    ∧ (let s := running e415 swimmer 1 320000 320020
       Touch 0 .near true { lead := 320000, active := true } s ∧ PoolEnd.near ≠ endOf ((s.lane 0).done + 1)
       ∧ (s.lane 0).done + 2 = s.event.total ∧ lengthLimit s.event (s.lane 0) 2 = (s.raceTime 320000).time
       ∧ PressAwaited 0 0 s)
    ∧ (let s := running { e415 with buttons := 0 } swimmer 1 320000 320020
       Touch 0 .near true { lead := 320000, active := true } s ∧ (s.lane 0).done + 2 = s.event.total ∧ ¬ PressAwaited 0 0 s
       ∧ ∀ x ∈ ((s.lane 0).withMissing s.event).splits, x.kind ≠ .final)
    ∧ (let s := running e415 (swum [timed 1 234000]) 2 394000 394050
       Press 0 1 true { lead := 394000, active := true } s ∧ (s.lane 0).state = .swimming ∧ 1 ≤ s.event.buttons
       ∧ PressAwaited 1 0 s ∧ PadAwaited 0 s ∧ (s.lane 0).done + 1 = s.event.total
       ∧ lengthLimit s.event (s.lane 0) 1 = (s.raceTime 394000).time)
    ∧ (let s := running e416 (swum [timed 1 430000, timed 2 900000]) 3 1700000 1700050
       Press 0 2 true { lead := 1700000, active := true } s ∧ 2 = s.event.buttons ∧ PadAwaited 0 s
       ∧ (s.lane 0).done + 2 = s.event.total ∧ lengthLimit s.event (s.lane 0) 2 = (s.raceTime 1700000).time)
    ∧ (let s := padMasked (running { e415 with buttons := 1 } (swum [timed 1 234000]) 2 394000 394050)
       Press 0 1 true { lead := 394000, active := true } s ∧ 1 = s.event.buttons ∧ ¬ PressAwaited 1 0 s ∧ ¬ PadAwaited 0 s
       ∧ (s.lane 0).done + 1 = s.event.total ∧ ∀ x ∈ (s.lane 0).splits, x.kind ≠ .final)
    ∧ (let s := padMasked (running { e415 with buttons := 1 } swimmer 2 320000 320050)
       Press 0 1 true { lead := 320000, active := true } s ∧ ¬ PressAwaited 1 0 s ∧ ¬ PadAwaited 0 s
       ∧ (s.lane 0).done + 2 = s.event.total ∧ ∀ x ∈ ((s.lane 0).withMissing s.event).splits, x.kind ≠ .final) := by
  have none0 (l : Lane) (k : Nat) (x y : Tick) : ¬ PressAwaited 0 0 (running { e415 with buttons := 0 } l k x y) := by
    rintro ⟨b, -, h1, -, h2, -⟩
    exact absurd h2 (by show ¬ b ≤ 0; omega)
  have none1 (l : Lane) (k : Nat) (x y : Tick) :
      ¬ PressAwaited 1 0 (padMasked (running { e415 with buttons := 1 } l k x y)) := by
    rintro ⟨b, h0, h1, -, h2, -⟩
    exact h0 (by have : b ≤ 1 := h2; omega)
  refine ⟨⟨touch_of (by decide +kernel), by decide +kernel, by decide +kernel, by decide +kernel, by decide +kernel,
      1, by decide +kernel⟩,
    ⟨touch_of (by decide +kernel), none0 _ _ _ _, by decide +kernel⟩,
    ⟨touch_of (by decide +kernel), by decide +kernel, by decide +kernel, by decide +kernel, 1, by decide +kernel⟩,
    ⟨touch_of (by decide +kernel), by decide +kernel, none0 _ _ _ _, by decide +kernel⟩,
    ⟨press_of (by decide +kernel), by decide +kernel, by decide +kernel, ⟨2, by decide +kernel⟩,
      by unfold PadAwaited; decide +kernel, by decide +kernel, by decide +kernel⟩,
    ⟨press_of (by decide +kernel), by decide +kernel, by unfold PadAwaited; decide +kernel, by decide +kernel,
      by decide +kernel⟩,
    ⟨press_of (by decide +kernel), by decide +kernel, none1 _ _ _ _, by unfold PadAwaited; decide +kernel, by decide +kernel⟩,
    press_of (by decide +kernel), none1 _ _ _ _, by unfold PadAwaited; decide +kernel, by decide +kernel⟩

/-- Section 5.7: lane 4's touch of 478,321 opens its finish with the window from there; the race hears nothing yet. -/
theorem test_finish_touch :
    (let l := lane0 1 true (running e415 (swum [timed 1 234000]) 1 478321 478341)
     l.state = .finishing ∧ l.pad = some (seen 478321) ∧ l.done = 1
     ∧ l.window = some { start := 478321, width := 50000 }) := by decide +kernel

/-- R65 and R81: with no button in use a missed turn in the last length appends L1 MISSED, and the lane is resolved at once. -/
theorem test_missed_turn_finishes :
    (let t := does (.edgeConfirmed 1 true) (running { e415 with buttons := 0 } swimmer 1 330000 330020)
     (t.lane 0).state = .finished ∧ (t.lane 0).splits = [untimedEntry 1 .missed, { timed 2 330000 with kind := .final }]
     ∧ (told t).map (·.1) = [0x44, 0x44, 0x45, 0x4A, 0x40]) := by decide +kernel

/-- Section 5.7: BTN2 at 1,900,000 finishes one length short: MISSED L3 is appended, and the press opens the finish. -/
theorem test_press_one_length_short :
    (let l := lane0 3 true (running e416 (swum [timed 1 430000, timed 2 900000]) 3 1900000 1900050)
     l.state = .finishing ∧ l.press2 = some (seen 1900000) ∧ l.done = 3 ∧ l.misses = 1
     ∧ l.window = some { start := 1900000, width := 60000 }) := by decide +kernel

/-- Lane 3 of section 5.7 before its third press. -/
def lane3of415 : Lane :=
  { finisher (some (seen 478399)) with
    splits := [timed 1 236100], press1 := some (seen 480810), press2 := some (seen 480870) }

/-- Lane 7 of event 416 before its pad, in port 0. -/
def lane7of416 : Lane :=
  { swum [timed 1 430000, timed 2 900000, untimedEntry 3 .missed] with
    state := .finishing, press1 := some (seen 1900260), press2 := some (seen 1900000), first := some (seen 1900000)
    window := some { start := 1900000, width := 60000 } }

theorem witness_FinishEvidenceIsCountedAndResolved :
    (let s := running e415 (finisher (some (seen 478321))) 4 480730 480780
     Press 0 3 true { lead := 480730, active := true } s ∧ WatchCurrent s ∧ (s.lane 0).state = .finishing
     ∧ 3 = s.event.buttons ∧ (s.lane 0).press 3 = none ∧ PressAwaited 3 0 s)
    ∧ (let s := running e415 (finisher none) 1 394000 394020
       Touch 0 (endOf s.event.total) true { lead := 394000, active := true } s ∧ WatchCurrent s
       ∧ (s.lane 0).state = .finishing ∧ (s.lane 0).pad = none
       ∧ lengthLimit s.event (s.lane 0) 1 = (s.raceTime 394000).time ∧ PressAwaited 0 0 s)
    ∧ (let s := running e415 lane3of415 4 481020 481070
       Press 0 3 true { lead := 481020, active := true } s ∧ (s.lane 0).state = .finishing ∧ (s.lane 0).press 3 = none
       ∧ ¬ PressAwaited 3 0 s ∧ ¬ PadAwaited 0 s ∧ (s.lane 0).done + 1 = s.event.total
       ∧ ∀ x ∈ (s.lane 0).splits, x.kind ≠ .final)
    ∧ (let s := running e416 lane7of416 1 1902100 1902120
       Touch 0 (endOf s.event.total) true { lead := 1902100, active := true } s ∧ (s.lane 0).state = .finishing
       ∧ (s.lane 0).pad = none ∧ ¬ PressAwaited 0 0 s ∧ (s.lane 0).done + 1 = s.event.total
       ∧ ∀ x ∈ (s.lane 0).splits, x.kind ≠ .final) := by
  refine ⟨⟨press_of (by decide +kernel), watch_none rfl, by decide +kernel, by decide +kernel, by decide +kernel,
      1, by decide +kernel⟩,
    ⟨touch_of (by decide +kernel), watch_none rfl, by decide +kernel, by decide +kernel, by decide +kernel, 1, by decide +kernel⟩,
    ⟨press_of (by decide +kernel), by decide +kernel, by decide +kernel, ?_, by unfold PadAwaited; decide +kernel,
      by decide +kernel⟩,
    touch_of (by decide +kernel), by decide +kernel, by decide +kernel, ?_, by decide +kernel⟩
  · rintro ⟨b, h⟩
    obtain ⟨h1, h2, h3, -, -, h6⟩ := h
    interval_cases b
    · exact absurd h6 (by decide +kernel)
    · exact absurd h6 (by decide +kernel)
    · exact h1 rfl
  · rintro ⟨b, -, h2, h3, h4, -, h6⟩
    interval_cases b
    · exact absurd h6 (by decide +kernel)
    · exact absurd h6 (by decide +kernel)
    · exact absurd h4 (by decide +kernel)

/-- Section 5.7, lane 3: the third press resolves the lane on its pad, 478,399, with the sample 2,471. -/
theorem test_early_close :
    (let t := does (.edgeConfirmed 4 true) (running e415 lane3of415 4 481020 481070)
     let l := t.lane 0
     l.state = .finished ∧ l.consensus = some 480870 ∧ l.candidate = some 480870 ∧ l.result = some 478399
     ∧ t.race.lags = [{ lane := 0, delta := 2471 }] ∧ (told t).map (·.1) = [0x44, 0x45, 0x4A, 0x40]) := by decide +kernel

/-- Section 5.7, event 416: the late pad goes to REVIEW, PAD_LATE, with the candidate 1,898,930. -/
theorem test_late_pad :
    (let s := running e416 lane7of416 1 1902100 1902120
     let l := lane0 1 true { s with race := { s.race with lags := List.replicate 4 { lane := 1, delta := 1200 } } }
     l.state = .review ∧ l.reason = .padLate ∧ l.result = some 1902100 ∧ l.candidate = some 1898930 ∧ l.lagUsed = 1200) := by
  decide +kernel

/-- Lane 5 of section 5.7 at its window's expiry. -/
def windowOver : State :=
  let s := inState .running e415
    [{ finisher none with
      splits := [timed 1 231500], press1 := some (seen 492400), press2 := some (seen 492900)
      window := some { start := 492400, width := 50000 } }] 542400
  { s with race := { s.race with lags := [{ lane := 3, delta := 2471 }, { lane := 4, delta := 2629 }] } }

theorem witness_WindowExpiryResolvesTheLane :
    windowOver.lanes.length = 10 ∧ (windowOver.lane 0).state = .finishing
    ∧ (windowOver.lane 0).window = some { start := 492400, width := 50000 }
    ∧ 50000 = interval 492400 windowOver.tick ∧ (windowOver.lane 0).presses ≠ []
    ∧ (windowOver.lane 0).done + 1 = windowOver.event.total ∧ ∀ x ∈ (windowOver.lane 0).splits, x.kind ≠ .final := by
  decide +kernel

/-- Section 5.7: lane 5 resolves on its presses: 492,650 less 2,550. -/
theorem test_backup_window_expiry :
    (let t := does (.backupWindowExpiry 0) windowOver
     (t.lane 0).result = some 490100 ∧ (t.lane 0).source = .backup ∧ t.race.state = .unofficial) := by decide +kernel

theorem witness_ConsensusAndLimits :
    (swum [timed 1 279410, timed 2 581250, untimedEntry 3 .missed]).splits
      = [timed 1 279410] ++ [timed 2 581250] ++ [untimedEntry 3 .missed]
    ∧ (timed 2 581250).kind = .timed ∧ (timed 2 581250).time = some 581250
    ∧ (∀ y ∈ [untimedEntry 3 .missed], y.kind ≠ .timed ∧ y.kind ≠ .final)
    ∧ (∀ y ∈ swimmer.splits, y.kind ≠ .timed ∧ y.kind ≠ .final) := by decide +kernel

/-! ## Blocks and exchanges -/

/-- Lane 0's block confirmed released at `now`. -/
def released (r : RaceState) (e : EventDesc) (l : Lane) (lead now : Tick) : State := edge 5 lead false (inState r e [l] now)

theorem witness_BlockTrackingAndReactions :
    (let s := running e415 swimmer 5 990000 990100
     BlockEdge 0 true { lead := 990000, active := true } s ∧ (s.lane 0).state = .swimming)
    ∧ (let s := released .running e415 swimmer 990000 990100
       BlockEdge 0 false { lead := 990000, active := false } s ∧ (s.lane 0).tracking ≠ .loaded)
    ∧ (let s := released .armed e415 (onBlock { swimmer with state := .set }) 998000 998100
       BlockEdge 0 false { lead := 998000, active := false } s ∧ (s.lane 0).state = .set ∧ (s.lane 0).tracking = .loaded
       ∧ s.event.start = .dive ∧ (s.lane 0).reactionTick = none ∧ s.race.state = .armed)
    ∧ (let s := released .running e415 (onBlock swimmer) 30000 30100
       BlockEdge 0 false { lead := 30000, active := false } s ∧ s.race.state = .running ∧ s.race.startTick = some 0
       ∧ s.race.pastLimit = false ∧ interval 0 30000 = 30000)
    ∧ (let s := released .running e415 (onBlock swimmer) 4294967258 62
       BlockEdge 0 false { lead := 4294967258, active := false } s
       ∧ interval 0 s.tick < interval 4294967258 s.tick)
    ∧ (let s := released .running e415 (onBlock swimmer) 30001 30101
       BlockEdge 0 false { lead := 30001, active := false } s ∧ interval 30001 s.tick ≤ interval 0 s.tick
       ∧ interval 0 30001 = 30001)
    ∧ (let s := released .armed { e415 with start := .water } (onBlock { swimmer with state := .set }) 998000 998100
       BlockEdge 0 false { lead := 998000, active := false } s ∧ s.event.start = .water ∧ s.race.state ≠ .running)
    ∧ (let s := released .armed e520 (onBlock setLane0) 998500 998600
       BlockEdge 0 false { lead := 998500, active := false } s ∧ (s.lane 0).tracking = .loaded
       ∧ (s.lane 0).reactionTick ≠ none ∧ s.race.state ≠ .running)
    ∧ (let s := released .running { e415 with start := .water } (onBlock swimmer) 990000 990100
       BlockEdge 0 false { lead := 990000, active := false } s ∧ s.event.start = .water ∧ s.event.kind = .individual)
    ∧ (let s := released .running e520 relaySwimmer 30000 30100
       BlockEdge 0 false { lead := 30000, active := false } s ∧ s.event.kind = .relay ∧ s.event.start = .dive
       ∧ (s.lane 0).reactionTick ≠ none ∧ s.race.startTick = some 0 ∧ s.race.pastLimit = false ∧ interval 0 30000 = 30000) := by
  refine ⟨⟨block_of ?_, ?_⟩, ⟨block_of ?_, ?_⟩, ⟨block_of ?_, ?_⟩, ⟨block_of ?_, ?_⟩, ⟨block_of ?_, ?_⟩, ⟨block_of ?_, ?_⟩,
    ⟨block_of ?_, ?_⟩, ⟨block_of ?_, ?_⟩, ⟨block_of ?_, ?_⟩, block_of ?_, ?_⟩ <;> decide +kernel

/-- Section 3.4, lane 2: a release 38 ticks before the start, taken after it, reacts −38. -/
theorem test_block_release_early :
    (let l := lane0 5 false (released .running e415 (onBlock swimmer) 4294967258 62)
     l.reaction = some (-38) ∧ l.earlyRelease = true ∧ l.tracking = .released) := by decide +kernel

theorem witness_TakeoffIsStored :
    (let s := released .running e520 relaySwimmer 512100 512200
     BlockEdge 0 false { lead := 512100, active := false } s ∧ (s.lane 0).state = .swimming ∧ (s.lane 0).tracking = .loaded
     ∧ s.event.kind = .relay ∧ s.race.state = .running ∧ s.race.startTick = some 0 ∧ (s.lane 0).reactionTick ≠ none
     ∧ interval 512100 s.tick ≤ interval 0 s.tick ∧ 30000 < interval 0 512100 ∧ (s.lane 0).takeoffs < 3
     ∧ entryAt (s.lane 0).splits (((s.lane 0).takeoffs + 1) * (s.event.total / 4)) = none)
    ∧ (let s := released .running e520 { relaySwimmer with takeoffs := 3 } 512100 512200
       BlockEdge 0 false { lead := 512100, active := false } s ∧ (s.lane 0).takeoffs = 3)
    ∧ (let s := released .running { e520 with start := .water }
        { relaySwimmer with splits := [timed 1 247600, timed 2 512340], done := 2 } 512100 512400
       BlockEdge 0 false { lead := 512100, active := false } s ∧ s.event.start = .water
       ∧ entryAt (s.lane 0).splits 2 = some (timed 2 512340) ∧ (timed 2 512340).kind = .timed
       ∧ (timed 2 512340).time = some 512340)
    ∧ (let s := released .running e520
        { relaySwimmer with splits := [timed 1 247600, untimedEntry 2 .missed], done := 2 } 512100 512400
       BlockEdge 0 false { lead := 512100, active := false } s
       ∧ entryAt (s.lane 0).splits 2 = some (untimedEntry 2 .missed) ∧ (untimedEntry 2 .missed).kind ≠ .timed) := by
  refine ⟨⟨block_of ?_, ?_⟩, ⟨block_of ?_, ?_⟩, ⟨block_of ?_, ?_⟩, block_of ?_, ?_⟩ <;> decide +kernel

/-- Section 6.8: takeoff 1 at 512,100 waits for its touch. -/
theorem test_takeoff :
    (let l := lane0 5 false (released .running e520 relaySwimmer 512100 512200)
     l.takeoffs = 1 ∧ l.exchange1 = { takeoff := some 512100, margin := none, status := .pending }) := by decide +kernel

theorem witness_TouchJudgesTheExchange :
    (let s := running e520 (leftAt 512100) 1 512340 512360
     Touch 0 .near true { lead := 512340, active := true } s ∧ WatchCurrent s ∧ s.event.kind = .relay
     ∧ 0 < s.event.total / 4 ∧ (s.lane 0).done + 1 = 1 * (s.event.total / 4) ∧ (s.lane 0).state = .swimming
     ∧ PoolEnd.near = endOf ((s.lane 0).done + 1) ∧ (s.lane 0).done + 1 < s.event.total
     ∧ lengthLimit s.event (s.lane 0) 1 ≤ (s.raceTime 512340).time ∧ ((s.lane 0).exchange 1).takeoff = some 512100
     ∧ s.board.holds.length = 10)
    ∧ (let s := running e520 relaySwimmer 1 447600 447620
       Touch 0 .near true { lead := 447600, active := true } s ∧ ((s.lane 0).exchange 1).takeoff = none
       ∧ lengthLimit s.event (s.lane 0) 1 = (s.raceTime 447600).time) := by
  refine ⟨⟨touch_of (by decide +kernel), watch_none rfl, by decide +kernel⟩, touch_of (by decide +kernel), by decide +kernel⟩

/-- R102 with the tolerance 300: a margin of −300 is OK and one of −301 EARLY; section 6.8's first exchange is −240, OK. -/
theorem test_exchange_margins :
    (let x (t : Nat) := (lane0 1 true (running e520 (leftAt t) 1 512340 512360)).exchange1
     x 512100 = { takeoff := some 512100, margin := some (-240), status := .ok }
     ∧ (x 512040).status = .ok ∧ (x 512039).status = .early) := by decide +kernel

/-- R103: an EARLY exchange hands SPLIT, EXCHANGE and EARLY_TAKEOFF and lights TAKEOFF_ALERT. -/
theorem test_early_exchange :
    (let t := does (.edgeConfirmed 1 true) (running e520 (leftAt 511960) 1 512340 512360)
     (told t).map (·.1) = [0x44, 0x47, 0x48] ∧ t.lampOut 0 = true) := by decide +kernel

theorem witness_StrayTouchesAndPressesChangeNothing_other_clauses :
    (let s := running e305 { swimmer with farTiming := .untimed } 0 240000 240020
     Touch 0 .far true { lead := 240000, active := true } s ∧ (s.lane 0).farTiming = .untimed)
    ∧ (let s := running e305 (swum ((List.range 8).map (fun k => timed (k + 1) ((k + 1) * 240000)))) 0 2160000 2160020
       Touch 0 .far true { lead := 2160000, active := true } s ∧ PoolEnd.far = endOf ((s.lane 0).done + 1)
       ∧ s.event.total < (s.lane 0).done + 1)
    ∧ (let s := running e415 (swum [timed 1 234000]) 0 1000000 1000020
       Touch 0 .far true { lead := 1000000, active := true } s ∧ PoolEnd.far ≠ endOf ((s.lane 0).done + 1)
       ∧ s.event.total + 1 = (s.lane 0).done + 2)
    ∧ (let s := running e415 (finisher (some (seen 478321))) 1 490000 490020
       Touch 0 .near true { lead := 490000, active := true } s ∧ (s.lane 0).pad ≠ none)
    ∧ (let s := running e415 (finisher none) 0 490000 490020
       Touch 0 .far true { lead := 490000, active := true } s ∧ PoolEnd.far ≠ endOf s.event.total)
    ∧ (let s := running e305 swimmer 2 240000 240050
       Press 0 1 true { lead := 240000, active := true } s ∧ (s.lane 0).done + 1 ≠ s.event.total
       ∧ (s.lane 0).done + 2 ≠ s.event.total)
    ∧ (let s := running e415 Lane.blank 2 240000 240050
       Press 0 1 true { lead := 240000, active := true } s ∧ (s.lane 0).state ≠ .swimming ∧ (s.lane 0).state ≠ .finishing) := by
  refine ⟨⟨touch_of ?_, ?_⟩, ⟨touch_of ?_, ?_⟩, ⟨touch_of ?_, ?_⟩, ⟨touch_of ?_, ?_⟩, ⟨touch_of ?_, ?_⟩, ⟨press_of ?_, ?_⟩,
    press_of ?_, ?_⟩ <;> decide +kernel

/-! ## The Board Link Controller -/

/-- A unit that owns the board, with a row in transmission or none. -/
def owner (now : Tick) (x : Option Sending) (q : List Nat) (b : Int) : State :=
  { State.reset with
    tick := now
    share := { State.reset.share with state := .owning }
    board := { Board.powerOn with
      drive := some { data := 0, stb := false }, slot := some 0, sending := x, queue := q, balance := b } }

/-- The first byte of row 6 in a phase since tick 0, as `mode` passes it. -/
def row6 (mode : BoardMode) (p : BytePhase) (bs : List Byte) : Sending where
  row := 6
  roundRobin := true
  changed := false
  bytes := bs
  phase := p
  since := 0
  mode := mode
  flagPolarity := .normal
  accept := .readyToBusy
  settle := 1
  strobeWidth := 2
  byteTimeout := 1000

theorem witness_ClockMarkingsHoldsAndSlots :
    (let s := inState .running e415 [swimmer] 59990000
     s.race.state = .running ∧ s.raceClock < 59999999 ∧ s.raceClock % 1000 = 0 ∧ s.raceClock % 10000 = 0)
    ∧ (let s := ({ State.reset with tick := 100000 } : State).setHold 9 (some { start := 0, width := 100000 })
       s.hold 9 = some { start := 0, width := 100000 } ∧ 100000 = interval 0 s.tick)
    ∧ (let s := owner 500 none [] (-7)
       s.board.slot = some 0 ∧ s.board.slotPeriod = interval 0 s.tick ∧ -8 < s.board.balance)
    ∧ (owner 500 none [] (-8)).board.balance = -8 := by decide +kernel

/-- R130: at race time 10,000 the header and the swimming lane's row are marked, and at 10,001 nothing. -/
theorem test_clock_markings :
    (does .headerTenths (inState .running e415 [swimmer] 10000)).board.queue = [0]
    ∧ (does .runningSeconds (inState .running e415 [swimmer] 10000)).board.queue = [1]
    ∧ (does .headerTenths (inState .running e415 [swimmer] 10001)).board.queue = [] := by decide +kernel

/-- R129: a hold of 100,000 from tick 0 ends at 100,000, and marks row 10 of lane 9. -/
theorem test_split_hold_expiry :
    (let s (now : Tick) : State := ({ State.reset with tick := now } : State).setHold 9 (some { start := 0, width := 100000 })
     (does (.splitHoldExpiry 9) (s 100000)).hold 9 = none ∧ (does (.splitHoldExpiry 9) (s 100000)).board.queue = [10]
     ∧ (does (.splitHoldExpiry 9) (s 99999)).hold 9 ≠ none) := by decide +kernel

/-- R129 and R2: a hold of 0 has ended when the touch has been taken; the row is marked once. -/
theorem test_split_hold_of_zero :
    (let s := running e305 swimmer 0 279410 279430
     let t := does (.edgeConfirmed 0 true) { s with options := { s.options with splitHold := 0 } }
     t.hold 0 = none ∧ t.board.queue = [1, 12]) := by decide +kernel

/-- Section 8.7: an expiry at −8 hands BOARD_OVERDUE and leaves the balance. -/
theorem test_slot_expiry :
    (does .slotExpiry (owner 500 none [] (-7))).board.balance = -8
    ∧ (let t := does .slotExpiry (owner 500 none [] (-8))
       t.board.balance = -8 ∧ told t = [(0x50, [5, 0xFF] ++ bytesOf 4 500)]) := by decide +kernel

theorem witness_SchedulerStartsARow :
    (∀ b ∈ [(-8 : Int), -7, 7, 8], (owner 0 none [0] b).share.state = .owning ∧ (owner 0 none [0] b).board.sending = none
      ∧ (owner 0 none [0] b).share.yieldPending = false ∧ (owner 0 none [0] b).share.releasePending = false
      ∧ (owner 0 none [0] b).board.mask.length = 22 ∧ (owner 0 none [0] b).board.pointer < 22
      ∧ 0 < unmaskedRows (owner 0 none [0] b).board.mask ∧ (owner 0 none [0] b).board.queue = 0 :: []
      ∧ (owner 0 none [] b).board.queue = []) := by decide +kernel

/-- R137: at −8 the round-robin row goes before the queue; above it the head does; at +8 an empty queue waits. -/
theorem test_row_start :
    (let row (q : List Nat) (b : Int) := (does .rowStart (owner 0 none q b)).board.sending.map (fun x => (x.row, x.roundRobin))
     row [9] (-8) = some (0, true) ∧ row [9] (-7) = some (9, false) ∧ row [] 7 = some (0, true) ∧ row [] 8 = none) := by
  decide +kernel

/-- Section 11.9: lane 5's lap counter row showing 001, and the same row blank. -/
theorem test_lap_row_frame :
    (let s := inState .running e415 [Lane.blank, Lane.blank, Lane.blank, Lane.blank, Lane.blank, swum [timed 1 231500]] 485000
     rowFrame 17 (composeRow s 17) = [0x02, 0x11, 0x00, 0x00, 0x01, 0x03, 0x12]
     ∧ rowFrame 17 (composeRow State.reset 17) = [0x02, 0x11, 0x0F, 0x0F, 0x0F, 0x03, 0x3E]) := by decide +kernel

/-- R125: 478,321 shows "   47.83", 1,165,000 " 1:56.50", 485,000 in tenths "   48.5" and in seconds "   48   ". -/
theorem test_time_formats :
    showHundredths 478321 = [0x20, 0x20, 0x20, 0x34, 0x37, 0x2E, 0x38, 0x33]
    ∧ showHundredths 1165000 = [0x20, 0x31, 0x3A, 0x35, 0x36, 0x2E, 0x35, 0x30]
    ∧ showTenths 485000 = [0x20, 0x20, 0x20, 0x34, 0x38, 0x2E, 0x35]
    ∧ showSeconds 485000 = [0x20, 0x20, 0x20, 0x34, 0x38, 0x20, 0x20, 0x20] := by decide +kernel

theorem witness_RowsShowTheRecords :
    State.reset.rowMasked 21 = false
    ∧ (let s := inState .running e415 [swum [timed 1 234000]] 59999999
       s.rowMasked 1 = false ∧ (s.lane 0).state = .swimming ∧ s.hold 0 = none ∧ s.raceClock = 59999999)
    ∧ (let s := (inState .running e415 [swum [timed 1 234000]] 240000).setHold 0 (some { start := 234020, width := 100000 })
       (s.lane 0).state = .swimming ∧ s.hold 0 ≠ none ∧ (s.lane 0).splits = [] ++ [timed 1 234000] ++ [])
    ∧ (let s := inState .running e415 [finisher (some (seen 478321)), { Lane.blank with state := .dns },
          { Lane.blank with state := .dnf, dq := true }] 500000
       (s.lane 0).first = some (seen 478321) ∧ (s.lane 1).state = .dns ∧ (s.lane 2).state = .dnf ∧ (s.lane 2).dq = true
       ∧ (s.lane 1).dq = false ∧ (s.lane 1).records = [] ∧ (s.lane 0).done ≤ s.event.total)
    ∧ (inState .armed e415 [] 0).race.state = .armed ∧ (inState .loaded e415 [] 0).event.title.length ≤ 24
    ∧ (let s := (inState .running e415 [swum [timed 1 234000] |>.removeTail] 240000).setHold 0
          (some { start := 234020, width := 100000 })
       (s.lane 0).state = .swimming ∧ s.hold 0 ≠ none ∧ ∀ x ∈ (s.lane 0).splits, x.kind ≠ .timed)
    ∧ (let l : Lane := { swum [{ timed 1 59999999 with kind := .final }] with state := .finished, place := some 10, records := [1, 3] }
       let s := inState .unofficial e415 [l, { l with state := .review, place := none, exchange2 := judgement e415 1 1000 }] 0
       (s.lane 0).result = some 59999999 ∧ (s.lane 0).place = some 10 ∧ (s.lane 0).dq = false ∧ (s.lane 0).records = 1 :: [3]
       ∧ s.race.slots[1]? = some RecordSlot.cleared ∧ (∀ j < 4, 1 ≤ j → ((s.lane 0).exchange j).status ≠ .early)
       ∧ (s.lane 1).place = none ∧ ((s.lane 1).exchange 2).status = .early)
    ∧ State.reset.rowMasked 11 = false
    ∧ ({ State.reset with board := { State.reset.board with footer := List.replicate 32 0x41 } } : State).board.footer.length = 32 := by
  decide +kernel

theorem witness_BytesArePassed :
    (let s := owner 1000 (some (row6 .fullMode .waitReady [0x02, 6])) [] 0
     s.board.sending = some (row6 .fullMode .waitReady [0x02, 6]) ∧ s.board.drive = some { data := 0, stb := false }
     ∧ flagReady .normal false = true ∧ interval 0 s.tick = 1000)
    ∧ Accepted (row6 .fullMode .waitAccept [0x02, 6]) true (owner 1 (some (row6 .fullMode .waitAccept [0x02, 6])) [] 0)
    ∧ Accepted (row6 .partialMode .waitAccept [0x02, 6]) true (owner 1000 (some (row6 .partialMode .waitAccept [0x02, 6])) [] 0)
    ∧ (row6 .fullMode .settle [0x02, 6]).settle = interval 0 (owner 1 none [] 0).tick
    ∧ (row6 .strobeMode .strobe [0x02, 6]).strobeWidth = interval 0 (owner 2 none [] 0).tick
    ∧ (row6 .strobeMode .settleAfter [0x02, 6]).settle = interval 0 (owner 1 none [] 0).tick := by
  refine ⟨by decide +kernel, ?_, ?_, by decide +kernel, by decide +kernel, by decide +kernel⟩ <;>
    (unfold Accepted; decide +kernel)

/-- R140: READY drives the byte; after the settle time STB is asserted; BUSY, a tick later at the earliest, ends the byte. -/
theorem test_full_mode :
    ((does (.flagWaitMet false) (owner 5 (some (row6 .fullMode .waitReady [0x02, 6])) [] 0)).board.drive
      = some { data := 0x02, stb := false })
    ∧ ((does .settleTimeExpiry (owner 1 (some (row6 .fullMode .settle [0x02, 6])) [] 0)).board.drive
      = some { data := 0, stb := true })
    ∧ ((does (.flagWaitMet true) (owner 1 (some (row6 .fullMode .waitAccept [0x02, 6])) [] 0)).board.sending.map (·.bytes)
      = some [6])
    ∧ ((does (.flagWaitMet true) (owner 0 (some (row6 .fullMode .waitAccept [0x02, 6])) [] 0)).board.sending.map (·.bytes)
      = some [0x02, 6]) := by decide +kernel

/-- R142: the strobe width of 2 ends at tick 2. -/
theorem test_strobe_width_expiry :
    ((does .strobeWidthExpiry (owner 2 (some (row6 .strobeMode .strobe [0x02])) [] 0)).board.sending.map (·.phase)
      = some .settleAfter)
    ∧ ((does .strobeWidthExpiry (owner 1 (some (row6 .strobeMode .strobe [0x02])) [] 0)).board.sending.map (·.phase)
      = some .strobe) := by decide +kernel

theorem witness_SendsEndCompleteOrStalled :
    (let x := row6 .strobeMode .settleAfter [0x20]
     let s := owner 1 (some x) [4, 6] 8
     s.board.sending = some x ∧ s.board.drive = some { data := 0, stb := false } ∧ x.bytes.length = 1
     ∧ x.phase = .settleAfter ∧ x.settle = interval x.since s.tick)
    ∧ (let x := row6 .fullMode .waitReady [0x02]
       let s := owner 1001 (some x) [] 0
       s.board.sending = some x ∧ x.byteTimeout + 1 = interval x.since s.tick) := by decide +kernel

/-- Section 8.7: row 6 complete raises the balance from 7 to 8, leaves the queue and moves the pointer to 7. -/
theorem test_row_complete :
    (let b := (does (.rowComplete true) (owner 1 (some (row6 .fullMode .waitAccept [0x20])) [4, 6] 7)).board
     b.balance = 8 ∧ b.queue = [4] ∧ b.pointer = 7 ∧ b.sending = none) := by decide +kernel

/-- Section 8.7: a wait since tick 0 fails at tick 1,001, and not at 1,000. -/
theorem test_board_stall :
    (let t := does .boardStall (owner 1001 (some (row6 .fullMode .waitReady [0x02])) [0] 0)
     t.board.sending = none ∧ t.board.queue = [0] ∧ told t = [(0x50, [4, 0xFF] ++ bytesOf 4 1001)])
    ∧ (does .boardStall (owner 1000 (some (row6 .fullMode .waitReady [0x02])) [0] 0)).board.sending ≠ none := by
  decide +kernel

theorem witness_BoardTextStoresTheFooter :
    HeadRequest (frm 0x22 []) [] (ask 0x22 [] State.reset) := head_ask _ _ _ (by decide +kernel)

/-- R132 and R32: 33 characters are cut to 32, and a byte of 0x7F is stored as a space. -/
theorem test_board_text :
    (let t := does .boardText (ask 0x22 (0x7F :: List.replicate 32 0x41) State.reset)
     t.board.footer = 0x20 :: List.replicate 31 0x41 ∧ t.board.queue = [11]) := by decide +kernel

theorem witness_RowMaskSetsTheMasks :
    HeadRequest (frm 0x23 [0x3F, 0xFF, 0xFF]) [] (ask 0x23 [0x3F, 0xFF, 0xFF] (owner 0 none [] 0))
    ∧ (ask 0x23 [0x3F, 0xFF, 0xFF] (owner 0 none [] 0)).share.state = .owning
    ∧ unmaskedRows ((List.range 22).map (fun r => (numberOf [0x3F, 0xFF, 0xFF]).testBit r)) = 0
    ∧ unmaskedRows ((List.range 22).map (fun r => (numberOf [0x1F, 0xFF, 0xFF]).testBit r)) = 1
    ∧ HeadRequest (frm 0x23 [0, 0]) [] (ask 0x23 [0, 0] State.reset) :=
  ⟨head_ask _ _ _ (by decide +kernel), by decide +kernel, by decide +kernel, by decide +kernel,
    head_ask _ _ _ (by decide +kernel)⟩

/-- R135: with rows 12 to 21 masked the slot period is 916; R145: each is marked once for its blank send. -/
theorem test_row_mask :
    (let t := does .rowMask (ask 0x23 [0x3F, 0xF0, 0x00] (owner 0 none [] 0))
     t.period = 916 ∧ t.board.queue = [12, 13, 14, 15, 16, 17, 18, 19, 20, 21] ∧ t.board.slot = some 0) := by decide +kernel

/-! ## The Board Share Unit -/

/-- A unit in an ownership state, with a claim begun at tick 0 or none. -/
def sharing (o : Ownership) (claim : Option Tick) (now : Tick) : State :=
  { State.reset with tick := now, share := { State.reset.share with state := o, claim := claim } }

def levels (own req force : Bool) : ShareLevels := { own := own, req := req, force := force }

theorem witness_WonClaimGainsTheBoard :
    (sharing .free (some 0) 10).share.claim = some 0 ∧ 10 = interval 0 (sharing .free (some 0) 10).tick
    ∧ (sharing .free (some 0) 10).pins.share.own = false := by decide +kernel

/-- Section 9.6: the claim of 5,000,101 ends at 5,000,111 in OWNING, and rows 4 and 15 stay ahead of the repaint. -/
theorem test_claim_window_end :
    (let s (now : Tick) : State :=
      { sharing .asking (some 5000101) now with board := { Board.powerOn with queue := [4, 15] } }
     let t := does .claimWindowEnd (s 5000111)
     t.share.state = .owning ∧ t.board.slot = some 5000111
     ∧ t.board.queue = [4, 15, 0, 1, 2, 3, 5, 6, 7, 8, 9, 10, 11, 12, 13, 14, 16, 17, 18, 19, 20, 21]
     ∧ told t = [(0x51, [1, 3, 1, 0])] ∧ (does .claimWindowEnd (s 5000110)).share.state = .asking) := by decide +kernel

theorem witness_PartnerLinesAndAsking :
    (let s := sharing .free (some 0) 1
     s.share.claim = some 0 ∧ interval 0 s.tick = 1 ∧ s.share.unitA = false ∧ (levels true false false).own = true)
    ∧ ((sharing .free none 0).share.state = .free ∧ (sharing .free none 0).share.claim = none)
    ∧ ((sharing .partnerOwns none 0).share.state = .partnerOwns ∧ (levels false false false).own = false
      ∧ (levels false false false).req = false)
    ∧ (let s : State := { sharing .asking none 20000 with
        share := { (sharing .asking none 0).share with takeWait := some 0, force := true } }
       s.share.state = .asking ∧ s.share.claim = none ∧ s.share.takeWait = some 0
       ∧ s.tested.takeWait = interval 0 s.tick ∧ s.share.force = true)
    ∧ (sharing .forcing none 0).share.state = .forcing ∧ (sharing .forcing none 0).share.force = false := by decide +kernel

/-- R149: unit B withdraws at the tick after its claim's start, and not at that tick. -/
theorem test_claim_withdrawn :
    (does (.claimWithdrawn (levels true false false)) (sharing .free (some 0) 1)).share.state = .partnerOwns
    ∧ (does (.claimWithdrawn (levels true false false)) (sharing .free (some 0) 0)).share.state = .free := by decide +kernel

/-- R150. -/
theorem test_partner_took :
    (does (.partnerTook (levels true false false)) (sharing .free none 0)).share.state = .partnerOwns := by decide +kernel

/-- R150: in the handover gap the unit stays, and with both lines inactive it is FREE. -/
theorem test_board_free :
    (does (.boardFree (levels false false false)) (sharing .partnerOwns none 0)).share.state = .free
    ∧ (does (.boardFree (levels false true false)) (sharing .partnerOwns none 0)).share.state = .partnerOwns := by decide +kernel

/-- Section 9.6: B's claim begins at 5,000,101, and REQ_OUT drops. -/
theorem test_claim_on_own_in_inactive :
    (let t := does (.claimOnOwnInInactive (levels false false false)) (sharing .asking none 5000101)
     t.share.claim = some 5000101 ∧ t.share.state = .asking ∧ t.ownOut = true ∧ t.reqOut = false) := by decide +kernel

/-- Section 9.6: the wait of 6,000,000 ends at 6,020,000, with the force flag in FORCING, without it in PARTNER_OWNS. -/
theorem test_take_wait_expiry :
    (let s (force : Bool) (now : Tick) : State := { sharing .asking none now with
        share := { (sharing .asking none 0).share with takeWait := some 6000000, force := force } }
     (does .takeWaitExpiry (s true 6020000)).share.state = .forcing
     ∧ (does .takeWaitExpiry (s false 6020000)).share.state = .partnerOwns
     ∧ (does .takeWaitExpiry (s true 6019999)).share.state = .asking) := by decide +kernel

theorem witness_OwningUnitYieldsAndLeaves :
    (let s := owner 0 none [] 0
     s.share.state = .owning ∧ s.options.yieldOnRequest = true ∧ s.share.yieldPending = false ∧ s.board.sending = none
     ∧ (levels false true false).req = true ∧ (levels false false true).force = true)
    ∧ (owner 0 (some (row6 .fullMode .waitReady [0x02])) [] 0).board.sending ≠ none
    ∧ (let s : State := { owner 0 none [] 0 with options := { Options.powerOn with yieldOnRequest := false } }
       s.options.yieldOnRequest = false ∧ s.share.reqRun = false ∧ ¬ stopReady s = true)
    ∧ (let s : State := { owner 0 none [] 0 with
        options := { Options.powerOn with yieldOnRequest := false }, share := { (owner 0 none [] 0).share with reqRun := true } }
       s.options.yieldOnRequest = false ∧ s.share.reqRun = true ∧ s.share.yieldPending = false ∧ s.share.releasePending = false)
    ∧ (let s : State := { owner 0 none [] 0 with share := { (owner 0 none [] 0).share with releasePending := true } }
       s.share.yieldPending = false ∧ s.share.releasePending = true ∧ s.board.sending = none ∧ StopIsDue s)
    ∧ ¬ StopIsDue (owner 0 none [] 0) := by
  unfold StopIsDue
  decide +kernel

/-- Section 9.6: with row 7 in transmission the yield waits for it; with none the unit leaves at once. -/
theorem test_req_in_active :
    (let t := does (.reqInActive (levels false true false)) (owner 0 (some (row6 .fullMode .waitReady [0x02])) [] 0)
     t.share.state = .owning ∧ t.share.yieldPending = true)
    ∧ (let t := does (.reqInActive (levels false true false)) (owner 0 none [] 3)
       t.share.state = .partnerOwns ∧ t.board.drive = none ∧ t.board.balance = 0 ∧ told t = [(0x51, [2, 1, 1, 6])]) := by
  decide +kernel

/-- R154: with yield off ASKED is handed once for a run of samples, and again for the next run. -/
theorem test_asked_once :
    (let v := levels false true false
     let s : State := { owner 0 none [] 0 with options := { Options.powerOn with yieldOnRequest := false } }
     let t := does (.reqInActive v) s
     let u := does (.reqInActive v) (does (.reqInActive (levels false false false)) t)
     told t = [(0x51, [1, 1, 1, 10])] ∧ told (does (.reqInActive v) t) = told t ∧ (told u).length = 2) := by decide +kernel

/-- Section 9.6: a yield pending when the row is complete leaves to PARTNER_OWNS. -/
theorem test_stop_after_row :
    (let s : State := { owner 0 none [] 0 with share := { (owner 0 none [] 0).share with yieldPending := true } }
     (does .stopAfterRow s).share.state = .partnerOwns ∧ (does .stopAfterRow s).share.yieldPending = false) := by decide +kernel

/-- Section 9.6: A loses the board by force: BOARD_LOST in the alarm list, then BOARD (LOST). -/
theorem test_board_lost :
    (let t := does (.boardLost (levels false true true)) (owner 6020001 (some (row6 .fullMode .waitReady [0x02])) [] 0)
     t.share.state = .partnerOwns ∧ t.board.sending = none
     ∧ told t = [(0x50, [6, 0xFF] ++ bytesOf 4 6020001), (0x51, [2, 1, 1, 7])]) := by decide +kernel

/-- R158: where the row that a release waits for has ended at the tick of FORCE_IN, the unit leaves by the release, without the
alarm. -/
theorem test_stop_before_force :
    (let s : State := { owner 0 none [] 0 with
        pins := { Pins.low with share := levels false false true }, shareDue := true
        share := { (owner 0 none [] 0).share with releasePending := true } }
     allDue s = [.stopAfterRow] ∧ told (does (.boardLost (levels false false true)) s) = []
     ∧ told (does .stopAfterRow s) = [(0x51, [0, 1, 1, 8])]) := by decide +kernel

theorem witness_BoardTakeByOwnershipState :
    (∀ p ∈ [[], [0], [1], [2], [0, 0]], HeadRequest (frm 0x20 p) [] (ask 0x20 p (sharing .partnerOwns none 0)))
    ∧ (sharing .free none 0).share.claim = none ∧ (sharing .free (some 0) 0).share.claim ≠ none
    ∧ (∀ o : Ownership, (sharing o none 0).share.state = o) := by
  refine ⟨fun p _ => head_ask _ _ _ (by decide +kernel), by decide +kernel, by decide +kernel, fun o => rfl⟩

/-- R151: OK and ASKING from PARTNER_OWNS, OK and FREE from FREE, BUSY in ASKING, OUT_OF_RANGE for a flag of 2. -/
theorem test_board_take :
    answer .boardTake 0x20 [0] (sharing .partnerOwns none 0) = some [0, 3]
    ∧ answer .boardTake 0x20 [1] (sharing .free none 0) = some [0, 0]
    ∧ answer .boardTake 0x20 [1] (sharing .asking none 0) = some [11, 3]
    ∧ answer .boardTake 0x20 [2] (sharing .owning none 0) = some [5, 1] := by decide +kernel

theorem witness_BoardReleaseByOwnershipState :
    (∀ p ∈ [[], [0]], HeadRequest (frm 0x21 p) [] (ask 0x21 p (owner 0 none [] 0)))
    ∧ (owner 0 none [] 0).share.yieldPending = false ∧ (owner 0 none [] 0).share.releasePending = false
    ∧ (owner 0 (some (row6 .fullMode .waitReady [0x02])) [] 0).board.sending ≠ none
    ∧ (sharing .free (some 0) 0).share.claim ≠ none ∧ (sharing .forcing none 0).share.state = .forcing :=
  ⟨fun p _ => head_ask _ _ _ (by decide +kernel), by decide +kernel⟩

/-- R155: an OWNING unit with OWN_IN inactive goes to FREE and an ask ends RELEASED. -/
theorem test_board_release :
    answer .boardRelease 0x21 [] (owner 0 none [] 0) = some [0, 0]
    ∧ told (does .boardRelease (ask 0x21 [] (sharing .asking none 0))) = [(0x51, [0, 3, 1, 8])] := by decide +kernel

/-! ## The Lamp Unit -/

/-- Lane 9's START_FLASH and TAKEOFF_ALERT, BELL and RECORD on since tick 0, and lane 9's FINAL_LENGTH in its delay. -/
def lit (now : Tick) : State :=
  let on (k : LampKind) (w : Nat) : LampTimer := { kind := k, input := false, run := some { start := 0, width := w } }
  { State.reset with
    tick := now
    lamps :=
      { startFlash := List.replicate 10 (on .pulse 2000), takeoffAlert := List.replicate 10 (on .extended 30000)
        finalLength := List.replicate 10 (on .offDelay 50000), bell := on .pulse 3000, record := on .extended 100000 } }

theorem witness_PulseFunctions :
    (∃ x r, (lit 2000).lamps.startFlash[9]? = some x ∧ x.run = some r ∧ r.width = interval r.start (lit 2000).tick)
    ∧ (∃ x, State.reset.lamps.startFlash[9]? = some x ∧ x.run = none)
    ∧ (∃ r, (lit 3000).lamps.bell.run = some r ∧ r.width = interval r.start (lit 3000).tick)
    ∧ State.reset.lamps.bell.run = none := by
  refine ⟨⟨_, _, rfl, rfl, ?_⟩, ⟨_, rfl, rfl⟩, ⟨_, rfl, ?_⟩, rfl⟩ <;> decide +kernel

theorem witness_ExtendedAndOffDelayFunctions :
    (∃ x r, (lit 30000).lamps.takeoffAlert[9]? = some x ∧ x.run = some r ∧ r.width = interval r.start (lit 30000).tick)
    ∧ (∃ r, (lit 100000).lamps.record.run = some r ∧ r.width = interval r.start (lit 100000).tick)
    ∧ (∃ x r, (lit 50000).lamps.finalLength[9]? = some x ∧ x.run = some r ∧ r.width = interval r.start (lit 50000).tick
        ∧ x.input = false)
    ∧ (∃ x, (setFinalInput 9 true State.reset).lamps.finalLength[9]? = some x ∧ x.input = true)
    ∧ (∃ x y z, (lit 0).lamps.startFlash[9]? = some x ∧ (lit 0).lamps.takeoffAlert[9]? = some y
        ∧ (lit 0).lamps.finalLength[9]? = some z) := by
  refine ⟨⟨_, _, rfl, rfl, ?_⟩, ⟨_, rfl, ?_⟩, ⟨_, _, rfl, rfl, ?_, ?_⟩, ⟨_, rfl, ?_⟩, _, _, _, rfl, rfl, rfl⟩
    <;> decide +kernel

/-- R159 and R148: the lamp of a lane is high by any one of its functions, and each ownership output by its state. -/
theorem test_outputs :
    (setFinalInput 9 true State.reset).lampOut 9 = true ∧ (setFinalInput 9 true State.reset).lampOut 8 = false
    ∧ (triggerBell State.reset).bellOut = true ∧ (triggerRecord State.reset).recordOut = true
    ∧ (sharing .free (some 0) 0).ownOut = true ∧ (sharing .forcing none 0).forceOut = true
    ∧ (sharing .forcing none 0).reqOut = true ∧ (sharing .forcing (some 0) 0).forceOut = false
    ∧ (sharing .partnerOwns none 0).ownOut = false := by decide +kernel

/-- Section 10.5: START_FLASH of 2,000 ticks goes off at 2,000 and not at 1,999; BELL at 3,000. -/
theorem test_pulse_expiry :
    ((does (.pulseExpiry (.startFlash 9)) (lit 2000)).lamps.startFlash[9]?.map (·.on) = some false)
    ∧ ((does (.pulseExpiry (.startFlash 9)) (lit 1999)).lamps.startFlash[9]?.map (·.on) = some true)
    ∧ (does (.pulseExpiry .bell) (lit 3000)).bellOut = false := by decide +kernel

theorem test_extended_expiry :
    ((does (.extendedExpiry (.takeoffAlert 9)) (lit 30000)).lamps.takeoffAlert[9]?.map (·.on) = some false)
    ∧ (does (.extendedExpiry .record) (lit 99999)).recordOut = true
    ∧ (does (.extendedExpiry .record) (lit 100000)).recordOut = false := by decide +kernel

theorem test_off_delay_expiry :
    ((does (.offDelayExpiry 9) (lit 50000)).lamps.finalLength[9]?.map (·.on) = some false)
    ∧ ((does (.offDelayExpiry 9) (lit 49999)).lamps.finalLength[9]?.map (·.on) = some true) := by decide +kernel

/-! ## Requests in general -/

theorem witness_RequestsAreRefusedInOrder :
    (HeadRequest (frm 0x3E []) [] (ask 0x3E [] State.reset) ∧ ∀ x ∈ requests, (frm 0x3E []).kind ≠ x.2.1)
    ∧ (HeadRequest (frm 0x80 []) [] (ask 0x80 [] State.reset) ∧ ∀ x ∈ requests, (frm 0x80 []).kind ≠ x.2.1)
    ∧ (∀ x ∈ requests, x.1 = .boardText ∨ ∃ n ∈ [1, 25], x.2.2.1 n = false)
    ∧ (∃ x ∈ requests, x.1 = .setRecord ∧ x.2.2.1 8 = true ∧ x.2.2.2 = none ∧ ¬ takenIn x.1 State.reset.race.state)
    ∧ State.reset.link.buffer = []
    ∧ (let s := ask 1 [] State.reset
       ({ s with link := { s.link with reply := some (frm 0x81 []) } } : State).link.reply ≠ none
       ∧ (popRequest (ask 1 [] State.reset)).link.requestTaken = true
       ∧ ({ s with link := { s.link with resetDue := true } } : State).link.resetDue = true)
    ∧ (∃ x ∈ requests, x.1 = .reset ∧ (ask 1 [] State.reset).link.buffer = frm 1 [] :: [] ∧ (frm 1 []).kind ≠ x.2.1) := by
  refine ⟨⟨head_ask _ _ _ (by decide +kernel), by decide⟩, ⟨head_ask _ _ _ (by decide +kernel), by decide⟩, by decide,
    ⟨(.setRecord, 0x0A, fun n => n == 8, none), by simp [requests], rfl, by decide, rfl, ?_⟩, rfl, by decide +kernel,
    ⟨(.reset, 0x3F, fun n => n == 0, none), by simp [requests], rfl, rfl, by decide⟩⟩
  show ¬ (RaceState.idle = RaceState.loaded)
  decide

/-- R168: the kind 0x7F is answered UNKNOWN_KIND with kind 0xFF, and 0x80 is echoed. -/
theorem test_unknown_kind :
    (does .unknownKind (ask 0x7F [] State.reset)).link.reply = some { kind := 0xFF, tag := 7, payload := [12] }
    ∧ (does .unknownKind (ask 0x80 [] State.reset)).link.reply = some { kind := 0x80, tag := 7, payload := [12] } := by
  decide +kernel

theorem witness_EveryCommandOnThePartCompletes :
    (Instr.lineStuck 60).wellFormed = true ∧ (Instr.lineStuck 61).wellFormed = false
    ∧ (Instr.offDelayExpiry 9).wellFormed = true ∧ (Instr.offDelayExpiry 10).wellFormed = false
    ∧ (∀ p, Instr.offDelayExpiry 10 ≠ .powerOn p) := by
  refine ⟨rfl, rfl, rfl, rfl, ?_⟩
  intro p h
  cases h

/-! ## Events, lanes and record slots -/

/-- The descriptor of section 2.11, event 112, as the console sends it. -/
def d112 : List Byte :=
  bytesOf 2 112 ++ [50, 4, 0, 1, 0] ++ bytesOf 4 40000 ++ [2] ++ bytesOf 4 60000 ++ bytesOf 2 3000 ++ bytesOf 2 4500
  ++ bytesOf 2 0 ++ bytesOf 4 30000 ++ [0x32, 0x30, 0x30]

/-- The same descriptor as a RELAY of 4 lengths. -/
def d112relay : List Byte := d112.set 4 1

theorem witness_StatesChangeAsTheTablesSay :
    exec .close (ask 0x1A [] (inState .unofficial e415 [] 0)) = .next (does .close (ask 0x1A [] (inState .unofficial e415 [] 0)))
    ∧ (does .close (ask 0x1A [] (inState .unofficial e415 [] 0))).race.state = .official := ⟨rfl, by decide +kernel⟩

/-- The RELAY of 12 lengths of R28, with legs of 3 lengths. -/
def d112odd : List Byte := (d112.set 4 1).set 3 12

theorem witness_LoadAndClearEmptyTheField :
    (HeadRequest (frm 8 d112) [] (ask 8 d112 State.reset) ∧ 26 ≤ (frm 8 d112).payload.length
      ∧ takenIn .loadEvent (ask 8 d112 State.reset).race.state ∧ ∀ n, ¬ eventFieldRefused (frm 8 d112).payload n)
    ∧ (∀ p ∈ [(1, d112.set 0 0 |>.set 1 0), (2, d112.set 2 26), (3, d112.set 3 61), (4, d112odd), (4, d112relay), (5, d112.set 5 2),
        (6, d112.set 6 2), (8, (d112.set 11 4))], FirstRefused (eventFieldRefused p.2) p.1)
    ∧ HeadRequest (frm 0x0B []) [] (ask 0x0B [] (inState .running e415 [swimmer] 0))
    ∧ (let s := ask 0x0B [] { State.reset with link := { State.reset.link with watch := some { tag := 9, snapshot := [] } } }
       HeadRequest (frm 0x0B []) [] s ∧ s.link.watch = some { tag := 9, snapshot := [] }) := by
  refine ⟨⟨head_ask _ _ _ (by decide +kernel), by decide +kernel, Or.inl rfl, fun n => ?_⟩, ?_,
    head_ask _ _ _ (by decide +kernel), head_ask _ _ _ (by decide +kernel), rfl⟩
  · unfold eventFieldRefused
    split <;> decide +kernel
  · simp only [List.forall_mem_cons, List.not_mem_nil, false_imp_iff, implies_true, and_true]
    refine ⟨?_, ?_, ?_, ?_, ?_, ?_, ?_, ?_⟩ <;>
      (refine ⟨by simp only [eventFieldRefused]; decide +kernel, fun m hm => ?_⟩
       interval_cases m <;> (simp only [eventFieldRefused]; decide +kernel))

/-- Section 2.11, step 1: CLAMPED, with the minimum length 50,000 and the default lag 3,000; as a RELAY BAD_EVENT, field 4. -/
theorem test_load_event :
    (let s := does .loadEvent (ask 8 d112 (inState .official e415 [] 0))
     s.race.state = .loaded ∧ s.event.minLength = 50000 ∧ s.event.defaultLag = 3000
     ∧ s.link.reply.map (fun f => f.payload.take 1) = some [1] ∧ told s = [(0x40, [1, 5, 0, 112, 50, 4])])
    ∧ answer .loadEvent 8 d112relay (inState .official e415 [] 0) = some [6, 4] := by decide +kernel

/-- R29: with a limit of 300 and a default lag of 800 sent, 500 and 500 are stored, CLAMPED. -/
theorem test_load_event_lag :
    (let d := bytesOf 2 112 ++ [50, 4, 0, 1, 0] ++ bytesOf 4 50000 ++ [2] ++ bytesOf 4 60000 ++ bytesOf 2 300 ++ bytesOf 2 800
      ++ bytesOf 2 0 ++ bytesOf 4 30000
     (eventOf d).disagreement = 500 ∧ (eventOf d).defaultLag = 500 ∧ eventClamped d = true) := by decide +kernel

/-- R34: CLEAR_RACE leaves IDLE and blank lanes and answers a pending watch. -/
theorem test_clear_race :
    (let s := inState .running e415 [swimmer] 5
     let t := does .clearRace (ask 0x0B [] { s with link := { s.link with watch := some { tag := 9, snapshot := s.vector } } })
     t.race = Race.cleared ∧ t.lanes = List.replicate 10 Lane.blank
     ∧ t.link.watchAnswer = some { kind := 0x98, tag := 9, payload := List.replicate 12 0 }) := by decide +kernel

theorem witness_SetLaneAndSetRecordStore :
    (∀ p ∈ [[10, 1], [9, 2], [9, 1], [9, 0]], HeadRequest (frm 9 p) [] (ask 9 p (inState .loaded e415 [] 0)))
    ∧ (inState .loaded e415 [] 0).race.state = .loaded ∧ ((inState .loaded e415 [] 0).lane 9).state = .vacant
    ∧ ((inState .loaded e415 [{ Lane.blank with state := .dns }] 0).lane 0).state = .dns
    ∧ (∀ p ∈ [[4, 1, 0x43, 0, 0, 0, 0, 0], [3, 1, 0x43, 0, 9, 0x27, 0xBF, 1], [3, 1, 0x43, 0, 9, 0x27, 0xC0, 1]],
        HeadRequest (frm 0x0A p) [] (ask 0x0A p (inState .loaded e415 [] 0)))
    ∧ field [3, 1, 0x43, 0, 9, 0x27, 0xBF, 1] 3 4 = 599999 :=
  ⟨fun p _ => head_ask _ _ _ (by decide +kernel), by decide +kernel, by decide +kernel, by decide +kernel,
    fun p _ => head_ask _ _ _ (by decide +kernel), by decide +kernel⟩

/-- Section 2.11: SET_LANE 10 is BAD_LANE, a DNS lane WRONG_STATE, and lane 3's text is stored. -/
theorem test_set_lane :
    answer .setLane 9 [10, 1, 0x56] (inState .loaded e415 [] 0) = some [4]
    ∧ answer .setLane 9 [0, 1] (inState .loaded e415 [{ Lane.blank with state := .dns }] 0) = some [2]
    ∧ (let l := (does .setLane (ask 9 [3, 1, 0x42, 0x07] (inState .loaded e415 [] 0))).lane 3
       l.state = .ready ∧ l.text = [0x42, 0x20]) := by decide +kernel

/-- Section 2.11: slot 0 takes 1:56.50 and slot 4 is OUT_OF_RANGE; R33: 599,999 is taken and 600,000 is not. -/
theorem test_set_record :
    ((does .setRecord (ask 0x0A ([0, 1, 0x43] ++ bytesOf 4 11650 ++ [1]) (inState .loaded e415 [] 0))).race.slots.getD 0
        RecordSlot.cleared
      = { enabled := true, label := 0x43, reference := 11650, relation := .matchOrBetter })
    ∧ answer .setRecord 0x0A [4, 1, 0x43, 0, 0, 0, 0, 0] (inState .loaded e415 [] 0) = some [5]
    ∧ answer .setRecord 0x0A ([3, 1, 0x43] ++ bytesOf 4 599999 ++ [0]) (inState .loaded e415 [] 0) = some [0]
    ∧ answer .setRecord 0x0A ([3, 1, 0x43] ++ bytesOf 4 600000 ++ [0]) (inState .loaded e415 [] 0) = some [5] := by
  decide +kernel

/-! ## ARM, RECALL, STOP, CLOSE -/

def readyLane : Lane := { Lane.blank with state := .ready, text := [0x41] }

/-- Lane 1 of the recall example (3.5), with a place and a state at ARM. -/
def placedLane : Lane := { swimmer with place := some 1, text := [0x41] }

theorem witness_ArmAndRecall :
    (let s := ask 0x10 [] (inState .loaded e415 [readyLane, { Lane.blank with state := .dns }] 0)
     HeadRequest (frm 0x10 []) [] s ∧ s.race.state = .loaded ∧ s.lanes.length = 10 ∧ (∃ l ∈ s.lanes, l.state = .ready)
     ∧ (s.lane 1).state = .dns)
    ∧ (let s := ask 0x10 [] (inState .loaded e415 [] 0)
       HeadRequest (frm 0x10 []) [] s ∧ ∀ l ∈ s.lanes, l.state ≠ .ready)
    ∧ (let s := ask 0x11 [] (inState .armed e415 [setLane0] 0)
       HeadRequest (frm 0x11 []) [] s ∧ s.race.state = .armed ∧ ∀ l ∈ s.lanes, l.state ≠ .swimming)
    ∧ (let s := ask 0x11 [] (inState .running e415 [placedLane] 100000)
       HeadRequest (frm 0x11 []) [] s ∧ s.race.state = .running ∧ s.raceClock = s.event.recallWindow
       ∧ (∃ l ∈ s.lanes, l.place ≠ none) ∧ (s.lane 0).stateAtArm = some .ready)
    ∧ (let s := ask 0x11 [] (inState .running e415 [swimmer] 100001)
       HeadRequest (frm 0x11 []) [] s ∧ s.event.recallWindow + 1 = s.raceClock) := by
  refine ⟨⟨head_ask _ _ _ (by decide +kernel), by decide +kernel⟩, ⟨head_ask _ _ _ (by decide +kernel), by decide +kernel⟩,
    ⟨head_ask _ _ _ (by decide +kernel), by decide +kernel⟩, ⟨head_ask _ _ _ (by decide +kernel), by decide +kernel⟩,
    head_ask _ _ _ (by decide +kernel), by decide +kernel⟩

/-- Section 3.4, lane 4: an empty block in a DIVE event is BLOCK_EMPTY_AT_ARM, and ARM answers its lane set. -/
theorem test_arm :
    (let s := ask 0x10 [] (inState .loaded e415 [Lane.blank, Lane.blank, Lane.blank, Lane.blank, readyLane] 940000)
     let t := does .arm s
     t.race.state = .armed ∧ (t.lane 4).state = .set ∧ (t.lane 4).blockEmptyAtArm = true ∧ (t.lane 4).tracking = .empty
     ∧ t.link.reply.map (·.payload) = some [0, 0, 0x10])
    ∧ answer .arm 0x10 [] (inState .loaded e415 [] 0) = some [7] := by decide +kernel

/-- R51: race time 100,000 is within a window of 100,000, and 100,001 is TOO_LATE; the lane keeps its text alone. -/
theorem test_recall :
    (let t := does .recallRace (ask 0x11 [] (inState .running e415 [placedLane] 100000))
     t.race.state = .loaded ∧ t.race.startTick = none ∧ t.lane 0 = readyLane ∧ (told t).map (·.1) = [0x40, 0x4A])
    ∧ answer .recallRace 0x11 [] (inState .running e415 [swimmer] 100001) = some [8] := by decide +kernel

/-- Section 7.9's lanes before STOP: lane 1 FINISHING on three presses, lane 2 SWIMMING. -/
def stopping : State :=
  inState .running { e415 with total := 4, window := 100000 }
    [Lane.blank,
     { swum [timed 1 160000, timed 2 320000, timed 3 480000] with
       state := .finishing, press1 := some (seen 700000), press2 := some (seen 700100), press3 := some (seen 700300)
       first := some (seen 700000), window := some { start := 700000, width := 100000 } },
     swum [timed 1 170000, timed 2 340000, timed 3 510000]] 710000

theorem witness_StopAndClose :
    (HeadRequest (frm 0x12 []) [] (ask 0x12 [] stopping) ∧ (ask 0x12 [] stopping).race.state = .running
      ∧ (ask 0x12 [] stopping).lanes.length = 10
      ∧ ∀ l ∈ stopping.lanes, l.state = .finishing →
        (l.pad ≠ none ∨ l.presses ≠ []) ∧ l.done + 1 = stopping.event.total ∧ ∀ x ∈ l.splits, x.kind ≠ .final)
    ∧ (let s := ask 0x1A [] (inState .unofficial e415 [{ Lane.blank with state := .review }] 0)
       HeadRequest (frm 0x1A []) [] s ∧ s.race.state = .unofficial ∧ ∃ l ∈ s.lanes, l.state = .review)
    ∧ (let s := ask 0x1A [] (inState .unofficial e415 [{ Lane.blank with state := .dnf }] 0)
       HeadRequest (frm 0x1A []) [] s ∧ ∀ l ∈ s.lanes, l.state ≠ .review) := by
  refine ⟨⟨head_ask _ _ _ (by decide +kernel), by decide +kernel⟩, ⟨head_ask _ _ _ (by decide +kernel), by decide +kernel⟩,
    head_ask _ _ _ (by decide +kernel), by decide +kernel⟩

/-- Section 7.9: lane 1 is resolved on its presses, lane 2 is DNF, the race is UNOFFICIAL, and the reply lists {1} and {2}. -/
theorem test_stop :
    (let t := does .stopRace (ask 0x12 [] stopping)
     (t.lane 1).state = .finished ∧ (t.lane 1).source = .backup ∧ (t.lane 1).result = some 700100
     ∧ (t.lane 2).state = .dnf ∧ (t.lane 2).done = 3 ∧ t.race.state = .unofficial
     ∧ (told t).map (·.1) = [0x44, 0x45, 0x4A, 0x40]
     ∧ (told t)[2]? = some (0x4A, (List.replicate 10 0xFF).set 1 1) ∧ t.link.reply.map (·.payload) = some [0, 0, 2, 0, 4]) := by decide +kernel

/-- R121: REVIEW_OPEN with the lane set {0}, and OK with an empty set. -/
theorem test_close :
    answer .close 0x1A [] (inState .unofficial e415 [{ Lane.blank with state := .review }] 0) = some [10, 0, 1]
    ∧ answer .close 0x1A [] (inState .unofficial e415 [] 0) = some [0, 0, 0] := by decide +kernel

/-! ## Corrections and declarations -/

/-- Lane 6 of section 4.8, in port 0. -/
def corrected (l : List Split) : State := inState .running e305 [swum l] 1600000

theorem witness_AdjustLengthMovesTheCount :
    (let s := ask 0x13 [0, 1] (corrected [timed 1 285000, timed 2 590600])
     HeadRequest (frm 0x13 [0, 1]) [] s ∧ s.race.state = .running ∧ s.lanes.length = 10 ∧ (s.lane 0).state = .swimming
     ∧ (s.lane 0).done + 1 < s.event.total ∧ NoExchange s.event ((s.lane 0).done + 1))
    ∧ (let s := ask 0x13 [0, 1] (inState .running e520 [leftAt 512100] 600000)
       HeadRequest (frm 0x13 [0, 1]) [] s ∧ s.event.kind = .relay ∧ 0 < s.event.total / 4
       ∧ (s.lane 0).done + 1 = 1 * (s.event.total / 4))
    ∧ (let s := ask 0x13 [0, 0xFF] (corrected [timed 1 285000])
       HeadRequest (frm 0x13 [0, 0xFF]) [] s ∧ 0 < (s.lane 0).done ∧ (s.lane 0).splits = [] ++ [timed 1 285000]
       ∧ NoExchange s.event (s.lane 0).done)
    ∧ (let s := ask 0x13 [0, 0xFF] (inState .running e520 [{ leftAt 512100 with
          done := 2, splits := [timed 1 247600, timed 2 512340]
          exchange1 := { takeoff := some 512100, margin := some (-240), status := .ok } }] 600000)
       HeadRequest (frm 0x13 [0, 0xFF]) [] s ∧ (s.lane 0).done = 1 * (s.event.total / 4)
       ∧ ((s.lane 0).exchange 1).status ≠ .none) := by
  refine ⟨⟨head_ask _ _ _ (by decide +kernel), by decide +kernel, by decide +kernel, by decide +kernel, by decide +kernel,
      .inl (by decide +kernel)⟩,
    ⟨head_ask _ _ _ (by decide +kernel), by decide +kernel⟩,
    ⟨head_ask _ _ _ (by decide +kernel), by decide +kernel, by decide +kernel, .inl (by decide +kernel)⟩,
    head_ask _ _ _ (by decide +kernel), by decide +kernel⟩

/-- Section 4.8: +1 after L2 leaves L3 INSERTED with d = 3. -/
theorem test_adjust_plus :
    (let t := does .adjustLengthPlusOne (ask 0x13 [0, 1] (corrected [timed 1 285000, timed 2 590600]))
     (t.lane 0).splits = [timed 1 285000, timed 2 590600, untimedEntry 3 .inserted]
     ∧ t.link.reply.map (·.payload) = some [0, 0, 3]) := by decide +kernel

/-- Section 4.8: −1 removes L3 and hands no notice; section 6.8: withdrawing an EARLY exchange leaves it PENDING. -/
theorem test_adjust_minus :
    (let t := does .adjustLengthMinusOne (ask 0x13 [0, 0xFF] (corrected [timed 1 285000, timed 2 590600, timed 3 1511000]))
     (t.lane 0).splits = [timed 1 285000, timed 2 590600] ∧ told t = [] ∧ t.link.reply.map (·.payload) = some [0, 0, 2])
    ∧ (let t := does .adjustLengthMinusOne (ask 0x13 [0, 0xFF] (inState .running e520 [{ leftAt 1047500 with
          done := 2, splits := [timed 1 247600, timed 2 1047880]
          exchange1 := { takeoff := some 1047500, margin := some (-380), status := .early } }] 1200000))
       (t.lane 0).exchange1 = { takeoff := some 1047500, margin := none, status := .pending }
       ∧ (told t).map (·.1) = [0x47]) := by decide +kernel

theorem witness_CorrectionsAreRefused :
    (∀ p ∈ [([10, 1] : List Byte), [9, 1], [0, 2], [0, 1], [0, 0xFF]],
      HeadRequest (frm 0x13 p) [] (ask 0x13 p (corrected []))) ∧ (corrected []).race.state = .running
    ∧ ((corrected []).lane 9).state ≠ .swimming ∧ ((corrected []).lane 0).done = 0
    ∧ (let l := (corrected ((List.range 7).map (fun k => timed (k + 1) ((k + 1) * 240000)))).lane 0
       l.state = .swimming ∧ e305.total = l.done + 1)
    ∧ (∀ p ∈ [([0, 4] : List Byte), [0, 0], [10, 1], [9, 1], [0, 0]],
        HeadRequest (frm 0x1B p) [] (ask 0x1B p (corrected [timed 1 285000])))
    ∧ ¬ takenIn .declareDnf State.reset.race.state ∧ takenIn .declareDns (corrected []).race.state
    ∧ ((corrected []).lane 9).state = .vacant ∧ ¬ declarable .declareDns ((corrected [timed 1 285000]).lane 0) := by
  refine ⟨fun p _ => head_ask _ _ _ (by decide +kernel), rfl, by decide +kernel, by decide +kernel, by decide +kernel,
    fun p _ => head_ask _ _ _ (by decide +kernel), ?_, .inr (.inr rfl), by decide +kernel, ?_⟩
  · show ¬ (State.reset.race.state = .running)
    decide +kernel
  · show ¬ (_ ∨ _)
    decide +kernel

/-- A FINISHED or REVIEW lane with its FINAL entry at `t`. -/
def resolved (st : LaneState) (t : Nat) : Lane :=
  { swum [timed 1 100000, { timed 2 t with kind := .final }] with state := st, pad := some (seen t), source := .pad }

theorem witness_AdjudicateReplacesTheResult :
    (let s := ask 0x14 ([0, 2] ++ bytesOf 4 260000) (inState .unofficial e415 [resolved .review 300000] 0)
     HeadRequest (frm 0x14 ([0, 2] ++ bytesOf 4 260000)) [] s ∧ s.race.state = .unofficial ∧ s.lanes.length = 10
     ∧ (s.lane 0).state = .review ∧ lengthLimit s.event (s.lane 0) 1 = 260000
     ∧ field ([0, 2] ++ bytesOf 4 260000) 2 4 = 260000
     ∧ (s.lane 0).splits = [timed 1 100000] ++ [timedEntry s.event.total .final (seen 300000)]
     ∧ ∀ y ∈ [timed 1 100000], y.kind ≠ .final)
    ∧ (∀ p ∈ [([10, 0] ++ bytesOf 4 0 : List Byte), [9, 0] ++ bytesOf 4 0, [0, 3] ++ bytesOf 4 0, [0, 1] ++ bytesOf 4 0,
          [0, 2] ++ bytesOf 4 259999, [0, 2] ++ bytesOf 4 60000000, [0, 0] ++ bytesOf 4 0],
        HeadRequest (frm 0x14 p) [] (ask 0x14 p (inState .unofficial e415 [resolved .review 300000] 0)))
    ∧ (resolved .review 300000).candidate = none ∧ (resolved .review 300000).pad = some (seen 300000)
    ∧ ({ resolved .review 300000 with candidate := some 299000 } : Lane).candidate = some (seen 299000).time :=
  ⟨⟨head_ask _ _ _ (by decide +kernel), by decide +kernel⟩, fun p _ => head_ask _ _ _ (by decide +kernel), by decide +kernel⟩

/-- R116's example: with ref 900,000, k = 1 and the minimum 400,000, 1,699,999 is OUT_OF_RANGE and 1,700,000 is taken. -/
theorem test_adjudicate :
    (let l : Lane := { lane7of416 with
        state := .review, splits := lane7of416.splits ++ [{ timed 4 1902100 with kind := .final }], done := 4
        pad := some (seen 1902100) }
     let s := inState .unofficial e416 [l] 1950000
     answer .adjudicate 0x14 ([0, 2] ++ bytesOf 4 1699999) s = some [5]
     ∧ answer .adjudicate 0x14 ([0, 2] ++ bytesOf 4 1700000) s = some ([0, 0] ++ bytesOf 4 1700000 ++ [3])
     ∧ answer .adjudicate 0x14 [0, 1, 0, 0, 0, 0] s = some [9]) := by decide +kernel

/-- R117: the lane row and the lap counter row are marked, and the SPLIT is handed even for the time already held. -/
theorem test_adjudicate_again :
    (let s := inState .unofficial e415 [{ resolved .finished 300000 with place := some 1 }] 0
     let t := does .adjudicate (ask 0x14 [0, 0, 0, 0, 0, 0]
       { s with race := { s.race with ranking := [0] } })
     t.board.queue = [1, 12] ∧ told t = [(0x44, [0, 2, 4] ++ bytesOf 4 300000 ++ [0])]) := by decide +kernel

theorem witness_DeclarationsTakeEffect :
    (let s := ask 0x1B [0, 0] (inState .running e415 [swimmer] 0)
     HeadRequest (frm 0x1B [0, 0]) [] s ∧ takenIn .declareDns s.race.state ∧ s.lanes.length = 10
     ∧ declarable .declareDns (s.lane 0))
    ∧ (let s := ask 0x1B [0, 1] (corrected [timed 1 285000])
       HeadRequest (frm 0x1B [0, 1]) [] s ∧ takenIn .declareDnf s.race.state ∧ declarable .declareDnf (s.lane 0))
    ∧ (let s := ask 0x1B [0, 2] (inState .unofficial e415 [resolved .finished 300000] 0)
       HeadRequest (frm 0x1B [0, 2]) [] s ∧ takenIn .declareDq s.race.state ∧ declarable .declareDq (s.lane 0)
       ∧ (s.lane 0).dq ≠ true)
    ∧ (let s := ask 0x1B [0, 3] (inState .unofficial e415 [{ resolved .finished 300000 with dq := true }] 0)
       HeadRequest (frm 0x1B [0, 3]) [] s ∧ takenIn .declareReinstate s.race.state
       ∧ declarable .declareReinstate (s.lane 0) ∧ (s.lane 0).dq ≠ false) := by
  refine ⟨⟨head_ask _ _ _ (by decide +kernel), .inr (.inr rfl), by decide +kernel, .inr (.inr (by decide +kernel))⟩,
    ⟨head_ask _ _ _ (by decide +kernel), rfl, rfl⟩,
    ⟨head_ask _ _ _ (by decide +kernel), .inr rfl, .inr (.inr (.inl rfl)), by decide +kernel⟩,
    head_ask _ _ _ (by decide +kernel), .inr rfl, ?_, by decide +kernel⟩
  show _ ≠ LaneState.vacant
  decide +kernel

/-- R112 and R118: the only swimmer declared DNS with d = 0 ends the race; with d = 1 it is WRONG_STATE. -/
theorem test_declare_dns :
    (let t := does .declareDns (ask 0x1B [0, 0] (inState .running e415 [swimmer] 0))
     (t.lane 0).state = .dns ∧ t.race.state = .unofficial ∧ t.link.reply.map (·.payload) = some [0, 0, 7, 0])
    ∧ answer .declareDns 0x1B [0, 0] (corrected [timed 1 285000]) = some [2] := by decide +kernel

/-- R113: the split list is kept. -/
theorem test_declare_dnf :
    (let t := does .declareDnf (ask 0x1B [0, 1] (corrected [timed 1 285000]))
     (t.lane 0).state = .dnf ∧ (t.lane 0).splits = [timed 1 285000] ∧ t.race.state = .unofficial) := by decide +kernel

/-- Lanes 0 and 1 tied in hundredths and lane 2 behind them (section 7.9, lanes 3, 5 and 6), as the ranking leaves them. -/
def tied : State :=
  recomputeRanking (inState .unofficial { e415 with total := 2 }
    [resolved .finished 231050, resolved .finished 231099, resolved .finished 232400] 0)

/-- R108: the tied lanes share place 1 and the next is 3; R114 and R115: a DQ takes the lane out and REINSTATE puts it back. -/
theorem test_ranking_dq_and_reinstate :
    tied.race.ranking = [0, 1, 2] ∧ tied.lanes.map (·.place) = [some 1, some 1, some 3] ++ List.replicate 7 none
    ∧ (let t := does .declareDq (ask 0x1B [0, 2] tied)
       t.race.ranking = [1, 2] ∧ (t.lane 0).place = none ∧ (t.lane 1).place = some 1 ∧ (t.lane 2).place = some 2
       ∧ (let u := does .declareReinstate (ask 0x1B [0, 3]
            { t with link := { t.link with reply := none, requestTaken := false } })
          u.race.ranking = [0, 1, 2] ∧ (u.lane 0).dq = false)) := by decide +kernel

/-! ## Reads, STATUS, options, alarms -/

theorem witness_ReadsCarryTheRecords :
    (∀ p ∈ [([9] : List Byte), [10]], HeadRequest (frm 0x15 p) [] (ask 0x15 p tied))
    ∧ (tied.lane 9).text.length ≤ 16
    ∧ (∀ p ∈ [([10, 1] : List Byte), [0, 0], [0, 1], [0, 60], [0, 61]], HeadRequest (frm 0x16 p) [] (ask 0x16 p tied))
    ∧ (tied.lane 0).done = (tied.lane 0).splits.length
    ∧ HeadRequest (frm 0x17 []) [] (ask 0x17 [] tied) ∧ HeadRequest (frm 5 []) [] (ask 5 [] tied) :=
  ⟨fun p _ => head_ask _ _ _ (by decide +kernel), by decide +kernel, fun p _ => head_ask _ _ _ (by decide +kernel),
    by decide +kernel, head_ask _ _ _ (by decide +kernel), head_ask _ _ _ (by decide +kernel)⟩

/-- R175: lane 10 is BAD_LANE; the lane record has 101 bytes behind its code. -/
theorem test_read_lane :
    answer .readLane 0x15 [10] tied = some [4] ∧ (answer .readLane 0x15 [0] tied).map (·.length) = some 102
    ∧ (let late (t : Nat) : Evidence := { time := t, overMark := true }
       let l : Lane := { finisher (some (late 59999999)) with press3 := some (late 59999999) }
       (answer .readLane 0x15 [0] (inState .running e415 [l] 0)).map (·.getD 39 0) = some 9) := by decide +kernel

/-- R175: from length 2 on one entry is sent; start lengths 0 and 61 are OUT_OF_RANGE. -/
theorem test_read_splits :
    answer .readSplits 0x16 [0, 2] tied = some ([0, 0, 2, 2, 1] ++ [2, 4] ++ bytesOf 4 231050 ++ [0])
    ∧ answer .readSplits 0x16 [0, 0] tied = some [5] ∧ answer .readSplits 0x16 [0, 61] tied = some [5] := by decide +kernel

/-- Section 7.9's comparisons: UNORDERED, EQUAL, GREATER. -/
theorem test_read_ranking :
    answer .readRanking 0x17 [] tied
      = some ([0, 4] ++ bytesOf 2 415 ++ bytesOf 4 0 ++ [0, 0, 3] ++ [0, 1] ++ bytesOf 4 231050 ++ [0, 3]
          ++ [1, 1] ++ bytesOf 4 231099 ++ [0, 1] ++ [2, 3] ++ bytesOf 4 232400 ++ [0, 2]) := by decide +kernel

/-- The options record with the settle time out of range and the yield option off. -/
def sentOptions : List Byte := ((optionsBytes Options.powerOn).set 18 51).set 28 0

theorem witness_StatusOptionsAndAlarms :
    (∀ k ∈ [(1 : Byte), 0x28, 0x29, 0x3F, 3], HeadRequest (frm k []) [] (ask k [] State.reset))
    ∧ (HeadRequest (frm 2 sentOptions) [] (ask 2 sentOptions State.reset) ∧ (frm 2 sentOptions).payload.length = 50
      ∧ takenIn .setOptions State.reset.race.state ∧ ∀ n, ¬ optionRefused (frm 2 sentOptions).payload n)
    ∧ (∀ p ∈ [(1, 0, (2 : Byte)), (2, 1, 2), (3, 2, 2), (4, 3, 2), (5, 4, 2), (12, 15, 3), (13, 16, 2), (14, 17, 2), (20, 28, 2),
        (21, 29, 2)], FirstRefused (optionRefused (sentOptions.set p.2.1 p.2.2)) p.1) := by
  refine ⟨fun k _ => head_ask _ _ _ (by decide +kernel),
    ⟨head_ask _ _ _ (by decide +kernel), by decide +kernel, .inl rfl, fun n => ?_⟩, ?_⟩
  · unfold optionRefused
    split <;> decide +kernel
  · simp only [List.forall_mem_cons, List.not_mem_nil, false_imp_iff, implies_true, and_true]
    refine ⟨?_, ?_, ?_, ?_, ?_, ?_, ?_, ?_, ?_, ?_⟩ <;>
      (refine ⟨by simp only [optionRefused]; decide +kernel, fun m hm => ?_⟩
       interval_cases m <;> (simp only [optionRefused]; decide +kernel))

/-- R173 and section 11.9: a unit B in IDLE and FREE at tick 0x01020304 with notices lost; the flag is then clear. -/
theorem test_status :
    (let s : State := { State.reset with tick := 0x01020304, link := { State.reset.link with noticesLost := true } }
     answer .status 1 [] s = some [0, 0x3A, 2, 1, 0, 0, 0, 1, 1, 2, 3, 4]
     ∧ (does .status (ask 1 [] s)).link.noticesLost = false) := by decide +kernel

/-- R174: a settle time of 51 is stored as 50, CLAMPED; a board mode of 3 is OUT_OF_RANGE, field 12. -/
theorem test_set_options :
    (let t := does .setOptions (ask 2 sentOptions State.reset)
     t.options.settle = 50 ∧ t.options.yieldOnRequest = false ∧ t.link.reply.map (fun f => f.payload.take 1) = some [1])
    ∧ answer .setOptions 2 (sentOptions.set 15 3) State.reset = some [5, 12]
    ∧ answer .setOptions 2 sentOptions (inState .armed e415 [] 0) = some [2] := by decide +kernel

theorem test_read_options :
    answer .readOptions 3 [] State.reset = some (0 :: ([0, 0, 0, 0, 0, 20, 50, 100, 5] ++ bytesOf 2 2000 ++ bytesOf 4 50000
      ++ [0, 0, 0, 1, 2] ++ bytesOf 2 1000 ++ bytesOf 2 11000 ++ bytesOf 4 100000 ++ [1, 0] ++ bytesOf 4 20000 ++ bytesOf 2 2000
      ++ bytesOf 4 30000 ++ bytesOf 4 50000 ++ bytesOf 2 3000 ++ bytesOf 4 100000)) := by decide +kernel

/-- Section 1.12: the alarm of button 46 stands in the list until CLEAR_ALARMS. -/
theorem test_alarms :
    (let s := does (.lineStuck 46) (activeSince 46 250001)
     answer .readAlarms 0x28 [] s = some ([0, 1, 2, 7] ++ bytesOf 4 250001 ++ bytesOf 4 250001)
     ∧ (does .clearAlarms (ask 0x29 [] s)).link.alarms = []) := by decide +kernel

/-- R178: a payload resets nothing. -/
theorem test_reset :
    answer .reset 0x3F [1] State.reset = some [3]
    ∧ (does .reset (ask 0x3F [1] State.reset)).link.resetPending = false
    ∧ (does .reset (ask 0x3F [] State.reset)).link.resetPending = true := by decide +kernel

/-! ## WATCH -/

/-- A state with a pending watch of tag 9 on the vector as it stands. -/
def watching (s : State) : State := { s with link := { s.link with watch := some { tag := 9, snapshot := s.vector } } }

theorem witness_WatchAndCancelWatch :
    (∀ p ∈ [(List.replicate 11 0 : List Byte), List.replicate 10 0 ++ [0xFF]],
      HeadRequest (frm 0x18 p) [] (ask 0x18 p State.reset) ∧ (frm 0x18 p).payload.length = 11)
    ∧ State.reset.link.watch = none ∧ State.reset.link.watchAnswer = none ∧ List.replicate 11 0 = State.reset.vector
    ∧ HeadRequest (frm 0x18 (List.replicate 11 0)) [] (ask 0x18 (List.replicate 11 0) (watching State.reset))
    ∧ HeadRequest (frm 0x19 []) [] (ask 0x19 [] (watching State.reset)) ∧ HeadRequest (frm 0x19 []) [] (ask 0x19 [] State.reset)
    := by
  refine ⟨fun p hp => ⟨head_ask _ _ _ (by decide +kernel), ?_⟩, rfl, rfl, by decide +kernel, head_ask _ _ _ (by decide +kernel),
    head_ask _ _ _ (by decide +kernel), head_ask _ _ _ (by decide +kernel)⟩
  simp only [List.mem_cons, List.not_mem_nil, or_false] at hp
  rcases hp with rfl | rfl <;> rfl

/-- R171: an equal snapshot waits without a reply, an invalid last code is answered at once, a second WATCH is BUSY. -/
theorem test_watch :
    answer .watch 0x18 (List.replicate 11 0) State.reset = none
    ∧ answer .watch 0x18 (List.replicate 10 0 ++ [0xFF]) State.reset = some (0 :: List.replicate 11 0)
    ∧ answer .watch 0x18 (List.replicate 11 0) (watching State.reset) = some [11] := by decide +kernel

/-- R172. -/
theorem test_cancel_watch :
    (let t := does .cancelWatch (ask 0x19 [] (watching State.reset))
     t.link.watchAnswer = some { kind := 0x98, tag := 9, payload := [13] } ∧ t.link.watch = none
     ∧ t.link.reply.map (·.payload) = some [0]) := by decide +kernel

theorem witness_PendingWatchSeesEveryChange :
    (let s := watching (ask 9 [0, 1] (inState .loaded e415 [] 0))
     exec .setLane s = .next (does .setLane s) ∧ s.link.watch = some { tag := 9, snapshot := s.vector }
     ∧ (does .setLane s).vector ≠ s.vector)
    ∧ (let s := watching State.reset
       exec .headerTenths s = .next s ∧ s.link.watch = some { tag := 9, snapshot := s.vector }) :=
  ⟨⟨rfl, rfl, by decide +kernel⟩, rfl, rfl⟩

/-! ## The receiver and the transmitter -/

/-- R166: over the bytes 0x31 to 0x39 the check's register ends at 0x29B1. -/
theorem test_crc : crc [0x31, 0x32, 0x33, 0x34, 0x35, 0x36, 0x37, 0x38, 0x39] = 0x29B1 := by decide +kernel

/-- A receiver in a state with the bytes it holds, the last of them at tick 0. -/
def receiving (st : RxState) (held : List Byte) (now : Tick) : State :=
  { State.reset with
    tick := now, link := { State.reset.link with receiver := { state := st, held := held, last := 0 } } }

/-- A STATUS request. -/
def statusFrame : List Byte := (frm 1 []).bytes

/-- The same with its last byte spoilt. -/
def spoilt : Byte := statusFrame.getLastD 0 + 1

theorem witness_ReceiverTakesBytes :
    (receiving .hunt [] 0).link.receiver.state = .hunt
    ∧ ((receiving .length [0xA7] 0).link.receiver.state = .length ∧ (receiving .length [0xA7] 0).link.receiver.held = [0xA7]
      ∧ (240 : Byte).toNat = 240 ∧ (241 : Byte).toNat = 241)
    ∧ (receiving (.body 2) [0xA7, 0, 7, 1] 0).link.receiver.state = .body 2
    ∧ ((receiving (.body 1) statusFrame.dropLast 0).link.receiver.state = .body 1 ∧ (frm 1 []).payload.length ≤ 240
      ∧ (receiving (.body 1) statusFrame.dropLast 0).link.receiver.held ++ [statusFrame.getLastD 0] = (frm 1 []).bytes)
    ∧ ((receiving .length [0xA7] 201).link.receiver.state ≠ .hunt
      ∧ 200 + 1 = interval (receiving .length [0xA7] 201).link.receiver.last (receiving .length [0xA7] 201).tick) := by
  decide +kernel

/-- R167: a lead byte starts a frame, a length of 241 fails it, and a gap of 201 ticks ends it. -/
theorem test_receiver :
    (does (.byteReceived 0xA7 true) (receiving .hunt [] 0)).link.receiver.state = .length
    ∧ (does (.byteReceived 240 true) (receiving .length [0xA7] 0)).link.receiver.state = .body 244
    ∧ told (does (.frameFailed 241 true) (receiving .length [0xA7] 0)) = [(0x52, [1, 0, 0])]
    ∧ told (does .frameTimeout (receiving .length [0xA7] 201)) = [(0x52, [2, 0, 0])]
    ∧ told (does .frameTimeout (receiving .length [0xA7] 200)) = [] := by decide +kernel

/-- R168: the frame joins the buffer, and with four held it is lost with OVERRUN. -/
theorem test_frame_complete :
    (let s := receiving (.body 1) statusFrame.dropLast 0
     let b := statusFrame.getLastD 0
     (does (.frameComplete b true) s).link.buffer = [frm 1 []]
     ∧ told (does (.frameComplete b true) { s with link := { s.link with buffer := List.replicate 4 (frm 3 []) } })
        = [(0x52, [3, 1, 7])]) := by decide +kernel

theorem witness_FailedFrameIsExaminedAgain :
    (let s := receiving (.body 1) statusFrame.dropLast 0
     s.link.receiver.state = .body 1 ∧ s.link.receiver.held.length = (byteAt s.link.receiver.held 1).toNat + 5
     ∧ s.link.receiver.held.head? = some 0xA7 ∧ ∀ f : Frame, s.link.receiver.held ++ [spoilt] ≠ f.bytes) := by
  refine ⟨rfl, by decide +kernel, by decide +kernel, ?_⟩
  rintro ⟨k, t, p⟩ h
  have hl := congrArg List.length h
  have hp : p = [] := by
    simp only [Frame.bytes, Frame.body, receiving, List.length_append, List.length_cons, List.length_nil] at hl
    have h2 : ∀ x : Nat, (bytesOf 2 x).length = 2 := fun _ => rfl
    have h3 : statusFrame.dropLast.length = 5 := by decide +kernel
    apply List.eq_nil_of_length_eq_zero
    rw [h2] at hl
    omega
  subst hp
  have ht : t = 7 := by
    have := congrArg (fun l : List Byte => l.getD 2 0) h
    simpa [Frame.bytes, Frame.body, receiving, statusFrame, frm, bytesOf, byte] using this.symm
  have hk : k = 1 := by
    have := congrArg (fun l : List Byte => l.getD 3 0) h
    simpa [Frame.bytes, Frame.body, receiving, statusFrame, frm, bytesOf, byte] using this.symm
  subst ht hk
  exact absurd h (by decide +kernel)

/-- R167: a true frame behind a spoilt lead byte is found: a lead byte, a length of 1 and then a STATUS frame of 6 bytes. -/
theorem test_frame_failed :
    (let held : List Byte := [0xA7, 1] ++ statusFrame
     let s := receiving (.body 1) (held.take 6) 0
     let t := does (.frameFailed (held.getD 6 0) true) s
     told t = [(0x52, [0, 0, 0])] ∧ t.link.receiver.state = .body 1
     ∧ (does (.frameComplete (held.getD 7 0) true) t).link.buffer = [frm 1 []]) := by decide +kernel

/-- A message waits in a source at 115,200 bit/s. -/
def waitingToSend (l : Link) : State := { State.reset with link := { l with rate0 := true } }

/-- A message of `src` on TXD since tick 0 for 16 ticks. -/
def onLine (src : TxSource) (now : Tick) : State :=
  { State.reset with
    tick := now
    link := { State.reset.link with
      reply := some (frm 0x81 []), sent := some { source := src, bytes := [], timer := { start := 0, width := 16 } } } }

theorem witness_TransmitterSendsInOrder :
    (∀ f : Frame, (waitingToSend { State.reset.link with watchAnswer := some f }).link.watchAnswer = some f
      ∧ (waitingToSend { State.reset.link with reply := some f }).link.reply = some f
      ∧ (waitingToSend { State.reset.link with notices := [f] }).link.notices = f :: [])
    ∧ (waitingToSend State.reset.link).link.sent = none ∧ (waitingToSend State.reset.link).link.resetDue = false
    ∧ (∀ src : TxSource, ∃ m, (onLine src 16).link.sent = some m ∧ m.source = src
        ∧ m.timer.width = interval m.timer.start (onLine src 16).tick) := by
  refine ⟨fun f => ⟨rfl, rfl, rfl⟩, rfl, rfl, fun src => ⟨_, rfl, rfl, ?_⟩⟩
  show (16 : Nat) = interval 0 16
  decide +kernel

/-- R166: a STATUS reply of 18 bytes at 115,200 bit/s takes 16 ticks. -/
theorem test_message_start :
    (let s := waitingToSend { State.reset.link with reply := some (frm 0x81 (List.replicate 12 0)) }
     (does .messageStart s).link.sent.map (fun m => (m.bytes.length, m.timer.width)) = some (18, 16)) := by decide +kernel

theorem test_message_end :
    (does .messageEnd (onLine .reply 16)).link.reply = none ∧ (does .messageEnd (onLine .reply 15)).link.reply ≠ none := by
  decide +kernel

theorem witness_FrameSentIsFrameReceived :
    (frm 0x22 (List.replicate 240 0xA7)).payload.length = 240 ∧ (receiving .hunt [] 0).link.receiver.state = .hunt
    ∧ ({ State.reset with link := { State.reset.link with buffer := List.replicate 3 (frm 1 []) } } : State).link.buffer.length
      = 3 := by decide +kernel

theorem witness_RecordsAreReadAsWritten : Options.powerOn.inRange ∧ (eventOf d112).inRange := by
  constructor
  · unfold Options.inRange
    decide +kernel
  · unfold EventDesc.inRange
    decide +kernel

/-! ## Invariants -/

/-- At reset every invariant holds and the step answers a next state: it is `allDue` empty, so a tick passes. -/
theorem witness_invariants_at_reset :
    step State.reset = .next (advanceTick State.reset) ∧ Shape State.reset ∧ SplitsInOrder State.reset ∧ BoardInv State.reset
    ∧ LinkInv State.reset ∧ WatchCurrent State.reset := by
  refine ⟨?_, ⟨rfl, rfl, rfl, rfl, rfl, rfl, rfl, rfl⟩, ?_, ⟨List.nodup_nil, by simp [State.reset, Board.powerOn],
    by simp [State.reset, Board.powerOn], by decide, by decide, by decide, by simp [State.reset, Board.powerOn],
    fun _ => ⟨rfl, rfl⟩, by simp [State.reset]⟩, ⟨by decide, by decide, by decide, by decide⟩, watch_none rfl⟩
  · have h : chooseDue State.reset = none := by decide +kernel
    simp only [step, h, show State.reset.pending = [] from rfl]
  · intro l hl
    simp only [State.reset, List.mem_replicate] at hl
    rw [hl.2]
    exact ⟨rfl, rfl⟩


/-- At reset the race's invariants hold as well: every lane is VACANT and none is ranked. -/
theorem witness_race_invariants_at_reset :
    RaceAgrees State.reset ∧ PlacesRight State.reset ∧ RankingRight State.reset ∧ LanesSpaced State.reset
    ∧ CountsRight State.reset ∧ LagsRight State.reset := by
  have blank : ∀ l ∈ State.reset.lanes, l = Lane.blank := fun l hl => (List.mem_replicate.1 hl).2
  refine ⟨⟨rfl, by decide +kernel, by decide +kernel, by decide +kernel⟩, ?_, ⟨?_, List.Pairwise.nil⟩, ?_,
    ⟨by decide +kernel, by decide +kernel, by decide +kernel, by decide +kernel, by decide +kernel⟩,
    ⟨by decide +kernel, by decide +kernel, by decide +kernel⟩⟩
  · intro l hl
    rw [blank l hl]
    rfl
  · intro n
    refine ⟨fun h => by simp [State.reset, Race.cleared] at h, fun ⟨hn, hp⟩ => ?_⟩
    have hl : State.reset.lane n ∈ State.reset.lanes := by
      have : ∀ n < 10, State.reset.lane n ∈ State.reset.lanes := by decide +kernel
      exact this n hn
    rw [blank _ hl] at hp
    simp [Lane.placed, Lane.blank] at hp
  · intro l hl
    rw [blank l hl]
    constructor <;> simp [Lane.blank]

/-- A race of event 305 under way: lanes 0 and 4 resolved and ranked, lane 1 FINISHING, lane 2 behind a missed turn with its split
hold running, lane 3 on its last length; the board owned with a row in transmission and rows queued; a request held, a notice, an
alarm entry and a watch on the link. -/
def underWay : State :=
  let laps (k : Nat) : List Split := (List.range k).map (fun i => timed (i + 1) ((i + 1) * 240000))
  let home (st : LaneState) (t p : Nat) : Lane :=
    { swum (laps 7 ++ [{ timed 8 t with kind := .final }]) with
      state := st, pad := some (seen t), candidate := some (t + 100), source := .pad, place := some p }
  let s := inState .running e305
    [home .finished 1921000 1,
     { swum (laps 7) with state := .finishing, pad := some (seen 1922000), first := some (seen 1922000) },
     { swum (laps 2 ++ [untimedEntry 3 .missed]) with misses := 1 }, swum (laps 7), home .review 1921500 2] 1923000
  let o := owner 1923000 (some (row6 .fullMode .waitReady [0x02, 0x30])) [1, 12] 3
  watching ((setFinalInput 3 true
    { s with
      race := { s.race with lags := [{ lane := 0, delta := 100 }], ranking := [0, 4] }, board := o.board, share := o.share
      link := { s.link with
        buffer := [frm 1 []], notices := [frm 0x44 []]
        alarms := [{ kind := .boardStall, lane := none, first := 5, last := 9 }] }
      pending := [.headerTenths] }).setHold 2 (some { start := 1900000, width := 100000 }))

/-- The invariants of the lists, the lanes, the board and the link hold there too, and the step answers a next state. -/
theorem witness_invariants_under_way :
    (∃ t, step underWay = .next t) ∧ Shape underWay ∧ SplitsInOrder underWay ∧ BoardInv underWay ∧ LinkInv underWay
    ∧ WatchCurrent underWay ∧ RaceAgrees underWay ∧ CountsRight underWay ∧ LagsRight underWay := by
  refine ⟨⟨_, rfl⟩, ⟨?_, ?_, ?_, ?_, ?_, ?_, ?_, ?_⟩, ?_, ⟨?_, ?_, ?_, ?_, ?_, ?_, ?_, ?_, ?_⟩, ⟨?_, ?_, ?_, ?_⟩, ?_,
    ⟨?_, ?_, ?_, ?_⟩, ⟨?_, ?_, ?_, ?_, ?_⟩, ⟨?_, ?_, ?_⟩⟩
  case refine_9 => exact (by unfold Lane.splitsInOrder; decide +kernel : ∀ l ∈ underWay.lanes, l.splitsInOrder)
  case refine_12 => exact (by decide +kernel : ∀ x ∈ underWay.board.sending, x.row < 22)
  case refine_23 =>
    intro w h
    cases h
    rfl
  all_goals decide +kernel

/-- The places, the ranking and the distances of the timed evidence hold there as well. -/
theorem witness_race_invariants_under_way :
    RaceAgrees underWay ∧ PlacesRight underWay ∧ RankingRight underWay ∧ LanesSpaced underWay := by
  have placed (l : Lane) : l.placed ↔ l.ranked = true := by
    simp [Lane.placed, Lane.ranked, Option.isSome_iff_ne_none]
  refine ⟨⟨by decide +kernel, by decide +kernel, by decide +kernel, by decide +kernel⟩, ?_, ⟨fun n => ?_, ?_⟩, ?_⟩
  · exact (by decide +kernel : ∀ l ∈ underWay.lanes, l.place = placeAmong underWay.lanes l)
  · rw [placed]
    by_cases hn : n < 10
    · exact (by decide +kernel : ∀ n < 10, n ∈ underWay.race.ranking ↔
        n < underWay.lanes.length ∧ (underWay.lane n).ranked = true) n hn
    · have h1 : ∀ m ∈ underWay.race.ranking, m < 10 := by decide +kernel
      have h2 : underWay.lanes.length = 10 := by decide +kernel
      exact ⟨fun h => absurd (h1 n h) hn, fun h => absurd (h2 ▸ h.1) hn⟩
  · decide +kernel
  · have h1 : ∀ l ∈ underWay.lanes, ∀ x ∈ l.splits, ∀ t ∈ x.time, x.length * e305.minLength ≤ t := by decide +kernel
    have h2 : ∀ l ∈ underWay.lanes, ∀ x ∈ l.splits, ∀ y ∈ l.splits, ∀ t ∈ x.time, ∀ u ∈ y.time, x.kind = .timed →
        x.length < y.length → t + (y.length - x.length) * e305.minLength ≤ u := by decide +kernel
    have h3 : ∀ l ∈ underWay.lanes, ∀ x ∈ l.splits, x.time ≠ none ↔ x.kind = .timed ∨ x.kind = .final := by decide +kernel
    have h4 : ∀ l ∈ underWay.lanes, ∀ x ∈ l.splits, x.kind = .final →
        (l.state = .finished ∨ l.state = .review) ∧ x.length = l.done := by decide +kernel
    have h5 : ∀ l ∈ underWay.lanes, ∀ p ∈ l.pad,
        (l.state = .finishing ∨ l.state = .finished ∨ l.state = .review) ∧ lengthLimit e305 l 1 ≤ p.time := by decide +kernel
    have h6 : ∀ l ∈ underWay.lanes, ∀ c ∈ l.candidate,
        (l.state = .finished ∨ l.state = .review) ∧ lengthLimit e305 l 1 ≤ c := by decide +kernel
    exact fun l hl => ⟨h1 l hl, fun x hx y hy t u hk ht hu hl' => h2 l hl x hx y hy t ht u hu hk hl', h3 l hl, h4 l hl,
      h5 l hl, h6 l hl⟩

end Sys2Proof.Tests
end

section
/-!
What each command leaves of the sense lines: the commands of the Race Engine, the Board Link Controller, the Board Share Unit,
the Lamp Unit and the Console Link Controller leave every line record as it is, and those of the Capture Unit but LINE_MASK,
POWER_ON and RESET_TAKES_EFFECT leave every mask.
-/
namespace Sys2Proof.Machine

/-! ## The outcome of a command -/

/-- The next state, where the command has one, meets `P`. -/
def NextMeets (P : State → Prop) (o : Host.Outcome State Fault Refusal) : Prop := ∀ t, o = .next t → P t

@[simp] theorem nextMeets_next (P : State → Prop) (t : State) : NextMeets P (.next t) ↔ P t :=
  ⟨fun h => h t rfl, fun h _ he => by cases he; exact h⟩

@[simp] theorem nextMeets_fault (P : State → Prop) (x : Fault) : NextMeets P (.fault x) :=
  fun _ h => by cases h

/-- The command leaves every line record as it is. -/
abbrev LeavesLines (s : State) (o : Host.Outcome State Fault Refusal) : Prop := NextMeets (fun t => t.lines = s.lines) o

/-! ## Requests -/

/-- Whatever the Race Engine does to the other blocks, it leaves the line records. -/
theorem raceClosed_lines (ls : List Line) : RaceClosed (fun t => t.lines = ls) where
  race _ _ h := h
  lanes _ _ h := h
  lamps _ _ _ _ _ h := h
  notice _ _ _ h := (outer_lines (outer_handNotice ..)).trans h
  answer _ _ _ _ h := h
  mark _ _ _ h := h
  hold _ _ _ h := h
  stops _ h := h

/-- A request whose block leaves the line records leaves them. -/
theorem takeRequest_leavesLines {kind : Byte} {mine : List Byte → Bool} {lengthOk : Nat → Bool} {bad : State → List Byte}
    {act : Frame → State → State} {s : State} (hact : ∀ f t, (act f t).lines = t.lines) :
    LeavesLines s (.next (takeRequest kind mine lengthOk bad act s)) := by
  refine (nextMeets_next _ _).mpr ?_
  exact takeRequest_closed (fun t => t.lines = s.lines) kind mine lengthOk bad act s rfl (fun _ h => h) (fun _ _ _ _ h => h)
    (fun f t h => (hact f t).trans h)

/-- A request of the Race Engine leaves the line records. -/
theorem raceRequest_leavesLines {kind : Byte} {mine : List Byte → Bool} {lengthOk : Nat → Bool} {bad : State → List Byte}
    {act : Frame → State → State} {s : State}
    (hact : ∀ {Q : State → Prop}, RaceClosed Q → (∀ f c x t, Q t → Q (putReply f c x t)) → ∀ {t} f, Q t → Q (act f t)) :
    LeavesLines s (.next (takeRequest kind mine lengthOk bad act s)) :=
  takeRequest_leavesLines (fun f t => hact (raceClosed_lines t.lines) (fun _ _ _ _ h => h) f rfl)

/-! ## The operations of the other blocks -/

@[simp] theorem handNotice_lines (k : Byte) (p : List Byte) (s : State) : (handNotice k p s).lines = s.lines :=
  outer_lines (outer_handNotice k p s)
@[simp] theorem handAlarm_lines (k : AlarmKind) (lane : Option Nat) (s : State) : (handAlarm k lane s).lines = s.lines :=
  outer_lines (outer_handAlarm k lane s)
@[simp] theorem markRow_lines (r : Nat) (s : State) : (markRow r s).lines = s.lines := outer_lines (outer_markRow r s)
@[simp] theorem markLaneRow_lines (n : Nat) (s : State) : (markLaneRow n s).lines = s.lines :=
  outer_lines (outer_markLaneRow n s)
@[simp] theorem markAllRows_lines (s : State) : (markAllRows s).lines = s.lines := outer_lines (outer_markAllRows s)
@[simp] theorem endHold_lines (n : Nat) (s : State) : (endHold n s).lines = s.lines := outer_lines (outer_endHold n s)
@[simp] theorem watchCheck_lines (s : State) : (watchCheck s).lines = s.lines := outer_lines (outer_watchCheck s)
@[simp] theorem endOfRaceCheck_lines (s : State) : (endOfRaceCheck s).lines = s.lines :=
  outer_lines (outer_endOfRaceCheck s)
@[simp] theorem resolveLane_lines (n : Nat) (s : State) : (resolveLane n s).lines = s.lines :=
  outer_lines (outer_resolveLane n s)
@[simp] theorem takeCapture_lines (c : CaptureEvent) (s : State) : (takeCapture c s).lines = s.lines :=
  outer_lines (outer_takeCapture c s)

@[simp] theorem beginByte_lines (x : Sending) (s : State) : (beginByte x s).lines = s.lines := by
  unfold beginByte
  split <;> rfl
@[simp] theorem nextByte_lines (x : Sending) (s : State) : (nextByte x s).lines = s.lines := by
  simp [nextByte]
@[simp] theorem startRow_lines (r : Nat) (rr : Bool) (s : State) : (startRow r rr s).lines = s.lines := by
  simp [startRow]
@[simp] theorem abandonRow_lines (s : State) : (abandonRow s).lines = s.lines := rfl
@[simp] theorem startSlot_lines (s : State) : (startSlot s).lines = s.lines := rfl
@[simp] theorem adjustSlot_lines (n : Nat) (s : State) : (adjustSlot n s).lines = s.lines := by
  unfold adjustSlot
  dsimp only
  (repeat' split) <;> simp
@[simp] theorem flagStep_lines (high : Bool) (s : State) : (flagStep high s).lines = s.lines := by
  unfold flagStep
  (repeat' split) <;> simp

@[simp] theorem setOwnership_lines (o : Ownership) (r : BoardReason) (s : State) : (setOwnership o r s).lines = s.lines := by
  simp [setOwnership, handBoard]
@[simp] theorem enterFree_lines (r : BoardReason) (s : State) : (enterFree r s).lines = s.lines := by
  unfold enterFree
  dsimp only
  split <;> simp
@[simp] theorem gainBoard_lines (s : State) : (gainBoard s).lines = s.lines := by
  simp [gainBoard, handBoard]
@[simp] theorem leaveByYield_lines (s : State) : (leaveByYield s).lines = s.lines := by
  simp [leaveByYield]
@[simp] theorem leaveByRelease_lines (s : State) : (leaveByRelease s).lines = s.lines := by
  unfold leaveByRelease
  (repeat' split) <;> simp
@[simp] theorem failOrForce_lines (s : State) : (failOrForce s).lines = s.lines := by
  unfold failOrForce
  dsimp only
  split <;> simp
@[simp] theorem onRequest_lines (s : State) : (onRequest s).lines = s.lines := by
  unfold onRequest
  (repeat' split) <;> simp [handBoard]
@[simp] theorem releaseBoard_lines (s : State) : (releaseBoard s).lines = s.lines := by
  unfold releaseBoard
  (repeat' split) <;> simp

@[simp] theorem handLinkError_lines (r : LinkError) (k tag : Byte) (s : State) : (handLinkError r k tag s).lines = s.lines := by
  simp [handLinkError]
@[simp] theorem joinBuffer_lines (f : Frame) (s : State) : (joinBuffer f s).lines = s.lines := by
  unfold joinBuffer
  split <;> simp
@[simp] theorem rxEffect_lines (o : RxOutcome) (s : State) : (rxEffect o s).lines = s.lines := by
  cases o <;> simp [rxEffect]
@[simp] theorem examine_lines (k : Nat) (bs : List Byte) (s : State) : (examine k bs s).lines = s.lines := by
  induction k generalizing bs s with
  | zero => rfl
  | succ k ih =>
    cases bs with
    | nil => rfl
    | cons b bs => exact (ih _ _).trans (rxEffect_lines _ s)
@[simp] theorem receiveByte_lines (b : Byte) (s : State) : (receiveByte b s).lines = s.lines := by
  simp [receiveByte]
@[simp] theorem startMessage_lines (src : TxSource) (f : Frame) (s : State) : (startMessage src f s).lines = s.lines := rfl
@[simp] theorem endMessage_lines (src : TxSource) (s : State) : (endMessage src s).lines = s.lines := rfl

/-! ### Request actions of the other blocks -/

theorem actReadLane_lines (f : Frame) (s : State) : (actReadLane f s).lines = s.lines := by
  unfold actReadLane
  dsimp only
  split <;> rfl
theorem actReadSplits_lines (f : Frame) (s : State) : (actReadSplits f s).lines = s.lines := by
  unfold actReadSplits
  dsimp only
  (repeat' split) <;> rfl
theorem actBoardText_lines (f : Frame) (s : State) : (actBoardText f s).lines = s.lines := by
  simp [actBoardText]
theorem actRowMask_lines (f : Frame) (s : State) : (actRowMask f s).lines = s.lines := by
  simp only [actRowMask, putReply_lines, adjustSlot_lines]
  exact forEach_keeps State.lines markAnyRow markAnyRow_lines _ _
theorem actBoardTake_lines (f : Frame) (s : State) : (actBoardTake f s).lines = s.lines := by
  unfold actBoardTake
  dsimp only
  (repeat' split) <;> simp [beginAsk]
theorem actBoardRelease_lines (f : Frame) (s : State) : (actBoardRelease f s).lines = s.lines := by
  simp [actBoardRelease]
theorem actSetOptions_lines (f : Frame) (s : State) : (actSetOptions f s).lines = s.lines := by
  unfold actSetOptions
  (repeat' split) <;> rfl
theorem actWatch_lines (f : Frame) (s : State) : (actWatch f s).lines = s.lines := by
  unfold actWatch
  (repeat' split) <;> rfl
theorem actCancelWatch_lines (f : Frame) (s : State) : (actCancelWatch f s).lines = s.lines := by
  unfold actCancelWatch
  split <;> rfl

/-! ## The commands of the other blocks -/

theorem execBackupWindowExpiry_leavesLines (n : Nat) (s : State) : LeavesLines s (execBackupWindowExpiry n s) := by
  unfold execBackupWindowExpiry
  (repeat' split) <;> simp
theorem execClockLimit_leavesLines (s : State) : LeavesLines s (execClockLimit s) := by
  unfold execClockLimit
  split <;> simp
theorem execHeaderTenths_leavesLines (s : State) : LeavesLines s (execHeaderTenths s) := by
  unfold execHeaderTenths
  split <;> simp
theorem execRunningSeconds_leavesLines (s : State) : LeavesLines s (execRunningSeconds s) := by
  unfold execRunningSeconds
  split
  · simpa using forEach_keeps State.lines markLaneRow markLaneRow_lines (runningLanes s) s
  · simp
theorem execSplitHoldExpiry_leavesLines (n : Nat) (s : State) : LeavesLines s (execSplitHoldExpiry n s) := by
  unfold execSplitHoldExpiry
  (repeat' split) <;> simp
theorem execSlotExpiry_leavesLines (s : State) : LeavesLines s (execSlotExpiry s) := by
  unfold execSlotExpiry
  dsimp only
  (repeat' split) <;> simp
theorem execRowStart_leavesLines (s : State) : LeavesLines s (execRowStart s) := by
  unfold execRowStart
  split <;> simp
theorem execRowComplete_leavesLines (flag : Bool) (s : State) : LeavesLines s (execRowComplete flag s) := by
  unfold execRowComplete
  dsimp only
  (repeat' split) <;> simp
theorem execBoardStall_leavesLines (s : State) : LeavesLines s (execBoardStall s) := by
  unfold execBoardStall
  (repeat' split) <;> simp
theorem execFlagWaitMet_leavesLines (flag : Bool) (s : State) : LeavesLines s (execFlagWaitMet flag s) := by
  simp [execFlagWaitMet]
theorem execSettleTimeExpiry_leavesLines (s : State) : LeavesLines s (execSettleTimeExpiry s) := by
  unfold execSettleTimeExpiry
  (repeat' split) <;> simp
theorem execStrobeWidthExpiry_leavesLines (s : State) : LeavesLines s (execStrobeWidthExpiry s) := by
  unfold execStrobeWidthExpiry
  (repeat' split) <;> simp
theorem execClaimWindowEnd_leavesLines (s : State) : LeavesLines s (execClaimWindowEnd s) := by
  unfold execClaimWindowEnd
  split <;> simp
theorem execClaimWithdrawn_leavesLines (v : ShareLevels) (s : State) : LeavesLines s (execClaimWithdrawn v s) := by
  unfold execClaimWithdrawn
  dsimp only
  split <;> simp
theorem execPartnerTook_leavesLines (v : ShareLevels) (s : State) : LeavesLines s (execPartnerTook v s) := by
  unfold execPartnerTook
  dsimp only
  split <;> simp
theorem execBoardFree_leavesLines (v : ShareLevels) (s : State) : LeavesLines s (execBoardFree v s) := by
  unfold execBoardFree
  dsimp only
  split <;> simp
theorem execClaimOnOwnInInactive_leavesLines (v : ShareLevels) (s : State) :
    LeavesLines s (execClaimOnOwnInInactive v s) := by
  unfold execClaimOnOwnInInactive
  dsimp only
  split <;> simp
theorem execTakeWaitExpiry_leavesLines (s : State) : LeavesLines s (execTakeWaitExpiry s) := by
  unfold execTakeWaitExpiry
  split <;> simp
theorem execReqInActive_leavesLines (v : ShareLevels) (s : State) : LeavesLines s (execReqInActive v s) := by
  unfold execReqInActive
  dsimp only
  split <;> simp
theorem execStopAfterRow_leavesLines (s : State) : LeavesLines s (execStopAfterRow s) := by
  unfold execStopAfterRow
  split <;> simp
theorem execBoardLost_leavesLines (v : ShareLevels) (s : State) : LeavesLines s (execBoardLost v s) := by
  unfold execBoardLost
  dsimp only
  split <;> simp
theorem execPulseExpiry_leavesLines (f : PulseId) (s : State) : LeavesLines s (execPulseExpiry f s) := by
  unfold execPulseExpiry
  (repeat' split) <;> simp
theorem execExtendedExpiry_leavesLines (f : ExtendedId) (s : State) : LeavesLines s (execExtendedExpiry f s) := by
  unfold execExtendedExpiry
  (repeat' split) <;> simp
theorem execOffDelayExpiry_leavesLines (n : Nat) (s : State) : LeavesLines s (execOffDelayExpiry n s) := by
  unfold execOffDelayExpiry
  split <;> simp
theorem execByteReceived_leavesLines (b : Byte) (stop : Bool) (s : State) : LeavesLines s (execByteReceived b stop s) := by
  unfold execByteReceived
  split <;> simp
theorem execFrameComplete_leavesLines (b : Byte) (stop : Bool) (s : State) : LeavesLines s (execFrameComplete b stop s) := by
  unfold execFrameComplete
  split <;> simp
theorem execFrameFailed_leavesLines (b : Byte) (stop : Bool) (s : State) : LeavesLines s (execFrameFailed b stop s) := by
  unfold execFrameFailed
  split <;> simp
theorem execFrameTimeout_leavesLines (s : State) : LeavesLines s (execFrameTimeout s) := by
  unfold execFrameTimeout
  split <;> simp
theorem execUnknownKind_leavesLines (s : State) : LeavesLines s (execUnknownKind s) := by
  unfold execUnknownKind
  (repeat' split) <;> simp
theorem execMessageStart_leavesLines (s : State) : LeavesLines s (execMessageStart s) := by
  unfold execMessageStart
  split <;> simp
theorem execMessageEnd_leavesLines (s : State) : LeavesLines s (execMessageEnd s) := by
  unfold execMessageEnd
  split <;> simp

/-- The command writes the records of the sense lines. -/
def writesLines : Instr → Bool
  | .powerOn _ | .resetTakesEffect | .pendingEdge _ _ | .pendingEdgeDropped _ _ | .edgeConfirmed _ _ | .padHoldExpiry _
  | .lineStuck _ | .lineMask => true
  | _ => false

/-- A command that does not write the line records leaves them all as they are. -/
theorem exec_leavesLines {c : Instr} (hc : writesLines c = false) (s : State) : LeavesLines s (exec c s) := by
  cases c with
  | powerOn | resetTakesEffect | pendingEdge | pendingEdgeDropped | edgeConfirmed | padHoldExpiry | lineStuck | lineMask =>
    cases hc
  | backupWindowExpiry n => exact execBackupWindowExpiry_leavesLines n s
  | clockLimit => exact execClockLimit_leavesLines s
  | headerTenths => exact execHeaderTenths_leavesLines s
  | runningSeconds => exact execRunningSeconds_leavesLines s
  | splitHoldExpiry n => exact execSplitHoldExpiry_leavesLines n s
  | slotExpiry => exact execSlotExpiry_leavesLines s
  | rowStart => exact execRowStart_leavesLines s
  | rowComplete flag => exact execRowComplete_leavesLines flag s
  | boardStall => exact execBoardStall_leavesLines s
  | flagWaitMet flag => exact execFlagWaitMet_leavesLines flag s
  | settleTimeExpiry => exact execSettleTimeExpiry_leavesLines s
  | strobeWidthExpiry => exact execStrobeWidthExpiry_leavesLines s
  | claimWindowEnd => exact execClaimWindowEnd_leavesLines s
  | claimWithdrawn v => exact execClaimWithdrawn_leavesLines v s
  | partnerTook v => exact execPartnerTook_leavesLines v s
  | boardFree v => exact execBoardFree_leavesLines v s
  | claimOnOwnInInactive v => exact execClaimOnOwnInInactive_leavesLines v s
  | takeWaitExpiry => exact execTakeWaitExpiry_leavesLines s
  | reqInActive v => exact execReqInActive_leavesLines v s
  | stopAfterRow => exact execStopAfterRow_leavesLines s
  | boardLost v => exact execBoardLost_leavesLines v s
  | pulseExpiry f => exact execPulseExpiry_leavesLines f s
  | extendedExpiry f => exact execExtendedExpiry_leavesLines f s
  | offDelayExpiry n => exact execOffDelayExpiry_leavesLines n s
  | byteReceived b stop => exact execByteReceived_leavesLines b stop s
  | frameComplete b stop => exact execFrameComplete_leavesLines b stop s
  | frameFailed b stop => exact execFrameFailed_leavesLines b stop s
  | frameTimeout => exact execFrameTimeout_leavesLines s
  | unknownKind => exact execUnknownKind_leavesLines s
  | messageStart => exact execMessageStart_leavesLines s
  | messageEnd => exact execMessageEnd_leavesLines s
  | loadEvent => exact raceRequest_leavesLines RaceClosed.actLoadEvent
  | setLane => exact raceRequest_leavesLines RaceClosed.actSetLane
  | setRecord => exact raceRequest_leavesLines RaceClosed.actSetRecord
  | clearRace => exact raceRequest_leavesLines RaceClosed.actClearRace
  | arm => exact raceRequest_leavesLines RaceClosed.actArm
  | recallRace => exact raceRequest_leavesLines RaceClosed.actRecall
  | stopRace => exact raceRequest_leavesLines RaceClosed.actStop
  | close => exact raceRequest_leavesLines RaceClosed.actClose
  | adjustLengthPlusOne => exact raceRequest_leavesLines RaceClosed.actAdjustPlus
  | adjustLengthMinusOne => exact raceRequest_leavesLines RaceClosed.actAdjustMinus
  | adjudicate => exact raceRequest_leavesLines RaceClosed.actAdjudicate
  | declareDns =>
    exact raceRequest_leavesLines fun h hput _ f => h.actDeclare hput _ _ _ f fun n hn _ => h.declareDnsLane n hn
  | declareDnf =>
    exact raceRequest_leavesLines fun h hput _ f => h.actDeclare hput _ _ _ f fun n hn _ => h.declareDnfLane n hn
  | declareDq =>
    exact raceRequest_leavesLines fun h hput _ f => h.actDeclare hput _ _ _ f fun n hn _ => h.declareDqLane n hn
  | declareReinstate =>
    exact raceRequest_leavesLines fun h hput _ f => h.actDeclare hput _ _ _ f fun n hn _ => h.declareReinstateLane n hn
  | setOptions => exact takeRequest_leavesLines actSetOptions_lines
  | watch => exact takeRequest_leavesLines actWatch_lines
  | cancelWatch => exact takeRequest_leavesLines actCancelWatch_lines
  | readLane => exact takeRequest_leavesLines actReadLane_lines
  | readSplits => exact takeRequest_leavesLines actReadSplits_lines
  | boardTake => exact takeRequest_leavesLines actBoardTake_lines
  | boardRelease => exact takeRequest_leavesLines actBoardRelease_lines
  | boardText => exact takeRequest_leavesLines actBoardText_lines
  | rowMask => exact takeRequest_leavesLines actRowMask_lines
  | status | readOptions | lineLevels | readRanking | readAlarms | clearAlarms | reset =>
    exact takeRequest_leavesLines fun _ _ => rfl

/-! ## The masks of the lines -/

/-- The masks of the lines, in the order of the lines. -/
def State.masks (s : State) : List Bool := s.lines.map (·.masked)

/-- A change of one line that keeps its mask keeps every mask. -/
@[simp] theorem masks_updLine {n : Nat} {f : Line → Line} {s : State} (hf : ∀ l, (f l).masked = l.masked) :
    (s.updLine n f).masks = s.masks := by
  apply List.ext_getElem?
  intro i
  by_cases hi : n = i <;> cases h : s.lines[i]? <;>
    simp [State.masks, hi, h, hf]

@[simp] theorem masks_sampleLine (n : Nat) (high : Bool) (s : State) : (s.sampleLine n high).masks = s.masks := rfl

/-- Equal line records have equal masks. -/
theorem masks_of_lines {s t : State} (h : t.lines = s.lines) : t.masks = s.masks := congrArg (List.map Line.masked) h

@[simp] theorem masks_takeCapture (c : CaptureEvent) (s : State) : (takeCapture c s).masks = s.masks :=
  masks_of_lines (takeCapture_lines c s)

@[simp] theorem masks_handAlarm (k : AlarmKind) (lane : Option Nat) (s : State) : (handAlarm k lane s).masks = s.masks :=
  masks_of_lines (handAlarm_lines k lane s)

/-- The command leaves every mask as it is. -/
abbrev LeavesMasks (s : State) (o : Host.Outcome State Fault Refusal) : Prop := NextMeets (fun t => t.masks = s.masks) o

@[simp] theorem confirmed_masked (c : LineClass) (e : PendingEdge) (now : Tick) (hold : Nat) (l : Line) :
    (l.confirmed c e now hold).masked = l.masked := rfl

@[simp] theorem masks_confirmEdge (n : Nat) (e : PendingEdge) (s : State) : (confirmEdge n e s).masks = s.masks := by
  unfold confirmEdge
  dsimp only
  have kept := masks_updLine (n := n) (s := s) (confirmed_masked (lineClass n) e s.tick s.tested.padHold)
  split
  · exact (masks_takeCapture _ _).trans kept
  · exact kept

theorem execPendingEdge_leavesMasks (n : Nat) (high : Bool) (s : State) : LeavesMasks s (execPendingEdge n high s) := by
  unfold execPendingEdge
  dsimp only
  (repeat' split) <;> simp

theorem execPendingEdgeDropped_leavesMasks (n : Nat) (high : Bool) (s : State) :
    LeavesMasks s (execPendingEdgeDropped n high s) := by
  unfold execPendingEdgeDropped
  dsimp only
  (repeat' split) <;> simp

theorem execEdgeConfirmed_leavesMasks (n : Nat) (high : Bool) (s : State) : LeavesMasks s (execEdgeConfirmed n high s) := by
  unfold execEdgeConfirmed
  dsimp only
  (repeat' split) <;> simp

theorem execPadHoldExpiry_leavesMasks (n : Nat) (s : State) : LeavesMasks s (execPadHoldExpiry n s) := by
  unfold execPadHoldExpiry
  (repeat' split) <;> simp

theorem execLineStuck_leavesMasks (n : Nat) (s : State) : LeavesMasks s (execLineStuck n s) := by
  unfold execLineStuck
  (repeat' split) <;> simp

/-- No command but LINE_MASK, POWER_ON and RESET_TAKES_EFFECT changes a mask (R19). -/
theorem exec_leavesMasks {c : Instr} (hmask : c ≠ .lineMask) (hpower : ∀ p, c ≠ .powerOn p) (hreset : c ≠ .resetTakesEffect)
    (s : State) : LeavesMasks s (exec c s) := by
  cases hw : writesLines c with
  | false => exact fun t ht => masks_of_lines (exec_leavesLines hw s t ht)
  | true =>
    cases c with
    | lineMask => exact absurd rfl hmask
    | powerOn p => exact absurd rfl (hpower p)
    | resetTakesEffect => exact absurd rfl hreset
    | pendingEdge n high => exact execPendingEdge_leavesMasks n high s
    | pendingEdgeDropped n high => exact execPendingEdgeDropped_leavesMasks n high s
    | edgeConfirmed n high => exact execEdgeConfirmed_leavesMasks n high s
    | padHoldExpiry n => exact execPadHoldExpiry_leavesMasks n s
    | lineStuck n => exact execLineStuck_leavesMasks n s
    | _ => cases hw

/-! ## LINE_MASK (R18, R19) -/

/-- The reply to a request, placed once the request has been taken (R168). -/
theorem putReply_popRequest {f : Frame} {rest : List Frame} {s : State} (h : HeadRequest f rest s) (hk : f.kind.toNat < 0x80)
    (c : ReplyCode) (fields : List Byte) :
    putReply f c fields (popRequest s) = { s with link := s.link.answered f rest c fields } := by
  obtain ⟨hb, -, -, -⟩ := h
  simp [putReply, popRequest, Link.answered, replyTo, replyKind, hk, hb]

/-- A line takes a mask setting: it is undisturbed by the setting that stands, a clearing changes its mask only, and a mask
newly set drops the pending edge (R18). -/
theorem setMask_cases (mask : Bool) (l : Line) :
    l.setMask mask = l
    ∨ ((l.setMask mask).masked = false ∧ l.masked = true ∧ l.setMask mask = { l with masked := false })
    ∨ ((l.setMask mask).masked = true ∧ l.masked = false
        ∧ l.setMask mask = { l with masked := true, pendingEdge := none }) := by
  obtain ⟨_, _, _, _, _, masked⟩ := l
  cases mask <;> cases masked <;> simp [Line.setMask]

/-- The lines after the settings carried in `p` are taken. -/
def masksTaken (p : List Byte) (ls : List Line) : List Line :=
  ls.zipIdx.map (fun x => x.1.setMask ((numberOf p).testBit x.2))

@[simp] theorem length_masksTaken (p : List Byte) (ls : List Line) : (masksTaken p ls).length = ls.length := by
  simp [masksTaken]

/-- Every line takes the setting carried for it. -/
theorem line_masksTaken {p : List Byte} {s t : State} (ht : t.lines = masksTaken p s.lines) {n : Nat}
    (hn : n < s.lines.length) : t.line n = (s.line n).setMask ((numberOf p).testBit n) := by
  simp [State.line, ht, masksTaken, hn]

/-- A LINE_MASK of the right length gives every line its setting and is answered OK (R19). -/
theorem exec_lineMask {f : Frame} {rest : List Frame} {s : State} (h : HeadRequest f rest s) (hk : f.kind = 0x04)
    (hl : f.payload.length = 8) :
    exec .lineMask s
      = .next { s with lines := masksTaken f.payload s.lines, link := s.link.answered f rest .ok [] } := by
  have reply := putReply_popRequest h (by simp [hk]) .ok []
  refine congrArg Host.Outcome.next ((takePlain_head h hk (by simp [hl])).trans ?_)
  exact congrArg (fun t : State => { t with lines := masksTaken f.payload s.lines }) reply

/-- A LINE_MASK of another length is answered BAD_LENGTH, and nothing else happens (R168). -/
theorem exec_lineMask_badLength {f : Frame} {rest : List Frame} {s : State} (h : HeadRequest f rest s) (hk : f.kind = 0x04)
    (hl : f.payload.length ≠ 8) : AnswersOnly .lineMask f rest .badLength [] s :=
  congrArg Host.Outcome.next
    ((takeRequest_badLength h hk rfl (by simp [hl])).trans (putReply_popRequest h (by simp [hk]) .badLength []))

theorem changesOnly_link (s : State) (k : Link) : ChangesOnly [.link] s { s with link := k } := by
  intro b hb
  cases b <;> simp_all [Block.same]

theorem changesOnly_capture_link (s : State) (ls : List Line) (k : Link) :
    ChangesOnly [.capture, .link] s { s with lines := ls, link := k } := by
  intro b hb
  cases b <;> simp_all [Block.same]

/-- Settles O8: the two lengths by what LINE_MASK makes of its request, the other commands by what they leave of the masks. -/
theorem lineMaskSetsTheMasks : Obligations.LineMaskSetsTheMasks := by
  refine ⟨fun s f rest h hk => ⟨fun hl => ?_, fun hl => ?_⟩, fun c s t ht hmask hpower hreset => ?_⟩
  · refine ⟨_, exec_lineMask h hk hl, rfl, changesOnly_capture_link _ _ _, length_masksTaken _ _, fun n hn => ?_⟩
    rw [line_masksTaken rfl hn]
    exact ⟨rfl, setMask_cases _ _⟩
  · exact ⟨_, exec_lineMask_badLength h hk hl, rfl, changesOnly_link _ _⟩
  · exact exec_leavesMasks hmask hpower hreset s t ht

end Sys2Proof.Machine
end

section
/-!
What EDGE_CONFIRMED does to a confirmed edge: its line, the sample and what the capture event, if one is delivered, brings (R7,
R9 to R14); and what the Race Engine does with a START that it does not accept (R45).
-/
namespace Sys2Proof.Machine

/-! ## Limited changes -/

/-- What two changes in a row leave alone is left alone by both together. -/
theorem Block.same_trans {b : Block} {s t u : State} (h : b.same s t) (k : b.same t u) : b.same s u := by
  cases b <;> simp_all [Block.same]

/-! ## Notices and watches (R170, R171) -/

/-- Handing a notice writes the link, and nothing else (R170). -/
theorem handNotice_eq (kind : Byte) (payload : List Byte) (s : State) :
    handNotice kind payload s = { s with link := s.link.withNotice kind payload } := by
  unfold handNotice Link.withNotice
  by_cases h : s.link.notices.length < 32 <;> simp [h, Config.noticeCapacity]

@[simp] theorem withNotice_watch (kind : Byte) (payload : List Byte) (l : Link) :
    (l.withNotice kind payload).watch = l.watch := by
  unfold Link.withNotice
  split <;> rfl

/-- A watch whose snapshot is the current vector is not answered (R171). -/
theorem watchCheck_of_watchCurrent {s : State} (h : WatchCurrent s) : watchCheck s = s := by
  unfold watchCheck
  split
  · rfl
  · next w hw => exact if_pos (h w hw).symm

/-- A notice leaves a current watch current: it changes no state code. -/
theorem watchCurrent_handNotice {s : State} (h : WatchCurrent s) (kind : Byte) (payload : List Byte) :
    WatchCurrent (handNotice kind payload s) := by
  intro w hw
  rw [handNotice_eq] at hw ⊢
  exact h w (by simpa using hw)

/-! ## The confirmation of an edge (R7, R10 to R14, R17) -/

/-- The state once line `n` has been sampled at the level `high` and its edge `e` confirmed, before a capture event is
taken. -/
def edgeConfirmedState (n : Nat) (high : Bool) (e : PendingEdge) (s : State) : State :=
  (s.sampleLine n high).updLine n (Line.confirmed (lineClass n) e s.tick s.tested.padHold)

theorem rearmAfter_meets (c : LineClass) (e : PendingEdge) (now : Tick) (hold : Nat) (r : ReArm) :
    RearmAfter c e now hold r (rearmAfter c e now hold r) := by
  obtain ⟨lead, active⟩ := e
  cases c <;> cases active <;> simp +contextual [RearmAfter, rearmAfter]

theorem lineConfirmed_confirmed (c : LineClass) (e : PendingEdge) (now : Tick) (hold : Nat) (l : Line) :
    LineConfirmed c e now hold l (l.confirmed c e now hold) where
  active := rfl
  pending := rfl
  since h := if_pos h
  stuck := rfl
  masked := rfl
  rearm := rearmAfter_meets c e now hold l.rearm

theorem line_updLine_same {n : Nat} (f : Line → Line) {s : State} (hn : n < s.lines.length) :
    (s.updLine n f).line n = f (s.line n) := by
  simp [State.line, hn]

theorem line_updLine_other {m n : Nat} (h : m ≠ n) (f : Line → Line) (s : State) :
    (s.updLine n f).line m = s.line m := by
  simp [State.line, h.symm]

theorem edgeTaken_edgeConfirmedState {n : Nat} {high : Bool} {e : PendingEdge} {s : State} (h : Confirms n high e s) :
    EdgeTaken n high e [] s (edgeConfirmedState n high e s) := by
  have hn : n < (s.sampleLine n high).lines.length := h.shape ▸ h.number
  refine ⟨?_, fun m hm => line_updLine_other hm _ _, rfl, fun b hb => ?_⟩
  · rw [edgeConfirmedState, line_updLine_same _ hn]
    exact lineConfirmed_confirmed _ _ _ _ _
  · cases b <;> simp_all [Block.same, edgeConfirmedState]

/-- What follows the confirmation without touching the lines and the pins adds the parts it changes. -/
theorem EdgeTaken.andThen {n : Nat} {high : Bool} {e : PendingEdge} {parts : List Block} {s t u : State}
    (h : EdgeTaken n high e [] s t) (hk : ChangesOnly parts t u) (hcapture : .capture ∉ parts) (hpins : .pins ∉ parts) :
    EdgeTaken n high e parts s u := by
  obtain ⟨hline, hothers, hsample, hrest⟩ := h
  have lines : u.lines = t.lines := hk .capture hcapture
  have line (m : Nat) : u.line m = t.line m := by simp [State.line, lines]
  refine ⟨line n ▸ hline, fun m hm => (line m).trans (hothers m hm), (hk .pins hpins).trans hsample, fun b hb => ?_⟩
  simp only [List.mem_cons, not_or] at hb
  obtain ⟨hc, hp, hb⟩ := hb
  exact Block.same_trans (hrest b (by simp [hc, hp])) (hk b hb)

/-- A pending edge of the sampled level that has lasted the deglitch time is confirmed (R7). -/
theorem exec_edgeConfirmed {n : Nat} {high : Bool} {e : PendingEdge} {s : State} (h : Confirms n high e s) :
    exec (.edgeConfirmed n high) s = .next (confirmEdge n e (s.sampleLine n high)) := by
  have number : ¬ Config.lineCount ≤ n := Nat.not_le.mpr h.number
  have confirmed : ((s.sampleLine n high).line n).confirms ((s.sampleLine n high).level n high)
      (s.tested.deglitch (lineClass n)) s.tick = some e := by
    have pending : ((s.sampleLine n high).line n).pendingEdge = some e := h.pending
    simp [Line.confirms, pending, State.level, h.level, h.lasted]
  change execEdgeConfirmed n high s = _
  simp [execEdgeConfirmed, number, confirmed]

/-! ## Delivery (R10 to R14, R16, R18) -/

/-- A confirmed edge brings a capture event just where the statements say that it is delivered. -/
theorem delivered_eq_none_iff (n : Nat) (e : PendingEdge) (s : State) :
    delivered n (s.line n) e s.options.trigger = none ↔ ¬ Delivers n e s := by
  unfold delivered captureOf Delivers
  cases lineClass n <;> cases e.active <;> simp

/-- The event of the START line is a START with the leading-edge tick of the edge (R13). -/
theorem delivered_start {n : Nat} {e : PendingEdge} {s : State} (hn : lineClass n = .start) (h : Delivers n e s) :
    delivered n (s.line n) e s.options.trigger = some (.start e.lead) := by
  unfold Delivers at h
  rw [hn] at h
  obtain ⟨unmasked, normal, ⟨active, rearm, trigger⟩ | ⟨active, rearm, trigger⟩⟩ := h <;>
    simp [delivered, captureOf, hn, unmasked, normal, active, rearm, trigger]

/-- An edge that is not delivered changes its line, and nothing else (R10, R16, R18). -/
theorem exec_edgeConfirmed_undelivered {n : Nat} {high : Bool} {e : PendingEdge} {s : State} (h : Confirms n high e s)
    (hd : ¬ Delivers n e s) : exec (.edgeConfirmed n high) s = .next (edgeConfirmedState n high e s) := by
  have undelivered : delivered n ((s.sampleLine n high).line n) e (s.sampleLine n high).options.trigger = none :=
    (delivered_eq_none_iff n e s).mpr hd
  rw [exec_edgeConfirmed h, confirmEdge, undelivered]
  rfl

/-- A delivered edge of the START line is taken as a START (R9, R13). -/
theorem exec_edgeConfirmed_start {n : Nat} {high : Bool} {e : PendingEdge} {s : State} (hn : lineClass n = .start)
    (h : Confirms n high e s) (hd : Delivers n e s) :
    exec (.edgeConfirmed n high) s = .next (takeCapture (.start e.lead) (edgeConfirmedState n high e s)) := by
  have deliveredStart : delivered n ((s.sampleLine n high).line n) e (s.sampleLine n high).options.trigger =
      some (.start e.lead) :=
    delivered_start hn hd
  rw [exec_edgeConfirmed h, confirmEdge, deliveredStart]
  rfl

/-! ## A START that is not accepted (R45) -/

/-- No lane of the field is SET where no lane record is. -/
theorem laneNumbers_any_set_eq_false {s : State} (hlen : s.lanes.length = 10) (h : ∀ l ∈ s.lanes, l.state ≠ .set) :
    laneNumbers.any (fun n => decide ((s.lane n).state = .set)) = false := by
  refine List.any_eq_false.mpr fun n hn => ?_
  have hn : n < s.lanes.length := by simpa [laneNumbers, Config.laneCount, hlen] using hn
  have mem : s.lane n ∈ s.lanes := by simp [State.lane, hn]
  simpa using h _ mem

/-- Out of ARMED, or with no SET lane, a START hands START_IGNORED and does nothing else (R45). -/
theorem takeStart_ignored {s : State} (hlen : s.lanes.length = 10)
    (h : s.race.state ≠ .armed ∨ ∀ l ∈ s.lanes, l.state ≠ .set) (e : Tick) :
    takeStart e s = handNotice 0x42 (tickBytes (some e) ++ [raceCode s.race.state]) s := by
  refine if_neg fun ⟨armed, set⟩ => ?_
  rcases h with unarmed | unset
  · exact unarmed armed
  · simp [laneNumbers_any_set_eq_false hlen unset] at set

/-- Taking such a START adds its notice to the link: with no state code changed, a current watch is not answered. -/
theorem takeCapture_start_ignored {s : State} (hlen : s.lanes.length = 10) (hwatch : WatchCurrent s)
    (h : s.race.state ≠ .armed ∨ ∀ l ∈ s.lanes, l.state ≠ .set) (e : Tick) :
    takeCapture (.start e) s
      = { s with link := s.link.withNotice 0x42 (tickBytes (some e) ++ [raceCode s.race.state]) } :=
  calc takeCapture (.start e) s
    _ = watchCheck (handNotice 0x42 (tickBytes (some e) ++ [raceCode s.race.state]) s) :=
        congrArg watchCheck (takeStart_ignored hlen h e)
    _ = handNotice 0x42 (tickBytes (some e) ++ [raceCode s.race.state]) s :=
        watchCheck_of_watchCurrent (watchCurrent_handNotice hwatch _ _)
    _ = _ := handNotice_eq _ _ _

/-- Settles O10, by whether the edge is delivered: a delivered START is not accepted and adds its notice to the link of the
state that the confirmation leaves, and an edge not delivered leaves that state as it is. -/
theorem startIsIgnoredOtherwise : Obligations.StartIsIgnoredOtherwise := by
  intro s high e h hlen hwatch
  have taken : EdgeTaken 60 high e [] s (edgeConfirmedState 60 high e s) := edgeTaken_edgeConfirmedState h
  refine ⟨fun hd hnot => ?_, fun hd => ⟨_, exec_edgeConfirmed_undelivered h hd, taken⟩⟩
  have ignored := takeCapture_start_ignored (s := edgeConfirmedState 60 high e s) hlen hwatch hnot e.lead
  exact ⟨_, (exec_edgeConfirmed_start rfl h hd).trans (congrArg _ ignored),
    taken.andThen (changesOnly_link _ _) (by simp) (by simp), rfl⟩

end Sys2Proof.Machine
end

section
/-!
The marking of one row in the dirty row queue (R133, R134), the text and the content of the footer row (R32, R124, R132), and
BOARD_TEXT, which stores the one and marks the other (R132).
-/
namespace Sys2Proof.Machine

/-! ## The dirty row queue (R133) -/

theorem prefix_joinQueue (r : Nat) (q : List Nat) : q <+: joinQueue r q := by
  unfold joinQueue
  split
  · exact List.prefix_rfl
  · exact List.prefix_append q [r]

@[simp] theorem mem_joinQueue {m r : Nat} {q : List Nat} : m ∈ joinQueue r q ↔ m ∈ q ∨ m = r := by
  unfold joinQueue
  split
  · next hr => exact ⟨.inl, (·.elim id (by rintro rfl; simpa using hr))⟩
  · simp

/-! ## Marking one row (R133, R134) -/

/-- A row in transmission after row `r` has been marked: its changed-while-sending flag is set if it is that row (R134). -/
def Sending.marked (r : Nat) (x : Sending) : Sending := if x.row = r then { x with changed := true } else x

/-- A marking changes the flag of a row in transmission only. -/
theorem Sending.marked_content (r : Nat) (x : Sending) :
    { x.marked r with changed := false } = { x with changed := false } := by
  unfold Sending.marked
  split <;> rfl

@[simp] theorem Sending.marked_row (r : Nat) (x : Sending) : (x.marked r).row = x.row := by
  unfold Sending.marked
  split <;> rfl

/-- The flag of a row in transmission is set once it has been set before or the row is the one marked. -/
theorem Sending.marked_changed (r : Nat) (x : Sending) : (x.marked r).changed = true ↔ x.changed = true ∨ x.row = r := by
  unfold Sending.marked
  split <;> simp_all

/-- The board after row `r` has been marked: unchanged where the row's mask is set (R133). -/
def Board.marked (r : Nat) (b : Board) : Board :=
  if b.mask.getD r false then b
  else { b with queue := joinQueue r b.queue, sending := b.sending.map (Sending.marked r) }

/-- Marking a row changes the board only, and by what stands on the board only (R133, R134). -/
theorem markRow_eq (r : Nat) (s : State) : markRow r s = { s with board := s.board.marked r } := by
  unfold markRow Board.marked State.rowMasked
  split <;> rfl

theorem Board.marked_of_masked {r : Nat} {s : State} (h : s.rowMasked r = true) : s.board.marked r = s.board := if_pos h

theorem Board.marked_of_unmasked {r : Nat} {s : State} (h : s.rowMasked r = false) :
    s.board.marked r
      = { s.board with queue := joinQueue r s.board.queue, sending := s.board.sending.map (Sending.marked r) } :=
  if_neg (ne_true_of_eq_false h)

@[simp] theorem Board.marked_holds (r : Nat) (b : Board) : (b.marked r).holds = b.holds := by
  unfold Board.marked
  split <;> rfl

@[simp] theorem Board.marked_footer (r : Nat) (b : Board) : (b.marked r).footer = b.footer := by
  unfold Board.marked
  split <;> rfl

/-- Where the row's mask is set, leaving the board as it is meets the marking: the marking is ignored (R133). -/
theorem rowsMarked_of_masked {r : Nat} {s t : State} (h : s.rowMasked r = true) (ht : t.board = s.board) :
    RowsMarked [r] [r] s t where
  tail := by rw [ht]
  joined := by simp [h]
  only m hm := .inl (ht ▸ hm)
  content := by rw [ht]
  flagged x _ hr hclear := by simp [List.mem_singleton.mp hr, h] at hclear
  flagKept x y hx hy := by
    obtain rfl : x = y := Option.some.inj (hx.symm.trans (ht ▸ hy))
    exact ⟨id, .inl⟩
  kept := by rw [ht]

/-- A row whose mask is clear joins the queue, and its changed-while-sending flag is set where it is in transmission. -/
theorem rowsMarked_of_unmasked {r : Nat} {s t : State} (h : s.rowMasked r = false)
    (ht : t.board = { s.board with
      queue := joinQueue r s.board.queue, sending := s.board.sending.map (Sending.marked r) }) :
    RowsMarked [r] [r] s t where
  tail := by simpa only [ht] using prefix_joinQueue r s.board.queue
  joined := by simp [ht]
  only m hm := by
    rw [ht, mem_joinQueue] at hm
    exact hm.imp_right (by rintro rfl; simp [h])
  content := by
    rw [ht, Option.map_map]
    exact congrArg (Option.map · _) (funext (Sending.marked_content r))
  flagged y hy hr _ := by
    obtain ⟨x, -, rfl⟩ := Option.map_eq_some_iff.mp (ht ▸ hy)
    exact (Sending.marked_changed r x).mpr (.inr (by simpa using hr))
  flagKept x y hx hy := by
    obtain rfl : x.marked r = y := by simpa [ht, hx] using hy
    rw [Sending.marked_changed]
    exact ⟨.inl, (·.imp_right (by rintro rfl; simp [h]))⟩
  kept := by rw [ht]

/-- The board that a marking of row `r` leaves has that row marked, unless its mask is set (R133, R134). -/
theorem rowsMarked_marked {r : Nat} {s t : State} (ht : t.board = s.board.marked r) : RowsMarked [r] [r] s t := by
  cases h : s.rowMasked r with
  | true => exact rowsMarked_of_masked h (ht.trans (Board.marked_of_masked h))
  | false => exact rowsMarked_of_unmasked h (ht.trans (Board.marked_of_unmasked h))

/-! ## The footer row (R32, R124, R132) -/

/-- R32 by the bytes it replaces rather than by those it keeps. -/
theorem textByte_eq (b : Byte) : textByte b = if b < 0x20 ∨ 0x7E < b then 0x20 else b := by
  have outside : (b < 0x20 ∨ 0x7E < b) ↔ ¬ (0x20 ≤ b.toNat ∧ b.toNat ≤ 0x7E) := by bv_omega
  simp only [textByte, outside, ite_not]

theorem storedText_eq (n : Nat) (p : List Byte) :
    storedText n p = (p.take n).map (fun b => if b < 0x20 ∨ 0x7E < b then 0x20 else b) :=
  congrArg (List.map · (p.take n)) (funext textByte_eq)

/-- The footer row shows spaces alone after an empty text, whatever its mask (R124, R132). -/
theorem composeRow_footer_nil {s : State} (h : s.board.footer = []) : composeRow s 11 = List.replicate 32 0x20 := by
  cases masked : s.rowMasked 11 with
  | true => simp [composeRow, masked, blankRow, spaces, space]
  | false => simp [composeRow, masked, h, filled, spaces, space]

/-! ## BOARD_TEXT (R132) -/

/-- The board once a BOARD_TEXT with the payload `p` has stored the footer text, before it marks row 11. -/
def Board.withText (p : List Byte) (b : Board) : Board := { b with footer := storedText 32 p }

/-- A BOARD_TEXT of any length stores its text, marks row 11 and is answered OK (R132). -/
theorem exec_boardText {f : Frame} {rest : List Frame} {s : State} (h : HeadRequest f rest s) (hk : f.kind = 0x22) :
    exec .boardText s
      = .next { s with
          board := (s.board.withText f.payload).marked 11
          link := s.link.answered f rest .ok [] } := by
  have taken : takePlain 0x22 (fun _ => true) actBoardText s = actBoardText f (popRequest s) := takePlain_head h hk rfl
  have reply := putReply_popRequest h (by simp [hk]) .ok []
  refine congrArg Host.Outcome.next (taken.trans ?_)
  rw [actBoardText, markRow_eq]
  exact congrArg (fun t : State => { t with board := (s.board.withText f.payload).marked 11 }) reply

theorem changesOnly_board_link (s : State) (b : Board) (k : Link) :
    ChangesOnly [.board, .link] s { s with board := b, link := k } := by
  intro c hc
  cases c <;> simp_all [Block.same]

/-- Settles O26, by the one state that BOARD_TEXT leaves: `u` is the state in which the text is stored and row 11 not yet
marked, and after an empty text its footer is empty. -/
theorem boardTextStoresTheFooter : Obligations.BoardTextStoresTheFooter := by
  intro s f rest h hk
  refine ⟨_, { s with board := s.board.withText f.payload }, exec_boardText h hk, rfl, ?_, rowsMarked_marked rfl,
    Board.marked_holds _ _, changesOnly_board_link _ _ _, fun empty => ?_⟩
  · rw [Board.withText, storedText_eq]
  · have footer : ((s.board.withText f.payload).marked 11).footer = [] := by simp [Board.withText, empty, storedText]
    exact ⟨footer, composeRow_footer_nil footer⟩

end Sys2Proof.Machine
end

section
/-!
What each command can change, said once: `touches` lists for every command the parts of the state that it may write, and
`exec_changesOnly` says that it writes no other. Invariants of one part then look only at the commands that touch it.
-/
namespace Sys2Proof.Machine

/-! ## Limited changes -/

theorem ChangesOnly.refl (parts : List Block) (s : State) : ChangesOnly parts s s := by
  intro b _
  cases b <;> simp [Block.same]

theorem ChangesOnly.trans {parts : List Block} {s t u : State} (h : ChangesOnly parts s t) (k : ChangesOnly parts t u) :
    ChangesOnly parts s u := fun b hb => Block.same_trans (h b hb) (k b hb)

theorem ChangesOnly.mono {parts more : List Block} {s t : State} (h : ChangesOnly parts s t) (hsub : parts ⊆ more) :
    ChangesOnly more s t := fun b hb => h b (fun hm => hb (hsub hm))

/-- The five parts that the Race Engine's operations reach. -/
abbrev racePartsOf : List Block := [.race, .lanes, .board, .lamps, .link]

/-- An operation with the outer part unchanged changes only what the Race Engine reaches. -/
theorem changesOnly_of_outer {s t : State} (h : t.outer = s.outer) : ChangesOnly racePartsOf s t := by
  obtain ⟨pending, pinFeed, due, shareDue, picks, tick, pins, flagBefore, options, tested, reloads, lines, share⟩ :=
    outer_fields h
  intro b hb
  cases b <;> simp_all [Block.same]

/-! ## Alarms and rows as changes of one part -/

/-- Handing an alarm writes the link, and nothing else (R176). -/
theorem handAlarm_eq (k : AlarmKind) (lane : Option Nat) (s : State) :
    handAlarm k lane s = { s with link := s.link.withAlarm k lane s.tick } := by
  have known : (s.link.alarms.any fun a => decide (a.kind = k ∧ a.lane = lane)) = true
      ↔ ∃ a ∈ s.link.alarms, a.kind = k ∧ a.lane = lane := by simp
  unfold handAlarm Link.withAlarm
  by_cases h : ∃ a ∈ s.link.alarms, a.kind = k ∧ a.lane = lane
  · rw [if_pos (known.mpr h), if_pos h]; rfl
  · rw [if_neg (fun hk => h (known.mp hk)), if_neg h]
    by_cases hl : s.link.alarms.length < 16
    · rw [if_pos (by exact hl), if_pos hl, handNotice_eq]
    · rw [if_neg (by exact hl), if_neg hl]

/-- Marking rows one after another. -/
def Board.markedAll (rs : List Nat) (b : Board) : Board := rs.foldl (fun c r => c.marked r) b

/-- Marking listed rows changes the board only. -/
theorem forEach_markRow_eq (rs : List Nat) (s : State) : forEach rs markRow s = { s with board := s.board.markedAll rs } := by
  induction rs generalizing s with
  | nil => rfl
  | cons r rs ih => exact (ih (markRow r s)).trans (by rw [markRow_eq]; rfl)

theorem markLaneRow_eq (n : Nat) (s : State) : markLaneRow n s = { s with board := s.board.marked (n + 1) } :=
  markRow_eq (n + 1) s

theorem markLaneRows_eq (n : Nat) (s : State) : markLaneRows n s = { s with board := s.board.markedAll [n + 1, n + 12] } :=
  forEach_markRow_eq [n + 1, n + 12] s

theorem markAllRows_eq (s : State) : markAllRows s = { s with board := s.board.markedAll (List.range 22) } :=
  forEach_markRow_eq _ s

theorem forEach_markLaneRow_eq (ns : List Nat) (s : State) :
    forEach ns markLaneRow s = { s with board := s.board.markedAll (ns.map (· + 1)) } := by
  rw [← forEach_markRow_eq]
  simp only [forEach, List.foldl_map]
  rfl

/-- Marking listed rows whatever their masks (R145). -/
theorem forEach_markAnyRow_eq (rs : List Nat) (s : State) :
    ∃ b, forEach rs markAnyRow s = { s with board := b } := by
  induction rs generalizing s with
  | nil => exact ⟨s.board, rfl⟩
  | cons r rs ih =>
    obtain ⟨b, hb⟩ := ih (markAnyRow r s)
    exact ⟨b, hb⟩

/-! ## The parts that each command may write -/

/-- The parts of the state that a command may write. -/
def touches : Instr → List Block
  | .powerOn _ | .resetTakesEffect =>
    [.queue, .timebase, .pins, .options, .capture, .race, .lanes, .board, .share, .lamps, .link]
  | .pendingEdge _ _ | .pendingEdgeDropped _ _ => [.capture, .pins]
  | .edgeConfirmed _ _ => [.capture, .pins, .race, .lanes, .board, .lamps, .link]
  | .padHoldExpiry _ => [.capture]
  | .lineStuck _ | .lineMask => [.capture, .link]
  | .clockLimit | .setRecord => [.race, .link]
  | .headerTenths | .runningSeconds | .splitHoldExpiry _ | .rowStart | .settleTimeExpiry | .strobeWidthExpiry => [.board]
  | .slotExpiry | .boardStall | .boardText | .rowMask => [.board, .link]
  | .rowComplete _ | .flagWaitMet _ => [.board, .pins]
  | .claimWindowEnd | .stopAfterRow | .boardRelease => [.share, .board, .link]
  | .claimWithdrawn _ | .partnerTook _ | .boardFree _ => [.share, .pins, .link]
  | .claimOnOwnInInactive _ => [.share, .pins]
  | .takeWaitExpiry | .boardTake => [.share, .link]
  | .reqInActive _ | .boardLost _ => [.share, .pins, .board, .link]
  | .pulseExpiry _ | .extendedExpiry _ | .offDelayExpiry _ => [.lamps]
  | .setOptions => [.options, .link]
  | .backupWindowExpiry _ | .loadEvent | .setLane | .clearRace | .arm | .recallRace | .stopRace | .adjustLengthPlusOne
  | .adjustLengthMinusOne | .adjudicate | .declareDns | .declareDnf | .declareDq | .declareReinstate | .close => racePartsOf
  | .reset | .frameComplete _ _ | .frameFailed _ _ | .frameTimeout | .unknownKind | .messageStart | .messageEnd | .status
  | .readOptions | .lineLevels | .readLane | .readSplits | .readRanking | .watch | .cancelWatch | .readAlarms
  | .clearAlarms | .byteReceived _ _ => [.link]

/-- The next state of a command, where it has one, differs in the listed parts only. -/
abbrev Touches (parts : List Block) (s : State) (o : Host.Outcome State Fault Refusal) : Prop :=
  NextMeets (ChangesOnly parts s) o

/-- A request that its block carries out within some parts, the link among them, changes only these. -/
theorem takeRequest_touches {parts : List Block} (hl : .link ∈ parts) {kind : Byte} {mine : List Byte → Bool}
    {lengthOk : Nat → Bool} {bad : State → List Byte} {act : Frame → State → State} {s : State}
    (hact : ∀ f t, ChangesOnly parts t (act f t)) :
    Touches parts s (.next (takeRequest kind mine lengthOk bad act s)) := by
  have link (t : State) (k : Link) : ChangesOnly parts t { t with link := k } :=
    (changesOnly_link t k).mono (by simpa using hl)
  refine (nextMeets_next _ _).mpr ?_
  exact takeRequest_closed (ChangesOnly parts s) kind mine lengthOk bad act s (.refl _ _)
    (fun t h => h.trans (link t _)) (fun f c x t h => h.trans (link t _)) (fun f t h => h.trans (hact f t))

/-- A request of the Race Engine changes only what the Race Engine reaches. -/
theorem raceRequest_touches {kind : Byte} {mine : List Byte → Bool} {lengthOk : Nat → Bool} {bad : State → List Byte}
    {act : Frame → State → State} {s : State}
    (hact : ∀ {Q : State → Prop}, RaceClosed Q → (∀ f c x t, Q t → Q (putReply f c x t)) → ∀ {t} f, Q t → Q (act f t)) :
    Touches racePartsOf s (.next (takeRequest kind mine lengthOk bad act s)) := by
  have closed (t : State) : RaceClosed (fun u => u.outer = t.outer) :=
    { race := fun _ _ h => h, lanes := fun _ _ h => h, lamps := fun _ _ _ _ _ h => h
      notice := fun _ _ _ h => (outer_handNotice ..).trans h, answer := fun _ _ _ _ h => h
      mark := fun _ _ _ h => h, hold := fun _ _ _ h => h, stops := fun _ h => h }
  exact takeRequest_touches (by simp) fun f t =>
    changesOnly_of_outer (hact (closed t) (fun _ _ _ _ h => h) f rfl)

/-! ## The operations of the Board Share Unit as changes of the share, the board and the link -/

/-- The BOARD notice (R156). -/
theorem handBoard_eq (old : Ownership) (r : BoardReason) (s : State) :
    handBoard old r s = { s with link := s.link.withBoard s.share.state old s.share.unitA r } := handNotice_eq _ _ _

theorem setOwnership_eq (o : Ownership) (r : BoardReason) (s : State) :
    setOwnership o r s
      = { s with
          share := { s.share with state := o }, shareDue := false
          link := s.link.withBoard o s.share.state s.share.unitA r } := handBoard_eq _ _ _

theorem leaveByYield_eq (s : State) :
    leaveByYield s
      = { s with
          share := { s.share with
            state := .partnerOwns, yieldPending := false, releasePending := false, reqRun := false, reqDue := false }
          shareDue := false, board := s.board.released
          link := s.link.withBoard .partnerOwns s.share.state s.share.unitA .yielded } := setOwnership_eq _ _ _

/-- A unit without a pending yield leaves by the level of OWN_IN (R155). -/
theorem leaveByRelease_eq {s : State} (h : s.share.yieldPending = false) :
    leaveByRelease s
      = { s with
          share := { s.share with
            state := if s.pins.share.own then .partnerOwns else .free, yieldPending := false, releasePending := false
            reqRun := false, reqDue := false }
          shareDue := false, board := s.board.released
          link := s.link.withBoard (if s.pins.share.own then .partnerOwns else .free) s.share.state s.share.unitA .released } := by
  unfold leaveByRelease
  cases s.pins.share.own <;> simp [h, setOwnership_eq, loseBoard, Board.released]

/-- The slot timer that gaining the board starts, if a row is unmasked (R135, R152). -/
theorem gainBoard_eq (s : State) :
    gainBoard s
      = { s with
          share := { s.share with state := .owning, claim := none, takeWait := none, reqRun := false, reqDue := false }
          shareDue := false
          board := Board.markedAll (List.range 22)
            { s.board with
              drive := some { data := 0, stb := false }, balance := 0
              slot := if 0 < unmaskedRows s.board.mask then some s.tick else none
              slotPeriod := if 0 < unmaskedRows s.board.mask then s.options.refresh / unmaskedRows s.board.mask
                else s.board.slotPeriod }
          link := s.link.withBoard .owning s.share.state s.share.unitA .taken } := by
  have running : unmaskedRows s.board.mask = 0 ∨ 0 < unmaskedRows s.board.mask := Nat.eq_zero_or_pos _
  simp only [gainBoard, markAllRows_eq, handBoard_eq, adjustSlot]
  rcases running with h | h
  · simp [h]
  · simp [h, Nat.ne_of_gt h, startSlot, State.period]

/-! ## The commands, one by one -/

section
variable (s : State)

theorem sampleLine_touches (n : Nat) (high : Bool) : ChangesOnly [.capture, .pins] s (s.sampleLine n high) := by
  intro b hb; cases b <;> simp_all [Block.same]

theorem updLine_touches (n : Nat) (f : Line → Line) : ChangesOnly [.capture] s (s.updLine n f) := by
  intro b hb; cases b <;> simp_all [Block.same]

theorem changesOnly_board (b : Board) : ChangesOnly [.board] s { s with board := b } := by
  intro c hc; cases c <;> simp_all [Block.same]

theorem changesOnly_lamps (x : Lamps) : ChangesOnly [.lamps] s { s with lamps := x } := by
  intro c hc; cases c <;> simp_all [Block.same]

theorem changesOnly_race_link (r : Race) (k : Link) : ChangesOnly [.race, .link] s { s with race := r, link := k } := by
  intro c hc; cases c <;> simp_all [Block.same]

theorem changesOnly_pins (p : Pins) : ChangesOnly [.pins] s { s with pins := p } := by
  intro c hc; cases c <;> simp_all [Block.same]

theorem changesOnly_share_link (x : Share) (d : Bool) (k : Link) :
    ChangesOnly [.share, .link] s { s with share := x, shareDue := d, link := k } := by
  intro c hc; cases c <;> simp_all [Block.same]

theorem changesOnly_share_board_link (x : Share) (d : Bool) (b : Board) (k : Link) :
    ChangesOnly [.share, .board, .link] s { s with share := x, shareDue := d, board := b, link := k } := by
  intro c hc; cases c <;> simp_all [Block.same]

theorem changesOnly_share (x : Share) (d : Bool) : ChangesOnly [.share] s { s with share := x, shareDue := d } := by
  intro c hc; cases c <;> simp_all [Block.same]

/-- A change of the board only, of a state that differs in some parts, the board among them. -/
theorem ChangesOnly.board {parts : List Block} {t : State} (h : ChangesOnly parts s t) (hp : .board ∈ parts) (b : Board) :
    ChangesOnly parts s { t with board := b } := h.trans ((changesOnly_board t b).mono (by simpa using hp))

theorem ChangesOnly.link {parts : List Block} {t : State} (h : ChangesOnly parts s t) (hp : .link ∈ parts) (k : Link) :
    ChangesOnly parts s { t with link := k } := h.trans ((changesOnly_link t k).mono (by simpa using hp))

theorem ChangesOnly.share {parts : List Block} {t : State} (h : ChangesOnly parts s t) (hp : .share ∈ parts) (x : Share)
    (d : Bool) : ChangesOnly parts s { t with share := x, shareDue := d } :=
  h.trans ((changesOnly_share t x d).mono (by simpa using hp))

theorem sampleShare_touches (v : ShareLevels) : ChangesOnly [.share, .pins] s (s.sampleShare v) := by
  intro c hc; cases c <;> simp_all [Block.same]

theorem sampleFlag_touches (high : Bool) : ChangesOnly [.pins] s (s.sampleFlag high) := changesOnly_pins s _

theorem execPowerOn_touches (p : Pins) : Touches (touches (.powerOn p)) s (execPowerOn p s) := by
  refine (nextMeets_next _ _).mpr fun b hb => ?_
  cases b <;> simp [touches] at hb

theorem execResetTakesEffect_touches : Touches (touches .resetTakesEffect) s (execResetTakesEffect s) := by
  unfold execResetTakesEffect
  split
  · exact execPowerOn_touches s s.pins
  · simpa using ChangesOnly.refl _ s

theorem execPendingEdge_touches (n : Nat) (high : Bool) : Touches [.capture, .pins] s (execPendingEdge n high s) := by
  have sampled := sampleLine_touches s n high
  unfold execPendingEdge
  dsimp only
  (repeat' split) <;> simp
  · exact sampled.trans ((updLine_touches _ n _).mono (by simp))
  · exact sampled

theorem execPendingEdgeDropped_touches (n : Nat) (high : Bool) :
    Touches [.capture, .pins] s (execPendingEdgeDropped n high s) := by
  have sampled := sampleLine_touches s n high
  unfold execPendingEdgeDropped
  dsimp only
  (repeat' split) <;> simp
  · exact sampled.trans ((updLine_touches _ n _).mono (by simp))
  · exact sampled

theorem confirmEdge_touches (n : Nat) (e : PendingEdge) : ChangesOnly (.capture :: racePartsOf) s (confirmEdge n e s) := by
  have line := (updLine_touches s n (Line.confirmed (lineClass n) e s.tick s.tested.padHold)).mono
    (more := .capture :: racePartsOf) (by simp)
  unfold confirmEdge
  dsimp only
  split
  · exact line.trans ((changesOnly_of_outer (outer_takeCapture _ _)).mono (by simp))
  · exact line

theorem execEdgeConfirmed_touches (n : Nat) (high : Bool) :
    Touches (touches (.edgeConfirmed n high)) s (execEdgeConfirmed n high s) := by
  have sampled := (sampleLine_touches s n high).mono (more := touches (.edgeConfirmed n high)) (by simp [touches])
  unfold execEdgeConfirmed
  dsimp only
  (repeat' split) <;> simp
  · exact sampled.trans ((confirmEdge_touches _ n _).mono (by simp [touches]))
  · exact sampled

theorem execPadHoldExpiry_touches (n : Nat) : Touches [.capture] s (execPadHoldExpiry n s) := by
  unfold execPadHoldExpiry
  (repeat' split) <;> simp
  · exact updLine_touches s n _
  · exact .refl _ s

theorem execLineStuck_touches (n : Nat) : Touches [.capture, .link] s (execLineStuck n s) := by
  unfold execLineStuck
  (repeat' split) <;> simp [handAlarm_eq]
  · exact ((updLine_touches s n _).mono (by simp)).link _ (by simp) _
  · exact .refl _ s
  · exact .refl _ s

theorem execBackupWindowExpiry_touches (n : Nat) : Touches racePartsOf s (execBackupWindowExpiry n s) := by
  unfold execBackupWindowExpiry
  (repeat' split)
  · simp
  · exact (nextMeets_next _ _).mpr (changesOnly_of_outer (by simp))
  · exact (nextMeets_next _ _).mpr (.refl _ s)

theorem execClockLimit_touches : Touches [.race, .link] s (execClockLimit s) := by
  unfold execClockLimit
  split <;> simp [handAlarm_eq]
  · exact changesOnly_race_link s _ _
  · exact .refl _ s

theorem execHeaderTenths_touches : Touches [.board] s (execHeaderTenths s) := by
  unfold execHeaderTenths
  split <;> simp [markRow_eq]
  · exact changesOnly_board s _
  · exact .refl _ s

theorem execRunningSeconds_touches : Touches [.board] s (execRunningSeconds s) := by
  unfold execRunningSeconds
  split <;> simp [forEach_markLaneRow_eq]
  · exact changesOnly_board s _
  · exact .refl _ s

theorem execSplitHoldExpiry_touches (n : Nat) : Touches [.board] s (execSplitHoldExpiry n s) := by
  unfold execSplitHoldExpiry endHold
  (repeat' split) <;> simp [markLaneRow_eq]
  · exact changesOnly_board s _
  · exact .refl _ s
  · exact .refl _ s

theorem execSlotExpiry_touches : Touches [.board, .link] s (execSlotExpiry s) := by
  unfold execSlotExpiry
  dsimp only
  (repeat' split) <;> simp [handAlarm_eq]
  · exact (changesOnly_board s _).mono (by simp)
  · exact changesOnly_board_link s _ _
  · exact .refl _ s

theorem beginByte_touches (x : Sending) : ChangesOnly [.board] s (beginByte x s) := by
  unfold beginByte
  split <;> exact changesOnly_board s _

theorem nextByte_touches (x : Sending) : ChangesOnly [.board] s (nextByte x s) :=
  (changesOnly_board s _).trans (beginByte_touches _ _)

theorem execRowStart_touches : Touches [.board] s (execRowStart s) := by
  unfold execRowStart
  split <;> simp
  · exact beginByte_touches s _
  · exact .refl _ s

theorem execRowComplete_touches (flag : Bool) : Touches [.board, .pins] s (execRowComplete flag s) := by
  have sampled := (sampleFlag_touches s flag).mono (more := [.board, .pins]) (by simp)
  unfold execRowComplete
  dsimp only
  (repeat' split) <;> simp
  · exact sampled
  · exact sampled.board _ (by simp) _
  · exact sampled

theorem flagStep_touches (high : Bool) : ChangesOnly [.board] s (flagStep high s) := by
  unfold flagStep
  (repeat' split)
  · exact .refl _ s
  · exact changesOnly_board s _
  · exact .refl _ s
  · exact nextByte_touches s _
  · exact .refl _ s

theorem execFlagWaitMet_touches (flag : Bool) : Touches [.board, .pins] s (execFlagWaitMet flag s) :=
  (nextMeets_next _ _).mpr
    (((sampleFlag_touches s flag).mono (by simp)).trans ((flagStep_touches _ flag).mono (by simp)))

theorem execBoardStall_touches : Touches [.board, .link] s (execBoardStall s) := by
  unfold execBoardStall
  (repeat' split) <;> simp [handAlarm_eq]
  · exact .refl _ s
  · exact changesOnly_board_link s _ _
  · exact .refl _ s

theorem execSettleTimeExpiry_touches : Touches [.board] s (execSettleTimeExpiry s) := by
  unfold execSettleTimeExpiry
  (repeat' split) <;> simp
  · exact .refl _ s
  · exact changesOnly_board s _
  · exact changesOnly_board s _
  · exact nextByte_touches s _
  · exact .refl _ s

theorem execStrobeWidthExpiry_touches : Touches [.board] s (execStrobeWidthExpiry s) := by
  unfold execStrobeWidthExpiry
  (repeat' split) <;> simp
  · exact .refl _ s
  · exact changesOnly_board s _
  · exact .refl _ s

theorem setOwnership_touches (o : Ownership) (r : BoardReason) : ChangesOnly [.share, .link] s (setOwnership o r s) := by
  rw [setOwnership_eq]
  exact changesOnly_share_link s _ _ _

theorem enterFree_touches (r : BoardReason) : ChangesOnly [.share, .link] s (enterFree r s) := by
  unfold enterFree
  dsimp only
  split
  · exact (setOwnership_touches s _ _).share _ (by simp) _ _
  · exact setOwnership_touches s _ _

theorem leaveByYield_touches : ChangesOnly [.share, .board, .link] s (leaveByYield s) := by
  rw [leaveByYield_eq]
  exact changesOnly_share_board_link s _ _ _ _

theorem leaveByRelease_touches : ChangesOnly [.share, .board, .link] s (leaveByRelease s) := by
  cases h : s.share.yieldPending with
  | true =>
    rw [leaveByRelease, if_pos h]
    exact leaveByYield_touches s
  | false =>
    rw [leaveByRelease_eq h]
    exact changesOnly_share_board_link s _ _ _ _

theorem execClaimWindowEnd_touches : Touches [.share, .board, .link] s (execClaimWindowEnd s) := by
  unfold execClaimWindowEnd
  split <;> simp [gainBoard_eq]
  · exact changesOnly_share_board_link s _ _ _ _
  · exact .refl _ s

/-- A sample of the ownership inputs, and what follows of it in some parts. -/
theorem sampleShare_then {parts : List Block} {v : ShareLevels} {t : State} (hs : .share ∈ parts) (hp : .pins ∈ parts)
    (h : ChangesOnly parts (s.sampleShare v) t) : ChangesOnly parts s t :=
  ((sampleShare_touches s v).mono (by simp [hs, hp])).trans h

theorem execClaimWithdrawn_touches (v : ShareLevels) : Touches [.share, .pins, .link] s (execClaimWithdrawn v s) := by
  unfold execClaimWithdrawn
  dsimp only
  split <;> simp
  · exact sampleShare_then s (v := v) (by simp) (by simp)
      (((ChangesOnly.refl _ _).share _ (by simp) _ _).trans ((setOwnership_touches _ _ _).mono (by simp)))
  · exact sampleShare_then s (v := v) (by simp) (by simp) (.refl _ _)

theorem execPartnerTook_touches (v : ShareLevels) : Touches [.share, .pins, .link] s (execPartnerTook v s) := by
  unfold execPartnerTook
  dsimp only
  split <;> simp
  · exact sampleShare_then s (v := v) (by simp) (by simp) ((setOwnership_touches _ _ _).mono (by simp))
  · exact sampleShare_then s (v := v) (by simp) (by simp) (.refl _ _)

theorem execBoardFree_touches (v : ShareLevels) : Touches [.share, .pins, .link] s (execBoardFree v s) := by
  unfold execBoardFree
  dsimp only
  split <;> simp
  · exact sampleShare_then s (v := v) (by simp) (by simp) ((enterFree_touches _ _).mono (by simp))
  · exact sampleShare_then s (v := v) (by simp) (by simp) (.refl _ _)

theorem execClaimOnOwnInInactive_touches (v : ShareLevels) :
    Touches [.share, .pins] s (execClaimOnOwnInInactive v s) := by
  unfold execClaimOnOwnInInactive
  dsimp only
  split <;> simp
  · exact sampleShare_then s (v := v) (by simp) (by simp) ((ChangesOnly.refl _ _).share _ (by simp) _ _)
  · exact sampleShare_then s (v := v) (by simp) (by simp) (.refl _ _)

theorem failOrForce_touches : ChangesOnly [.share, .link] s (failOrForce s) := by
  unfold failOrForce
  dsimp only
  split
  · exact ((((ChangesOnly.refl _ s).share _ (by simp) _ _).trans (setOwnership_touches _ _ _))).share _ (by simp) _ _
  · exact ((((ChangesOnly.refl _ s).share _ (by simp) _ _).trans (setOwnership_touches _ _ _))).share _ (by simp) _ _

theorem execTakeWaitExpiry_touches : Touches [.share, .link] s (execTakeWaitExpiry s) := by
  unfold execTakeWaitExpiry
  split <;> simp
  · exact failOrForce_touches s
  · exact .refl _ s

theorem onRequest_touches : ChangesOnly [.share, .board, .link] s (onRequest s) := by
  have read := (ChangesOnly.refl [.share, .board, .link] s).share s (by simp) { s.share with reqRun := true, reqDue := false }
    s.shareDue
  obtain ⟨-, -, -, h⟩ | ⟨-, -, -, h⟩ | ⟨-, -, h⟩ | ⟨-, h⟩ := onRequest_cases s <;> rw [h]
  · exact read.trans (leaveByYield_touches _)
  · exact read.share _ (by simp) _ _
  · rw [handBoard_eq]; exact read.link _ (by simp) _
  · exact read

theorem execReqInActive_touches (v : ShareLevels) : Touches [.share, .pins, .board, .link] s (execReqInActive v s) := by
  unfold execReqInActive
  dsimp only
  split <;> simp
  · exact sampleShare_then s (v := v) (by simp) (by simp) ((onRequest_touches _).mono (by simp))
  · exact sampleShare_then s (v := v) (by simp) (by simp) (.refl _ _)

theorem execStopAfterRow_touches : Touches [.share, .board, .link] s (execStopAfterRow s) := by
  unfold execStopAfterRow
  split <;> simp
  · exact leaveByRelease_touches s
  · exact .refl _ s

theorem execBoardLost_touches (v : ShareLevels) : Touches [.share, .pins, .board, .link] s (execBoardLost v s) := by
  unfold execBoardLost
  dsimp only
  split <;> simp
  · refine sampleShare_then s (v := v) (by simp) (by simp) ?_
    refine ChangesOnly.trans ?_ ((setOwnership_touches _ _ _).mono (by simp))
    rw [handAlarm_eq]
    exact (((ChangesOnly.refl _ _).share _ (by simp) _ _).board _ (by simp) _).link _ (by simp) _
  · exact sampleShare_then s (v := v) (by simp) (by simp) (.refl _ _)

theorem execPulseExpiry_touches (f : PulseId) : Touches [.lamps] s (execPulseExpiry f s) := by
  unfold execPulseExpiry
  (repeat' split) <;> simp <;> exact changesOnly_lamps s _

theorem execExtendedExpiry_touches (f : ExtendedId) : Touches [.lamps] s (execExtendedExpiry f s) := by
  unfold execExtendedExpiry
  (repeat' split) <;> simp <;> exact changesOnly_lamps s _

theorem execOffDelayExpiry_touches (n : Nat) : Touches [.lamps] s (execOffDelayExpiry n s) := by
  unfold execOffDelayExpiry
  split <;> simp
  exact changesOnly_lamps s _

theorem rxEffect_touches (o : RxOutcome) : ChangesOnly [.link] s (rxEffect o s) := by
  unfold rxEffect joinBuffer handLinkError
  (repeat' split) <;> (try rw [handNotice_eq]) <;> exact changesOnly_link s _

theorem examine_touches (k : Nat) (bs : List Byte) : ChangesOnly [.link] s (examine k bs s) := by
  induction k generalizing bs s with
  | zero => exact .refl _ s
  | succ k ih =>
    cases bs with
    | nil => exact .refl _ s
    | cons b bs => exact (rxEffect_touches s _).trans (ih _ _)

theorem receiveByte_touches (b : Byte) : ChangesOnly [.link] s (receiveByte b s) :=
  ((changesOnly_link s _).trans (rxEffect_touches _ _)).trans (examine_touches _ _ _)

theorem execByteReceived_touches (b : Byte) (stop : Bool) : Touches [.link] s (execByteReceived b stop s) := by
  unfold execByteReceived
  split <;> simp
  · exact receiveByte_touches s b
  · exact .refl _ s

theorem execFrameComplete_touches (b : Byte) (stop : Bool) : Touches [.link] s (execFrameComplete b stop s) := by
  unfold execFrameComplete
  split <;> simp
  · exact receiveByte_touches s b
  · exact .refl _ s

theorem execFrameFailed_touches (b : Byte) (stop : Bool) : Touches [.link] s (execFrameFailed b stop s) := by
  unfold execFrameFailed
  split <;> simp
  · exact receiveByte_touches s b
  · exact .refl _ s

theorem execFrameTimeout_touches : Touches [.link] s (execFrameTimeout s) := by
  unfold execFrameTimeout
  split <;> simp
  · rw [handLinkError, handNotice_eq]; exact changesOnly_link s _
  · exact .refl _ s

theorem execUnknownKind_touches : Touches [.link] s (execUnknownKind s) := by
  unfold execUnknownKind
  (repeat' split) <;> simp
  · exact .refl _ s
  · exact .refl _ s
  · exact changesOnly_link s _

theorem execMessageStart_touches : Touches [.link] s (execMessageStart s) := by
  unfold execMessageStart
  split <;> simp
  · exact changesOnly_link s _
  · exact .refl _ s

theorem execMessageEnd_touches : Touches [.link] s (execMessageEnd s) := by
  unfold execMessageEnd
  split <;> simp
  · exact changesOnly_link s _
  · exact .refl _ s

/-! ### Requests of the other blocks -/

theorem actSetRecord_touches (f : Frame) : ChangesOnly [.race, .link] s (actSetRecord f s) := by
  unfold actSetRecord
  dsimp only
  (repeat' split) <;> exact changesOnly_race_link s _ _

theorem actLineMask_touches (f : Frame) : ChangesOnly [.capture, .link] s (actLineMask f s) :=
  changesOnly_capture_link s _ _

theorem actSetOptions_touches (f : Frame) : ChangesOnly [.options, .link] s (actSetOptions f s) := by
  unfold actSetOptions
  (repeat' split) <;> (intro b hb; cases b <;> simp_all [Block.same, storeOptions])

theorem actBoardText_touches (f : Frame) : ChangesOnly [.board, .link] s (actBoardText f s) := by
  rw [actBoardText, markRow_eq]
  exact changesOnly_board_link s _ _

theorem adjustSlot_touches (n : Nat) : ChangesOnly [.board] s (adjustSlot n s) := by
  unfold adjustSlot
  dsimp only
  (repeat' split)
  · exact .refl _ s
  · exact changesOnly_board s _
  · exact changesOnly_board s _
  · exact .refl _ s

theorem actRowMask_touches (f : Frame) : ChangesOnly [.board, .link] s (actRowMask f s) := by
  rw [actRowMask]
  dsimp only
  obtain ⟨b, hb⟩ := forEach_markAnyRow_eq
    ((List.range Config.rowCount).filter fun r => decide (s.rowMasked r ≠ (rowMaskOf f.payload).getD r false))
    { s with board := { s.board with mask := rowMaskOf f.payload } }
  rw [hb]
  exact (((changesOnly_board s b).trans (adjustSlot_touches _ _)).mono (by simp)).link _ (by simp) _

theorem actBoardTake_touches (f : Frame) : ChangesOnly [.share, .link] s (actBoardTake f s) := by
  have self := ChangesOnly.refl [.share, .link] s
  unfold actBoardTake
  dsimp only
  (repeat' split)
  · exact self.link _ (by simp) _
  · exact self.link _ (by simp) _
  · exact (self.share _ (by simp) _ _).link _ (by simp) _
  · exact self.link _ (by simp) _
  · exact ((self.share _ (by simp) _ _).trans (setOwnership_touches _ _ _)).link _ (by simp) _
  · exact self.link _ (by simp) _
  · exact self.link _ (by simp) _

theorem releaseBoard_touches : ChangesOnly [.share, .board, .link] s (releaseBoard s) := by
  have self := ChangesOnly.refl [.share, .board, .link] s
  unfold releaseBoard
  (repeat' split)
  · exact self
  · exact leaveByRelease_touches s
  · exact self.share _ (by simp) _ _
  · exact self.share _ (by simp) _ _
  · exact self
  all_goals exact (self.share _ (by simp) _ _).trans ((setOwnership_touches _ _ _).mono (by simp))

theorem actBoardRelease_touches (f : Frame) : ChangesOnly [.share, .board, .link] s (actBoardRelease f s) :=
  (releaseBoard_touches s).link _ (by simp) _

theorem actReadLane_touches (f : Frame) : ChangesOnly [.link] s (actReadLane f s) := by
  unfold actReadLane
  dsimp only
  split <;> exact changesOnly_link s _

theorem actReadSplits_touches (f : Frame) : ChangesOnly [.link] s (actReadSplits f s) := by
  unfold actReadSplits
  dsimp only
  (repeat' split) <;> exact changesOnly_link s _

theorem actWatch_touches (f : Frame) : ChangesOnly [.link] s (actWatch f s) := by
  unfold actWatch
  (repeat' split) <;> exact changesOnly_link s _

theorem actCancelWatch_touches (f : Frame) : ChangesOnly [.link] s (actCancelWatch f s) := by
  unfold actCancelWatch
  split <;> exact changesOnly_link s _

end

/-- A command changes no other part than those it touches. -/
theorem exec_touches (c : Instr) (s : State) : Touches (touches c) s (exec c s) := by
  cases c with
  | powerOn p => exact execPowerOn_touches s p
  | resetTakesEffect => exact execResetTakesEffect_touches s
  | pendingEdge n high => exact execPendingEdge_touches s n high
  | pendingEdgeDropped n high => exact execPendingEdgeDropped_touches s n high
  | edgeConfirmed n high => exact execEdgeConfirmed_touches s n high
  | padHoldExpiry n => exact execPadHoldExpiry_touches s n
  | lineStuck n => exact execLineStuck_touches s n
  | backupWindowExpiry n => exact execBackupWindowExpiry_touches s n
  | clockLimit => exact execClockLimit_touches s
  | headerTenths => exact execHeaderTenths_touches s
  | runningSeconds => exact execRunningSeconds_touches s
  | splitHoldExpiry n => exact execSplitHoldExpiry_touches s n
  | slotExpiry => exact execSlotExpiry_touches s
  | rowStart => exact execRowStart_touches s
  | rowComplete flag => exact execRowComplete_touches s flag
  | boardStall => exact execBoardStall_touches s
  | flagWaitMet flag => exact execFlagWaitMet_touches s flag
  | settleTimeExpiry => exact execSettleTimeExpiry_touches s
  | strobeWidthExpiry => exact execStrobeWidthExpiry_touches s
  | claimWindowEnd => exact execClaimWindowEnd_touches s
  | claimWithdrawn v => exact execClaimWithdrawn_touches s v
  | partnerTook v => exact execPartnerTook_touches s v
  | boardFree v => exact execBoardFree_touches s v
  | claimOnOwnInInactive v => exact execClaimOnOwnInInactive_touches s v
  | takeWaitExpiry => exact execTakeWaitExpiry_touches s
  | reqInActive v => exact execReqInActive_touches s v
  | stopAfterRow => exact execStopAfterRow_touches s
  | boardLost v => exact execBoardLost_touches s v
  | pulseExpiry f => exact execPulseExpiry_touches s f
  | extendedExpiry f => exact execExtendedExpiry_touches s f
  | offDelayExpiry n => exact execOffDelayExpiry_touches s n
  | byteReceived b stop => exact execByteReceived_touches s b stop
  | frameComplete b stop => exact execFrameComplete_touches s b stop
  | frameFailed b stop => exact execFrameFailed_touches s b stop
  | frameTimeout => exact execFrameTimeout_touches s
  | unknownKind => exact execUnknownKind_touches s
  | messageStart => exact execMessageStart_touches s
  | messageEnd => exact execMessageEnd_touches s
  | loadEvent => exact raceRequest_touches RaceClosed.actLoadEvent
  | setLane => exact raceRequest_touches RaceClosed.actSetLane
  | clearRace => exact raceRequest_touches RaceClosed.actClearRace
  | arm => exact raceRequest_touches RaceClosed.actArm
  | recallRace => exact raceRequest_touches RaceClosed.actRecall
  | stopRace => exact raceRequest_touches RaceClosed.actStop
  | close => exact raceRequest_touches RaceClosed.actClose
  | adjustLengthPlusOne => exact raceRequest_touches RaceClosed.actAdjustPlus
  | adjustLengthMinusOne => exact raceRequest_touches RaceClosed.actAdjustMinus
  | adjudicate => exact raceRequest_touches RaceClosed.actAdjudicate
  | declareDns =>
    exact raceRequest_touches fun h hput _ f => h.actDeclare hput _ _ _ f fun n hn _ => h.declareDnsLane n hn
  | declareDnf =>
    exact raceRequest_touches fun h hput _ f => h.actDeclare hput _ _ _ f fun n hn _ => h.declareDnfLane n hn
  | declareDq =>
    exact raceRequest_touches fun h hput _ f => h.actDeclare hput _ _ _ f fun n hn _ => h.declareDqLane n hn
  | declareReinstate =>
    exact raceRequest_touches fun h hput _ f => h.actDeclare hput _ _ _ f fun n hn _ => h.declareReinstateLane n hn
  | setRecord => exact takeRequest_touches (by simp [touches]) fun f t => actSetRecord_touches t f
  | lineMask => exact takeRequest_touches (by simp [touches]) fun f t => actLineMask_touches t f
  | setOptions => exact takeRequest_touches (by simp [touches]) fun f t => actSetOptions_touches t f
  | boardText => exact takeRequest_touches (by simp [touches]) fun f t => actBoardText_touches t f
  | rowMask => exact takeRequest_touches (by simp [touches]) fun f t => actRowMask_touches t f
  | boardTake => exact takeRequest_touches (by simp [touches]) fun f t => actBoardTake_touches t f
  | boardRelease => exact takeRequest_touches (by simp [touches]) fun f t => actBoardRelease_touches t f
  | readLane => exact takeRequest_touches (by simp [touches]) fun f t => actReadLane_touches t f
  | readSplits => exact takeRequest_touches (by simp [touches]) fun f t => actReadSplits_touches t f
  | watch => exact takeRequest_touches (by simp [touches]) fun f t => actWatch_touches t f
  | cancelWatch => exact takeRequest_touches (by simp [touches]) fun f t => actCancelWatch_touches t f
  | status | readOptions | lineLevels | readRanking | readAlarms | clearAlarms | reset =>
    exact takeRequest_touches (by simp [touches]) fun f t => changesOnly_link t _

end Sys2Proof.Machine
end

section
/-!
The invariant of the Board Link Controller (R133, R135, R136, R148, R152): the dirty row queue without repetitions, the balance
in its bounds, and a silent board while the unit does not own it; kept by every step.
-/
namespace Sys2Proof.Machine

/-! ## What a step is made of -/

/-- A property that every command and the passing of a tick keep, and that does not look at what waits outside the part or is
noted as due, is kept by every step. -/
theorem step_keeps {P : State → Prop} (queue : ∀ s p d k, P s → P { s with pending := p, due := d, picks := k })
    (command : ∀ c s, P s → NextMeets P (exec c s)) (tick : ∀ s, P s → P (advanceTick s)) {s t : State} (hs : P s)
    (h : step s = .next t) : P t := by
  unfold step at h
  split at h
  · next c rest _ => exact command c _ (queue s rest s.due s.picks hs) t h
  · split at h
    · next c _ => exact command c _ (queue s s.pending _ _ hs) t h
    · cases h
      exact tick s hs

/-- A property of parts that a command does not touch is kept by it. -/
theorem nextMeets_of_touches {P : State → Prop} {c : Instr} {s : State}
    (h : ∀ t, ChangesOnly (touches c) s t → P t) : NextMeets P (exec c s) :=
  fun t ht => h t (exec_touches c s t ht)

/-! ## The board's invariant and the marking of rows -/

/-- The invariant looks at the board and at the share only. -/
theorem BoardInv.of_same {s t : State} (h : BoardInv s) (hb : t.board = s.board) (hs : t.share = s.share) : BoardInv t := by
  obtain ⟨once, rows, sendRow, pointer, low, high, silent, noStop, claim⟩ := h
  constructor <;> simpa [hb, hs]

theorem joinQueue_nodup {r : Nat} {q : List Nat} (h : q.Nodup) : (joinQueue r q).Nodup := by
  unfold joinQueue
  split
  · exact h
  · next hr => exact h.append (List.nodup_singleton r) (by simpa using hr)

theorem joinQueue_lt {r : Nat} {q : List Nat} (h : ∀ m ∈ q, m < 22) (hr : r < 22) : ∀ m ∈ joinQueue r q, m < 22 := by
  intro m hm
  obtain hm | rfl := mem_joinQueue.mp hm
  · exact h m hm
  · exact hr

/-- Whatever the Race Engine does to the board keeps the invariant. -/
theorem raceClosed_boardInv : RaceClosed BoardInv where
  race s r h := h.of_same rfl rfl
  lanes s ls h := h.of_same rfl rfl
  lamps s x _ _ _ h := h.of_same rfl rfl
  notice k p s h := by rw [handNotice_eq]; exact h.of_same rfl rfl
  answer w c x s h := h.of_same rfl rfl
  hold n x s h := ⟨h.once, h.rows, h.sendRow, h.pointer, h.low, h.high, h.silent, h.noStop, h.claim⟩
  stops s h := ⟨h.once, h.rows, h.sendRow, h.pointer, h.low, h.high, h.silent, h.noStop, h.claim⟩
  mark r s hr h :=
    { once := joinQueue_nodup h.once
      rows := joinQueue_lt h.rows hr
      sendRow := fun x hx => by
        obtain ⟨y, hy, rfl⟩ := Option.map_eq_some_iff.mp hx
        have := h.sendRow y hy
        split <;> exact this
      pointer := h.pointer, low := h.low, high := h.high
      silent := fun ho => by
        obtain ⟨balance, slot, sending, drive⟩ := h.silent ho
        exact ⟨balance, slot, by simp [markAnyRow, sending], drive⟩
      noStop := h.noStop, claim := h.claim }

/-- An invariant of the other blocks that a notice and a reply keep is kept by a request of the Race Engine. -/
theorem raceRequest_keeps {Q : State → Prop} (hQ : RaceClosed Q) (hpop : ∀ s, Q s → Q (popRequest s))
    (hput : ∀ f c x s, Q s → Q (putReply f c x s)) {kind : Byte} {mine : List Byte → Bool} {lengthOk : Nat → Bool}
    {bad : State → List Byte} {act : Frame → State → State} {s : State} (hs : Q s)
    (hact : ∀ {Q : State → Prop}, RaceClosed Q → (∀ f c x t, Q t → Q (putReply f c x t)) → ∀ {t} f, Q t → Q (act f t)) :
    NextMeets Q (.next (takeRequest kind mine lengthOk bad act s)) :=
  (nextMeets_next _ _).mpr
    (takeRequest_closed Q kind mine lengthOk bad act s hs hpop hput fun f _ ht => hact hQ hput f ht)

/-- The commands of the Race Engine that reach the board. -/
def movesRace : Instr → Bool
  | .edgeConfirmed _ _ | .backupWindowExpiry _ | .loadEvent | .setLane | .setRecord | .clearRace | .arm | .recallRace
  | .stopRace | .adjustLengthPlusOne | .adjustLengthMinusOne | .adjudicate | .declareDns | .declareDnf | .declareDq
  | .declareReinstate | .close => true
  | _ => false

theorem lineLane_lt {n : Nat} (hn : n < 60) : lineLane n < 10 := by
  unfold lineLane
  omega

/-- The capture event of a line of the part names a lane of the part. -/
theorem captureOf_lane {n : Nat} (hn : n < 61) {l : Line} {e : PendingEdge} {g : TriggerEdge} {c : CaptureEvent}
    (h : delivered n l e g = some c) : ∀ m, c.laneNumber = some m → m < 10 := by
  have port : lineClass n ≠ .start → lineLane n < 10 := by
    intro hc
    refine lineLane_lt (lt_of_le_of_ne (by omega) fun h60 => hc ?_)
    simp [lineClass, h60]
  unfold delivered at h
  split at h
  · cases h
  · unfold captureOf at h
    (repeat' split at h) <;> cases h <;> simp_all [CaptureEvent.laneNumber]

/-- What the Race Engine does at a confirmed edge keeps a property of the other blocks that the sample and the line keep. -/
theorem RaceClosed.execEdgeConfirmed {Q : State → Prop} (hQ : RaceClosed Q)
    (hsample : ∀ s n high, Q s → Q (s.sampleLine n high)) (hline : ∀ s n f, Q s → Q (s.updLine n f)) (n : Nat) (high : Bool)
    {s : State} (hs : Q s) : NextMeets Q (execEdgeConfirmed n high s) := by
  unfold Machine.execEdgeConfirmed
  split
  · simp
  next hn =>
    have hn : n < 61 := by simpa [Config.lineCount] using hn
    dsimp only
    split
    · refine (nextMeets_next _ _).mpr ?_
      unfold confirmEdge
      dsimp only
      split
      · next hd => exact hQ.takeCapture _ (captureOf_lane hn hd) (hline _ _ _ (hsample _ _ _ hs))
      · exact hline _ _ _ (hsample _ _ _ hs)
    · exact (nextMeets_next _ _).mpr (hsample _ _ _ hs)

theorem RaceClosed.execBackupWindowExpiry {Q : State → Prop} (hQ : RaceClosed Q) (n : Nat) {s : State} (hs : Q s) :
    NextMeets Q (execBackupWindowExpiry n s) := by
  unfold Machine.execBackupWindowExpiry
  split
  · simp
  next hn =>
    have hn : n < 10 := by simpa [Config.laneCount] using hn
    split
    · exact (nextMeets_next _ _).mpr (hQ.watchCheck (hQ.endOfRaceCheck (hQ.resolveLane n hn hs)))
    · exact (nextMeets_next _ _).mpr hs

/-- A property of the other blocks that the sampling and the updating of a line, the taking of a frame and the placing of a reply
keep is kept by every command of the Race Engine. -/
theorem RaceClosed.exec {Q : State → Prop} (hQ : RaceClosed Q) (hsample : ∀ s n high, Q s → Q (s.sampleLine n high))
    (hline : ∀ s n f, Q s → Q (s.updLine n f)) (hpop : ∀ s, Q s → Q (popRequest s))
    (hput : ∀ f c x s, Q s → Q (putReply f c x s)) {c : Instr} (hc : movesRace c = true) {s : State} (hs : Q s) :
    NextMeets Q (exec c s) := by
  cases c with
  | edgeConfirmed n high => exact hQ.execEdgeConfirmed hsample hline n high hs
  | backupWindowExpiry n => exact hQ.execBackupWindowExpiry n hs
  | loadEvent => exact raceRequest_keeps hQ hpop hput hs RaceClosed.actLoadEvent
  | setLane => exact raceRequest_keeps hQ hpop hput hs RaceClosed.actSetLane
  | setRecord => exact raceRequest_keeps hQ hpop hput hs RaceClosed.actSetRecord
  | clearRace => exact raceRequest_keeps hQ hpop hput hs RaceClosed.actClearRace
  | arm => exact raceRequest_keeps hQ hpop hput hs RaceClosed.actArm
  | recallRace => exact raceRequest_keeps hQ hpop hput hs RaceClosed.actRecall
  | stopRace => exact raceRequest_keeps hQ hpop hput hs RaceClosed.actStop
  | close => exact raceRequest_keeps hQ hpop hput hs RaceClosed.actClose
  | adjustLengthPlusOne => exact raceRequest_keeps hQ hpop hput hs RaceClosed.actAdjustPlus
  | adjustLengthMinusOne => exact raceRequest_keeps hQ hpop hput hs RaceClosed.actAdjustMinus
  | adjudicate => exact raceRequest_keeps hQ hpop hput hs RaceClosed.actAdjudicate
  | declareDns =>
    exact raceRequest_keeps hQ hpop hput hs fun h hp _ f => h.actDeclare hp _ _ _ f fun n hn _ => h.declareDnsLane n hn
  | declareDnf =>
    exact raceRequest_keeps hQ hpop hput hs fun h hp _ f => h.actDeclare hp _ _ _ f fun n hn _ => h.declareDnfLane n hn
  | declareDq =>
    exact raceRequest_keeps hQ hpop hput hs fun h hp _ f => h.actDeclare hp _ _ _ f fun n hn _ => h.declareDqLane n hn
  | declareReinstate =>
    exact raceRequest_keeps hQ hpop hput hs fun h hp _ f => h.actDeclare hp _ _ _ f fun n hn _ => h.declareReinstateLane n hn
  | _ => cases hc

/-! ## Rows and bytes -/

/-- The board's invariant for a unit that owns the board: bounds only. -/
theorem BoardInv.of_owning {t : State} (ho : t.share.state = .owning) (once : t.board.queue.Nodup)
    (rows : ∀ r ∈ t.board.queue, r < 22) (sendRow : ∀ x, t.board.sending = some x → x.row < 22) (pointer : t.board.pointer < 22)
    (low : -8 ≤ t.board.balance) (high : t.board.balance ≤ 8) (claim : t.share.claim = none) : BoardInv t :=
  ⟨once, rows, sendRow, pointer, low, high, fun h => absurd ho h, fun h => absurd ho h, fun _ => claim⟩

/-- A row in transmission, a running slot or a driven line: the unit owns the board. -/
theorem BoardInv.owning_of_sending {s : State} (h : BoardInv s) {x : Sending} (hx : s.board.sending = some x) :
    s.share.state = .owning := by
  by_contra ho
  obtain ⟨-, -, sending, -⟩ := h.silent ho
  simp [hx] at sending

theorem BoardInv.owning_of_slot {s : State} (h : BoardInv s) {st : Tick} (hx : s.board.slot = some st) :
    s.share.state = .owning := by
  by_contra ho
  obtain ⟨-, slot, -, -⟩ := h.silent ho
  simp [hx] at slot

/-- While the unit owns the board, what is sent and driven may change, if a row is sent. -/
theorem BoardInv.sends {s t : State} (h : BoardInv s) (ho : s.share.state = .owning) (hs : t.share = s.share)
    (hb : { t.board with sending := s.board.sending, drive := s.board.drive } = s.board)
    (hrow : ∀ x, t.board.sending = some x → x.row < 22) : BoardInv t := by
  have queue : t.board.queue = s.board.queue := by rw [← hb]
  have pointer : t.board.pointer = s.board.pointer := by rw [← hb]
  have balance : t.board.balance = s.board.balance := by rw [← hb]
  exact .of_owning (hs ▸ ho) (queue ▸ h.once) (queue ▸ h.rows) hrow (pointer ▸ h.pointer) (balance ▸ h.low) (balance ▸ h.high)
    (hs ▸ h.claim ho)

theorem BoardInv.beginByte {s : State} (h : BoardInv s) (ho : s.share.state = .owning) {x : Sending} (hx : x.row < 22) :
    BoardInv (beginByte x s) := by
  unfold Machine.beginByte
  split <;> exact h.sends ho rfl rfl (by rintro y ⟨⟩; exact hx)

theorem BoardInv.nextByte {s : State} (h : BoardInv s) {x : Sending} (hx : s.board.sending = some x) :
    BoardInv (nextByte x s) :=
  have ho := h.owning_of_sending hx
  have released : BoardInv (driveStb false s) := h.sends ho rfl rfl fun y hy => h.sendRow y hy
  released.beginByte ho (h.sendRow x hx)

theorem BoardInv.enterPhase {s : State} (h : BoardInv s) {x : Sending} (hx : s.board.sending = some x) (p : BytePhase)
    {t : State} (hs : t.share = s.share)
    (hb : { t.board with sending := s.board.sending, drive := s.board.drive } = s.board) : BoardInv (enterPhase p x t) :=
  h.sends (h.owning_of_sending hx) hs hb (by rintro y ⟨⟩; exact h.sendRow x hx)

theorem roundRobinRow_lt {s : State} {r : Nat} (h : roundRobinRow s = some r) : r < 22 := by
  have hm := List.mem_of_find?_eq_some h
  simp only [List.mem_map, Config.rowCount] at hm
  obtain ⟨i, -, rfl⟩ := hm
  exact Nat.mod_lt _ (by decide)

theorem BoardInv.rowToStart_lt {s : State} (h : BoardInv s) {r : Nat} {rr : Bool} (hr : rowToStart s = some (r, rr)) :
    r < 22 ∧ s.share.state = .owning := by
  unfold rowToStart at hr
  split at hr
  · next hf =>
    refine ⟨?_, by simp [linkFree] at hf; exact hf.1.1.1⟩
    unfold rowChoice at hr
    (repeat' split at hr)
    · obtain ⟨q, hq, he⟩ := Option.map_eq_some_iff.mp hr
      cases he
      exact roundRobinRow_lt hq
    · next q qs hq => cases hr; exact h.rows _ (by simp [hq])
    · obtain ⟨q, hq, he⟩ := Option.map_eq_some_iff.mp hr
      cases he
      exact roundRobinRow_lt hq
    · cases hr
  · cases hr

theorem execRowStart_boardInv {s : State} (h : BoardInv s) : NextMeets BoardInv (execRowStart s) := by
  unfold execRowStart
  split
  · next r rr hr =>
    obtain ⟨hlt, ho⟩ := h.rowToStart_lt hr
    exact (nextMeets_next _ _).mpr (h.beginByte ho hlt)
  · exact (nextMeets_next _ _).mpr h

theorem flagStep_boardInv (high : Bool) {s : State} (h : BoardInv s) : BoardInv (flagStep high s) := by
  unfold flagStep
  (repeat' split)
  · exact h
  · next hx _ _ _ => exact h.enterPhase hx _ rfl rfl
  · exact h
  · next hx _ _ _ _ => exact h.nextByte hx
  · exact h

theorem execSettleTimeExpiry_boardInv {s : State} (h : BoardInv s) : NextMeets BoardInv (execSettleTimeExpiry s) := by
  unfold execSettleTimeExpiry
  (repeat' split) <;> simp
  · exact h
  · next hx _ _ _ _ _ => exact h.enterPhase hx _ rfl rfl
  · next hx _ _ _ _ _ => exact h.enterPhase hx _ rfl rfl
  · next hx _ _ _ _ _ => exact h.nextByte hx
  · exact h

theorem execStrobeWidthExpiry_boardInv {s : State} (h : BoardInv s) : NextMeets BoardInv (execStrobeWidthExpiry s) := by
  unfold execStrobeWidthExpiry
  (repeat' split) <;> simp
  · exact h
  · next hx _ => exact h.enterPhase hx _ rfl rfl
  · exact h

/-- A complete send leaves the board in bounds (R138). -/
theorem completeBoard_boardInv {s : State} (h : BoardInv s) {x : Sending} (hx : s.board.sending = some x) :
    BoardInv { s with board := completeBoard x s.board } := by
  have hrow := h.sendRow x hx
  have erased : ∀ r ∈ s.board.queue.erase x.row, r < 22 := fun r hr => h.rows r (List.mem_of_mem_erase hr)
  have low := h.low
  have high := h.high
  refine .of_owning (h.owning_of_sending hx) ?_ ?_ (by simp [completeBoard]) ?_ ?_ ?_ (h.claim (h.owning_of_sending hx)) <;>
    dsimp only [completeBoard, Config.rowCount, Config.balanceBound]
  · split
    · exact joinQueue_nodup (h.once.erase _)
    · exact h.once.erase _
  · split
    · exact joinQueue_lt erased hrow
    · exact erased
  · split
    · exact Nat.mod_lt _ (by decide)
    · exact h.pointer
  · split <;> omega
  · split <;> omega

theorem BoardInv.driveStb {s : State} (h : BoardInv s) (level : Bool) : BoardInv (driveStb level s) where
  once := h.once
  rows := h.rows
  sendRow := h.sendRow
  pointer := h.pointer
  low := h.low
  high := h.high
  silent ho := by
    obtain ⟨balance, slot, sending, drive⟩ := h.silent ho
    exact ⟨balance, slot, sending, by simp [Machine.driveStb, drive]⟩
  noStop := h.noStop
  claim := h.claim

theorem execRowComplete_boardInv (flag : Bool) {s : State} (h : BoardInv s) : NextMeets BoardInv (execRowComplete flag s) := by
  have sampled : BoardInv (s.sampleFlag flag) := h.of_same rfl rfl
  unfold execRowComplete
  dsimp only
  (repeat' split) <;> simp
  · exact sampled
  · next hx _ => exact (completeBoard_boardInv sampled hx).driveStb false
  · exact sampled

theorem abandonRow_boardInv {s : State} (h : BoardInv s) : BoardInv (abandonRow s) :=
  BoardInv.driveStb (s := { s with board := { s.board with sending := none } })
    { once := h.once, rows := h.rows, sendRow := by simp, pointer := h.pointer, low := h.low, high := h.high
      silent := fun ho => by
        obtain ⟨balance, slot, -, drive⟩ := h.silent ho
        exact ⟨balance, slot, rfl, drive⟩
      noStop := h.noStop, claim := h.claim } false

theorem handAlarm_boardInv {s : State} (h : BoardInv s) (k : AlarmKind) (lane : Option Nat) : BoardInv (handAlarm k lane s) := by
  rw [handAlarm_eq]
  exact h.of_same rfl rfl

theorem execBoardStall_boardInv {s : State} (h : BoardInv s) : NextMeets BoardInv (execBoardStall s) := by
  unfold execBoardStall
  (repeat' split) <;> simp
  · exact h
  · exact handAlarm_boardInv (abandonRow_boardInv h) _ _
  · exact h

theorem execSlotExpiry_boardInv {s : State} (h : BoardInv s) : NextMeets BoardInv (execSlotExpiry s) := by
  unfold execSlotExpiry
  split
  next he =>
    have ho : s.share.state = .owning := by
      unfold slotExpired at he
      split at he
      · next hst => exact h.owning_of_slot hst
      · cases he
    have low := h.low
    have high := h.high
    dsimp only [Config.balanceBound]
    by_cases hb : -8 < s.board.balance
    all_goals simp only [hb, if_true, if_false, nextMeets_next]
    · exact .of_owning ho h.once h.rows h.sendRow h.pointer (by dsimp only; omega) (by dsimp only; omega) (h.claim ho)
    · refine handAlarm_boardInv ?_ _ _
      exact .of_owning ho h.once h.rows h.sendRow h.pointer h.low h.high (h.claim ho)
  · exact (nextMeets_next _ _).mpr h

/-! ## ROW_MASK -/

theorem adjustSlot_boardInv (n : Nat) {s : State} (h : BoardInv s) : BoardInv (adjustSlot n s) := by
  unfold adjustSlot
  dsimp only
  split
  · exact h
  next ho =>
    have ho : s.share.state = .owning := by simpa using ho
    (repeat' split)
    · exact .of_owning ho h.once h.rows h.sendRow h.pointer h.low h.high (h.claim ho)
    · exact .of_owning ho h.once h.rows h.sendRow h.pointer h.low h.high (h.claim ho)
    · exact h

theorem actRowMask_boardInv (f : Frame) {s : State} (h : BoardInv s) : BoardInv (actRowMask f s) := by
  unfold actRowMask
  dsimp only
  refine BoardInv.of_same (adjustSlot_boardInv _ (forEach_closed BoardInv markAnyRow _ _ (fun r hr t ht => ?_) ?_)) rfl rfl
  · exact raceClosed_boardInv.mark r t (by simpa [Config.rowCount] using (List.mem_filter.mp hr).1) ht
  · exact ⟨h.once, h.rows, h.sendRow, h.pointer, h.low, h.high, h.silent, h.noStop, h.claim⟩

/-! ## The ownership of the board -/

/-- A unit that does not own the board stays silent, with no stop pending, while its ownership state, its claim and its take wait
change, as long as it does not enter OWNING. -/
theorem BoardInv.stays_out {s t : State} (h : BoardInv s) (ho : s.share.state ≠ .owning) (ht : t.share.state ≠ .owning)
    (hb : t.board = s.board) (hy : t.share.yieldPending = s.share.yieldPending)
    (hr : t.share.releasePending = s.share.releasePending) : BoardInv t := by
  obtain ⟨once, rows, sendRow, pointer, low, high, silent, noStop, -⟩ := h
  rw [← hb] at once rows sendRow pointer low high silent
  exact ⟨once, rows, sendRow, pointer, low, high, fun _ => silent ho, fun _ => by rw [hy, hr]; exact noStop ho,
    fun h => absurd h ht⟩

/-- A unit that leaves OWNING releases the board and has no stop pending (R152). -/
theorem BoardInv.leaves {s t : State} (h : BoardInv s) (ht : t.share.state ≠ .owning) (hb : t.board = s.board.released)
    (hy : t.share.yieldPending = false) (hr : t.share.releasePending = false) : BoardInv t where
  once := by rw [hb]; exact h.once
  rows := by rw [hb]; exact h.rows
  sendRow := by rw [hb]; simp [Board.released]
  pointer := by rw [hb]; exact h.pointer
  low := by rw [hb]; simp [Board.released]
  high := by rw [hb]; simp [Board.released]
  silent _ := by rw [hb]; exact ⟨rfl, rfl, rfl, rfl⟩
  noStop _ := ⟨hy, hr⟩
  claim ho := absurd ho ht

theorem setOwnership_stays_out {s : State} (h : BoardInv s) (ho : s.share.state ≠ .owning) {o : Ownership}
    (hn : o ≠ .owning) (r : BoardReason) : BoardInv (setOwnership o r s) := by
  rw [setOwnership_eq]
  exact h.stays_out ho hn rfl rfl rfl

theorem leaveByYield_boardInv {s : State} (h : BoardInv s) : BoardInv (leaveByYield s) := by
  rw [leaveByYield_eq]
  exact h.leaves (by simp) rfl rfl rfl

theorem leaveByRelease_boardInv {s : State} (h : BoardInv s) : BoardInv (leaveByRelease s) := by
  cases hy : s.share.yieldPending with
  | true => rw [leaveByRelease, if_pos hy]; exact leaveByYield_boardInv h
  | false =>
    rw [leaveByRelease_eq hy]
    refine h.leaves ?_ rfl rfl rfl
    cases s.pins.share.own <;> simp

theorem sampleShare_boardInv {s : State} (h : BoardInv s) (v : ShareLevels) : BoardInv (s.sampleShare v) :=
  ⟨h.once, h.rows, h.sendRow, h.pointer, h.low, h.high, h.silent, h.noStop, h.claim⟩

theorem execClaimWindowEnd_boardInv {s : State} (h : BoardInv s) : NextMeets BoardInv (execClaimWindowEnd s) := by
  unfold execClaimWindowEnd
  split <;> simp
  · unfold gainBoard handBoard
    refine raceClosed_boardInv.notice _ _ _ (raceClosed_boardInv.markAllRows (adjustSlot_boardInv 0 ?_))
    exact .of_owning rfl h.once h.rows h.sendRow h.pointer (by simp) (by simp) rfl
  · exact h

theorem execClaimWithdrawn_boardInv (v : ShareLevels) {s : State} (h : BoardInv s) :
    NextMeets BoardInv (execClaimWithdrawn v s) := by
  have sampled := sampleShare_boardInv h v
  unfold execClaimWithdrawn
  dsimp only
  split <;> simp
  · next hw =>
    have claims : (s.sampleShare v).share.claim ≠ none := by
      unfold withdraws at hw
      split at hw <;> simp_all
    have ho : (s.sampleShare v).share.state ≠ .owning := fun ho => claims (sampled.claim ho)
    exact setOwnership_stays_out (s := dropAsk (s.sampleShare v)) (sampled.stays_out ho ho rfl rfl rfl) ho (by simp) _
  · exact sampled

theorem execPartnerTook_boardInv (v : ShareLevels) {s : State} (h : BoardInv s) : NextMeets BoardInv (execPartnerTook v s) := by
  have sampled := sampleShare_boardInv h v
  unfold execPartnerTook
  dsimp only
  split <;> simp
  · next hp =>
    have ho : (s.sampleShare v).share.state ≠ .owning := by
      simp [partnerTakes] at hp
      simp [hp]
    exact setOwnership_stays_out sampled ho (by simp) _
  · exact sampled

theorem execBoardFree_boardInv (v : ShareLevels) {s : State} (h : BoardInv s) : NextMeets BoardInv (execBoardFree v s) := by
  have sampled := sampleShare_boardInv h v
  unfold execBoardFree
  dsimp only
  split <;> simp
  · next hp =>
    have ho : (s.sampleShare v).share.state ≠ .owning := by
      simp [boardIsFree] at hp
      simp [hp]
    unfold enterFree
    rw [setOwnership_eq]
    dsimp only
    split
    · exact sampled.stays_out ho (by simp [beginClaim]) rfl rfl rfl
    · exact sampled.stays_out ho (by simp) rfl rfl rfl
  · exact sampled

theorem not_owning_of_askingOrForcing {s : State} (h : askingOrForcing s = true) : s.share.state ≠ .owning := by
  simp [askingOrForcing] at h
  rcases h with h | h <;> simp [h]

theorem execClaimOnOwnInInactive_boardInv (v : ShareLevels) {s : State} (h : BoardInv s) :
    NextMeets BoardInv (execClaimOnOwnInInactive v s) := by
  have sampled := sampleShare_boardInv h v
  unfold execClaimOnOwnInInactive
  dsimp only
  split <;> simp
  · next hc =>
    have ho := not_owning_of_askingOrForcing (by simp [claimOpens] at hc; exact hc.1.1)
    exact sampled.stays_out ho ho rfl rfl rfl
  · exact sampled

theorem execTakeWaitExpiry_boardInv {s : State} (h : BoardInv s) : NextMeets BoardInv (execTakeWaitExpiry s) := by
  unfold execTakeWaitExpiry
  split <;> simp
  · next hw =>
    have ho : s.share.state ≠ .owning := by
      unfold takeWaitExpired at hw
      split at hw
      · exact not_owning_of_askingOrForcing (by simp at hw; exact hw.1.1)
      · cases hw
    unfold failOrForce
    simp only [setOwnership_eq]
    split
    · exact h.stays_out ho (by simp) rfl rfl rfl
    · exact h.stays_out ho (by simp) rfl rfl rfl
  · exact h

theorem onRequest_boardInv {s : State} (h : BoardInv s) (ho : s.share.state = .owning) : BoardInv (onRequest s) := by
  have read : BoardInv { s with share := { s.share with reqRun := true, reqDue := false } } :=
    ⟨h.once, h.rows, h.sendRow, h.pointer, h.low, h.high, h.silent, h.noStop, h.claim⟩
  obtain ⟨-, -, -, he⟩ | ⟨-, -, -, he⟩ | ⟨-, -, he⟩ | ⟨-, he⟩ := onRequest_cases s <;> rw [he]
  · exact leaveByYield_boardInv read
  · exact .of_owning ho h.once h.rows h.sendRow h.pointer h.low h.high (h.claim ho)
  · exact raceClosed_boardInv.notice _ _ _ read
  · exact read

theorem execReqInActive_boardInv (v : ShareLevels) {s : State} (h : BoardInv s) :
    NextMeets BoardInv (execReqInActive v s) := by
  have sampled := sampleShare_boardInv h v
  unfold execReqInActive
  dsimp only
  split <;> simp
  · next hr => exact onRequest_boardInv sampled (by simp [readsRequest] at hr; exact hr.1.1)
  · exact sampled

theorem execStopAfterRow_boardInv {s : State} (h : BoardInv s) : NextMeets BoardInv (execStopAfterRow s) := by
  unfold execStopAfterRow
  split <;> simp
  · exact leaveByRelease_boardInv h
  · exact h

theorem execBoardLost_boardInv (v : ShareLevels) {s : State} (h : BoardInv s) : NextMeets BoardInv (execBoardLost v s) := by
  have sampled := sampleShare_boardInv h v
  unfold execBoardLost
  dsimp only
  split <;> simp
  · rw [setOwnership_eq, handAlarm_eq]
    exact sampled.leaves (by simp) rfl rfl rfl
  · exact sampled

theorem actBoardTake_boardInv (f : Frame) {s : State} (h : BoardInv s) : BoardInv (actBoardTake f s) := by
  unfold actBoardTake
  dsimp only
  (repeat' split)
  · exact h.of_same rfl rfl
  · exact h.of_same rfl rfl
  · next ho _ => exact h.stays_out (by simp [ho]) (by simp [putReply, beginClaim, ho]) rfl rfl rfl
  · exact h.of_same rfl rfl
  · next ho =>
    rw [beginAsk, setOwnership_eq]
    exact h.stays_out (by simp [ho]) (by simp [putReply]) rfl rfl rfl
  · exact h.of_same rfl rfl
  · exact h.of_same rfl rfl

theorem releaseBoard_boardInv {s : State} (h : BoardInv s) : BoardInv (releaseBoard s) := by
  have leaves (o : Ownership) (ho : s.share.state = o) (hn : o ≠ .owning) (t : Ownership) (ht : t ≠ .owning) :
      BoardInv (setOwnership t .released (dropAsk s)) := by
    have hne : s.share.state ≠ .owning := ho ▸ hn
    exact setOwnership_stays_out (h.stays_out (t := dropAsk s) hne hne rfl rfl rfl) hne ht _
  unfold releaseBoard
  (repeat' split)
  · exact h
  · exact leaveByRelease_boardInv h
  · next ho _ _ => exact .of_owning ho h.once h.rows h.sendRow h.pointer h.low h.high (h.claim ho)
  · next ho => exact h.stays_out (by simp [ho]) (by simp [ho]) rfl rfl rfl
  · exact h
  · next ho _ => exact leaves _ ho (by simp) _ (by simp)
  · next ho _ => exact leaves _ ho (by simp) _ (by simp)
  · next ho _ => exact leaves _ ho (by simp) _ (by simp)
  · next ho _ => exact leaves _ ho (by simp) _ (by simp)

/-! ## Every command, every step -/

/-- The power-on board is empty, in balance and silent (R147, R157). -/
theorem powerOn_boardInv (p : Pins) (s : State) : BoardInv (powerOn p s) where
  once := List.nodup_nil
  rows := by simp [powerOn, Board.powerOn]
  sendRow := by simp [powerOn, Board.powerOn]
  pointer := by simp [powerOn, Board.powerOn]
  low := by simp [powerOn, Board.powerOn]
  high := by simp [powerOn, Board.powerOn]
  silent _ := ⟨rfl, rfl, rfl, rfl⟩
  noStop _ := ⟨rfl, rfl⟩
  claim _ := rfl

theorem exec_boardInv (c : Instr) {s : State} (h : BoardInv s) : NextMeets BoardInv (exec c s) := by
  have request {kind : Byte} {mine : List Byte → Bool} {ok : Nat → Bool} {bad : State → List Byte}
      {act : Frame → State → State} (hact : ∀ f t, BoardInv t → BoardInv (act f t)) :
      NextMeets BoardInv (.next (takeRequest kind mine ok bad act s)) :=
    (nextMeets_next _ _).mpr (takeRequest_closed BoardInv kind mine ok bad act s h (fun t ht => ht.of_same rfl rfl)
      (fun _ _ _ t ht => ht.of_same rfl rfl) hact)
  have untouched (hb : .board ∉ touches c) (hs : .share ∉ touches c) : NextMeets BoardInv (exec c s) :=
    nextMeets_of_touches fun t ht => h.of_same (ht .board hb) (ht .share hs).1
  by_cases hrace : movesRace c = true
  · exact raceClosed_boardInv.exec (fun _ _ _ h => h.of_same rfl rfl) (fun _ _ _ h => h.of_same rfl rfl)
      (fun _ h => h.of_same rfl rfl) (fun _ _ _ _ h => h.of_same rfl rfl) hrace h
  cases c with
  | powerOn p =>
    exact (nextMeets_next _ _).mpr (powerOn_boardInv p s)
  | resetTakesEffect =>
    change NextMeets BoardInv (execResetTakesEffect s)
    unfold execResetTakesEffect
    split
    · exact (nextMeets_next _ _).mpr (powerOn_boardInv s.pins s)
    · exact (nextMeets_next _ _).mpr h
  | headerTenths =>
    change NextMeets BoardInv (execHeaderTenths s)
    unfold execHeaderTenths
    split
    · exact (nextMeets_next _ _).mpr (raceClosed_boardInv.markRow 0 (by decide) h)
    · exact (nextMeets_next _ _).mpr h
  | runningSeconds =>
    change NextMeets BoardInv (execRunningSeconds s)
    unfold execRunningSeconds
    split
    · refine (nextMeets_next _ _).mpr (forEach_closed BoardInv _ _ _ (fun n hn t ht => ?_) h)
      exact raceClosed_boardInv.markLaneRow n (lt_of_mem_laneNumbers (List.mem_filter.mp hn).1) ht
    · exact (nextMeets_next _ _).mpr h
  | splitHoldExpiry n =>
    change NextMeets BoardInv (execSplitHoldExpiry n s)
    unfold execSplitHoldExpiry
    (repeat' split)
    · simp
    · next hn _ => exact (nextMeets_next _ _).mpr (raceClosed_boardInv.endHold n (by simpa [Config.laneCount] using hn) h)
    · exact (nextMeets_next _ _).mpr h
  | slotExpiry => exact execSlotExpiry_boardInv h
  | rowStart => exact execRowStart_boardInv h
  | rowComplete flag => exact execRowComplete_boardInv flag h
  | boardStall => exact execBoardStall_boardInv h
  | flagWaitMet flag => exact (nextMeets_next _ _).mpr (flagStep_boardInv flag (h.of_same rfl rfl))
  | settleTimeExpiry => exact execSettleTimeExpiry_boardInv h
  | strobeWidthExpiry => exact execStrobeWidthExpiry_boardInv h
  | claimWindowEnd => exact execClaimWindowEnd_boardInv h
  | claimWithdrawn v => exact execClaimWithdrawn_boardInv v h
  | partnerTook v => exact execPartnerTook_boardInv v h
  | boardFree v => exact execBoardFree_boardInv v h
  | claimOnOwnInInactive v => exact execClaimOnOwnInInactive_boardInv v h
  | takeWaitExpiry => exact execTakeWaitExpiry_boardInv h
  | reqInActive v => exact execReqInActive_boardInv v h
  | stopAfterRow => exact execStopAfterRow_boardInv h
  | boardLost v => exact execBoardLost_boardInv v h
  | boardTake => exact request fun f t ht => actBoardTake_boardInv f ht
  | boardRelease => exact request fun f t ht => (releaseBoard_boardInv ht).of_same rfl rfl
  | boardText =>
    refine request fun f t ht => (raceClosed_boardInv.markRow 11 (by decide) ?_).of_same rfl rfl
    exact ⟨ht.once, ht.rows, ht.sendRow, ht.pointer, ht.low, ht.high, ht.silent, ht.noStop, ht.claim⟩
  | rowMask => exact request fun f t ht => actRowMask_boardInv f ht
  | edgeConfirmed | backupWindowExpiry | loadEvent | setLane | setRecord | clearRace | arm | recallRace | stopRace
  | adjustLengthPlusOne | adjustLengthMinusOne | adjudicate | declareDns | declareDnf | declareDq | declareReinstate
  | close => exact absurd rfl hrace
  | _ => exact untouched (by simp [touches]) (by simp [touches])

/-- Settles O58: the board's invariant looks at the board and the share only, and every command and every tick keep it. -/
theorem boardStaysInBounds : Obligations.BoardStaysInBounds := fun _ _ hs h =>
  step_keeps (P := BoardInv) (fun _ _ _ _ h => h.of_same rfl rfl) (fun c _ h => exec_boardInv c h)
    (fun _ h => ⟨h.once, h.rows, h.sendRow, h.pointer, h.low, h.high, h.silent, h.noStop, h.claim⟩) hs h

end Sys2Proof.Machine
end

section
/-!
What the commands do to the link, said once. A property of the link is `LinkClosed` if it survives a notice, an alarm, the taking
of a frame, a reply and whatever the receiver and the transmitter do. Every command keeps such a property, but for those that
write the watch or clear the alarm list, and power-on.
-/
namespace Sys2Proof.Machine

/-- A property of the link that the elementary changes of the link keep. -/
structure LinkClosed (L : Link → Prop) : Prop where
  notice : ∀ k kind p, L k → L (k.withNotice kind p)
  alarm : ∀ k a lane now, L k → L (k.withAlarm a lane now)
  pop : ∀ k, L k → L { k with buffer := k.buffer.tail }
  taken : ∀ k b, L k → L { k with requestTaken := b }
  slots : ∀ k m w r d, L k → L { k with sent := m, watchAnswer := w, reply := r, resetDue := d }
  dequeue : ∀ k, L k → L { k with notices := k.notices.tail }
  receiver : ∀ k r, L k → L { k with receiver := r }
  join : ∀ k f, k.buffer.length < 4 → L k → L { k with buffer := k.buffer ++ [f] }
  flags : ∀ k a b c, L k → L { k with noticesLost := a, alarmFull := b, resetPending := c }

/-- The commands that write the link in another way: the watch, the clearing of the alarm list, and power-on. -/
def writesWatch : Instr → Bool
  | .watch | .cancelWatch | .clearAlarms | .powerOn _ | .resetTakesEffect => true
  | _ => false

namespace LinkClosed
variable {L : Link → Prop} (h : LinkClosed L)
include h

theorem popRequest {s : State} (hs : L s.link) : L (popRequest s).link := h.taken _ _ (h.pop _ hs)

theorem putReply {s : State} (f : Frame) (c : ReplyCode) (x : List Byte) (hs : L s.link) : L (putReply f c x s).link :=
  h.slots s.link s.link.sent s.link.watchAnswer _ s.link.resetDue hs

theorem handNotice {s : State} (k : Byte) (p : List Byte) (hs : L s.link) : L (handNotice k p s).link := by
  rw [handNotice_eq]
  exact h.notice _ _ _ hs

theorem handAlarm {s : State} (k : AlarmKind) (lane : Option Nat) (hs : L s.link) : L (handAlarm k lane s).link := by
  rw [handAlarm_eq]
  exact h.alarm _ _ _ _ hs

/-- A request whose block keeps the property keeps it. -/
theorem request {kind : Byte} {mine : List Byte → Bool} {lengthOk : Nat → Bool} {bad : State → List Byte}
    {act : Frame → State → State} {s : State} (hs : L s.link) (hact : ∀ f t, L t.link → L (act f t).link) :
    NextMeets (fun t => L t.link) (.next (takeRequest kind mine lengthOk bad act s)) :=
  (nextMeets_next _ _).mpr (takeRequest_closed (fun t => L t.link) kind mine lengthOk bad act s hs
    (fun _ ht => h.popRequest ht) (fun f c x _ ht => h.putReply f c x ht) hact)

/-- The answering of the watch being the exception, the Race Engine too changes the link by notices only. -/
theorem raceClosed (answer : ∀ k w c x, L k →
      L { k with watch := none, watchAnswer := some { kind := 0x98, tag := (w : Watch).tag, payload := replyCodeByte c :: x } }) :
    RaceClosed (fun s => L s.link) where
  race _ _ hs := hs
  lanes _ _ hs := hs
  lamps _ _ _ _ _ hs := hs
  notice k p _ hs := h.handNotice k p hs
  answer w c x s hs := answer s.link w c x hs
  mark _ _ _ hs := hs
  hold _ _ _ hs := hs
  stops _ hs := hs

/-! ### The Board Share Unit -/

theorem setOwnership {s : State} (o : Ownership) (r : BoardReason) (hs : L s.link) : L (setOwnership o r s).link :=
  h.handNotice _ _ hs

theorem enterFree {s : State} (r : BoardReason) (hs : L s.link) : L (enterFree r s).link := by
  unfold Machine.enterFree
  dsimp only
  split <;> exact h.setOwnership _ _ hs

theorem leaveByYield {s : State} (hs : L s.link) : L (leaveByYield s).link := h.setOwnership _ _ hs

theorem leaveByRelease {s : State} (hs : L s.link) : L (leaveByRelease s).link := by
  unfold Machine.leaveByRelease
  (repeat' split) <;> exact h.setOwnership _ _ hs

theorem onRequest {s : State} (hs : L s.link) : L (onRequest s).link := by
  obtain ⟨-, -, -, he⟩ | ⟨-, -, -, he⟩ | ⟨-, -, he⟩ | ⟨-, he⟩ := onRequest_cases s <;> rw [he]
  · exact h.leaveByYield hs
  · exact hs
  · exact h.handNotice _ _ hs
  · exact hs

theorem actBoardTake {s : State} (f : Frame) (hs : L s.link) : L (actBoardTake f s).link := by
  unfold Machine.actBoardTake
  dsimp only
  (repeat' split)
  case h_3 => exact h.putReply _ _ _ (h.setOwnership _ _ hs)
  all_goals exact h.putReply _ _ _ hs

theorem releaseBoard {s : State} (hs : L s.link) : L (releaseBoard s).link := by
  unfold Machine.releaseBoard
  (repeat' split)
  · exact hs
  · exact h.leaveByRelease hs
  · exact hs
  · exact hs
  · exact hs
  all_goals exact h.setOwnership _ _ hs

/-! ### The receiver and the transmitter -/

theorem rxEffect {s : State} (o : RxOutcome) (hs : L s.link) : L (rxEffect o s).link := by
  unfold Machine.rxEffect
  split
  · exact h.receiver _ _ hs
  · unfold joinBuffer
    split
    · next hb => exact h.join _ _ hb (h.receiver _ _ hs)
    · exact h.handNotice (s := setReceiver .hunt [] s) _ _ (h.receiver _ _ hs)
  · exact h.handNotice (s := setReceiver .hunt [] s) _ _ (h.receiver _ _ hs)

theorem examine {s : State} (k : Nat) (bs : List Byte) (hs : L s.link) : L (examine k bs s).link := by
  induction k generalizing bs s with
  | zero => exact hs
  | succ k ih =>
    cases bs with
    | nil => exact hs
    | cons b bs => exact ih _ (h.rxEffect _ hs)

theorem receiveByte {s : State} (b : Byte) (hs : L s.link) : L (receiveByte b s).link :=
  h.examine _ _ (h.rxEffect (s := stampByte s) _ (h.receiver _ _ hs))

theorem startMessage {s : State} (src : TxSource) (f : Frame) (hs : L s.link) : L (startMessage src f s).link := by
  unfold Machine.startMessage
  split
  · exact h.slots _ _ s.link.watchAnswer s.link.reply s.link.resetDue (h.dequeue _ hs)
  · exact h.slots _ _ s.link.watchAnswer s.link.reply s.link.resetDue hs

theorem actReadLane {s : State} (f : Frame) (hs : L s.link) : L (actReadLane f s).link := by
  unfold Machine.actReadLane
  dsimp only
  split <;> exact h.putReply _ _ _ hs

theorem actReadSplits {s : State} (f : Frame) (hs : L s.link) : L (actReadSplits f s).link := by
  unfold Machine.actReadSplits
  dsimp only
  (repeat' split) <;> exact h.putReply _ _ _ hs

theorem actSetOptions {s : State} (f : Frame) (hs : L s.link) : L (actSetOptions f s).link := by
  unfold Machine.actSetOptions
  (repeat' split)
  · exact h.putReply _ _ _ hs
  · exact h.putReply _ _ _ hs
  all_goals exact h.putReply (s := storeOptions _ s) _ _ _ hs

theorem actRowMask {s : State} (f : Frame) (hs : L s.link) : L (actRowMask f s).link := by
  refine h.putReply _ _ _ ?_
  obtain ⟨b, hb⟩ := forEach_markAnyRow_eq
    ((List.range Config.rowCount).filter fun r => decide (s.rowMasked r ≠ (rowMaskOf f.payload).getD r false))
    { s with board := { s.board with mask := rowMaskOf f.payload } }
  rw [hb, adjustSlot_touches _ _ .link (by simp)]
  exact hs

/-- Every command outside the Race Engine keeps the property, but for those that write the watch or clear the alarms. -/
theorem exec {c : Instr} (hrace : movesRace c = false) (hc : writesWatch c = false) {s : State} (hs : L s.link) :
    NextMeets (fun t => L t.link) (exec c s) := by
  have untouched (hl : .link ∉ touches c) : NextMeets (fun t => L t.link) (Machine.exec c s) :=
    nextMeets_of_touches fun t ht => by rw [ht .link hl]; exact hs
  cases c with
  | lineStuck n =>
    change NextMeets _ (execLineStuck n s)
    unfold execLineStuck
    (repeat' split) <;> simp
    · exact h.handAlarm (s := s.updLine n _) _ _ hs
    · exact hs
    · exact hs
  | clockLimit =>
    change NextMeets _ (execClockLimit s)
    unfold execClockLimit
    split <;> simp
    · exact h.handAlarm (s := { s with race := _ }) _ _ hs
    · exact hs
  | slotExpiry =>
    change NextMeets _ (execSlotExpiry s)
    unfold execSlotExpiry
    dsimp only
    (repeat' split) <;> simp
    · exact hs
    · exact h.handAlarm (s := { s with board := _ }) _ _ hs
    · exact hs
  | boardStall =>
    change NextMeets _ (execBoardStall s)
    unfold execBoardStall
    (repeat' split) <;> simp
    · exact hs
    · exact h.handAlarm (s := abandonRow s) _ _ hs
    · exact hs
  | claimWindowEnd =>
    change NextMeets _ (execClaimWindowEnd s)
    unfold execClaimWindowEnd
    split <;> simp [gainBoard_eq]
    · exact h.notice _ _ _ hs
    · exact hs
  | claimWithdrawn v =>
    change NextMeets _ (execClaimWithdrawn v s)
    unfold execClaimWithdrawn
    dsimp only
    split <;> simp
    · exact h.setOwnership (s := dropAsk (s.sampleShare v)) _ _ hs
    · exact hs
  | partnerTook v =>
    change NextMeets _ (execPartnerTook v s)
    unfold execPartnerTook
    dsimp only
    split <;> simp
    · exact h.setOwnership (s := s.sampleShare v) _ _ hs
    · exact hs
  | boardFree v =>
    change NextMeets _ (execBoardFree v s)
    unfold execBoardFree
    dsimp only
    split <;> simp
    · exact h.enterFree (s := s.sampleShare v) _ hs
    · exact hs
  | takeWaitExpiry =>
    change NextMeets _ (execTakeWaitExpiry s)
    unfold execTakeWaitExpiry failOrForce
    dsimp only
    (repeat' split) <;> simp
    · exact h.setOwnership (s := { s with share := _ }) _ _ hs
    · exact h.setOwnership (s := dropAsk s) _ _ hs
    · exact hs
  | reqInActive v =>
    change NextMeets _ (execReqInActive v s)
    unfold execReqInActive
    dsimp only
    split <;> simp
    · exact h.onRequest (s := s.sampleShare v) hs
    · exact hs
  | stopAfterRow =>
    change NextMeets _ (execStopAfterRow s)
    unfold execStopAfterRow
    split <;> simp
    · exact h.leaveByRelease hs
    · exact hs
  | boardLost v =>
    change NextMeets _ (execBoardLost v s)
    unfold execBoardLost
    dsimp only
    split <;> simp
    · exact h.setOwnership _ _ (h.handAlarm (s := loseBoard (abandonRow (s.sampleShare v))) _ _ hs)
    · exact hs
  | frameComplete b stop =>
    change NextMeets _ (execFrameComplete b stop s)
    unfold execFrameComplete
    split <;> simp
    · exact h.receiveByte b hs
    · exact hs
  | frameFailed b stop =>
    change NextMeets _ (execFrameFailed b stop s)
    unfold execFrameFailed
    split <;> simp
    · exact h.receiveByte b hs
    · exact hs
  | byteReceived b stop =>
    change NextMeets _ (execByteReceived b stop s)
    unfold execByteReceived
    split <;> simp
    · exact h.receiveByte b hs
    · exact hs
  | frameTimeout =>
    change NextMeets _ (execFrameTimeout s)
    unfold execFrameTimeout
    split <;> simp
    · exact h.handNotice (s := setReceiver .hunt [] s) _ _ (h.receiver _ _ hs)
    · exact hs
  | unknownKind =>
    change NextMeets _ (execUnknownKind s)
    unfold execUnknownKind
    (repeat' split) <;> simp
    · exact hs
    · exact hs
    · exact h.putReply _ _ _ (h.popRequest hs)
  | messageStart =>
    change NextMeets _ (execMessageStart s)
    unfold execMessageStart
    split <;> simp
    · exact h.startMessage _ _ hs
    · exact hs
  | messageEnd =>
    change NextMeets _ (execMessageEnd s)
    unfold execMessageEnd
    split <;> simp
    · exact h.slots _ _ _ _ _ hs
    · exact hs
  | status => exact h.request hs fun f t ht => h.putReply (s := { t with link := _ }) _ _ _ (h.flags _ _ _ t.link.resetPending ht)
  | reset =>
    exact h.request hs fun f t ht =>
      h.putReply (s := { t with link := _ }) _ _ _ (h.flags _ t.link.noticesLost t.link.alarmFull _ ht)
  | setOptions => exact h.request hs fun f t ht => h.actSetOptions f ht
  | readLane => exact h.request hs fun f t ht => h.actReadLane f ht
  | readSplits => exact h.request hs fun f t ht => h.actReadSplits f ht
  | boardTake => exact h.request hs fun f t ht => h.actBoardTake f ht
  | boardRelease => exact h.request hs fun f t ht => h.putReply _ _ _ (h.releaseBoard ht)
  | boardText =>
    refine h.request hs fun f t ht => h.putReply _ _ _ ?_
    rw [markRow_link]
    exact ht
  | rowMask => exact h.request hs fun f t ht => h.actRowMask f ht
  | lineMask => exact h.request hs fun f t ht => h.putReply (s := { t with lines := _ }) _ _ _ ht
  | readOptions | lineLevels | readRanking | readAlarms => exact h.request hs fun f t ht => h.putReply _ _ _ ht
  | watch | cancelWatch | clearAlarms | powerOn | resetTakesEffect => cases hc
  | edgeConfirmed | backupWindowExpiry | loadEvent | setLane | setRecord | clearRace | arm | recallRace | stopRace
  | adjustLengthPlusOne | adjustLengthMinusOne | adjudicate | declareDns | declareDnf | declareDq | declareReinstate
  | close => cases hrace
  | _ => exact untouched (by simp [touches])

end LinkClosed

/-! ## The bounds of the link (R168, R170, R176) -/

/-- The bounds of the receive buffer, the notice queue and the alarm list. -/
def Link.InBounds (k : Link) : Prop :=
  k.buffer.length ≤ 4 ∧ k.notices.length ≤ 32 ∧ k.alarms.length ≤ 16 ∧ (k.alarms.map fun a => (a.kind, a.lane)).Nodup

theorem linkInv_iff (s : State) : LinkInv s ↔ s.link.InBounds :=
  ⟨fun ⟨buffer, notices, alarms, distinct⟩ => ⟨buffer, notices, alarms, distinct⟩,
   fun ⟨buffer, notices, alarms, distinct⟩ => ⟨buffer, notices, alarms, distinct⟩⟩

theorem Link.InBounds.withNotice {k : Link} (h : k.InBounds) (kind : Byte) (p : List Byte) :
    (k.withNotice kind p).InBounds := by
  obtain ⟨buffer, notices, alarms, distinct⟩ := h
  unfold Link.withNotice
  split
  · exact ⟨buffer, by simpa using by omega, alarms, distinct⟩
  · exact ⟨buffer, notices, alarms, distinct⟩

/-- An alarm updates its entry or joins as a new one (R176). -/
theorem Link.InBounds.withAlarm {k : Link} (h : k.InBounds) (a : AlarmKind) (lane : Option Nat) (now : Tick) :
    (k.withAlarm a lane now).InBounds := by
  have bounds := h
  obtain ⟨buffer, notices, alarms, distinct⟩ := h
  unfold Link.withAlarm
  split
  · refine ⟨buffer, notices, by simpa using alarms, ?_⟩
    rw [List.map_map]
    have same : ((fun x : Alarm => (x.kind, x.lane)) ∘ fun x => if x.kind = a ∧ x.lane = lane then { x with last := now } else x)
        = fun x => (x.kind, x.lane) := by
      funext x
      simp only [Function.comp]
      split <;> rfl
    rw [same]
    exact distinct
  next hnew =>
    split
    · refine Link.InBounds.withNotice (k := { k with alarms := k.alarms ++ [_] }) ⟨buffer, notices, by simpa using by omega, ?_⟩ _ _
      rw [List.map_append]
      refine distinct.append (List.nodup_singleton _) ?_
      simp only [List.map_cons, List.map_nil, List.disjoint_singleton, List.mem_map, not_exists, not_and]
      intro x hx he
      exact hnew ⟨x, hx, by simp_all⟩
    · exact bounds

theorem linkClosed_inBounds : LinkClosed Link.InBounds where
  notice k kind p h := h.withNotice kind p
  alarm k a lane now h := h.withAlarm a lane now
  pop k h := ⟨by have := h.1; simp; omega, h.2⟩
  taken _ _ h := h
  slots _ _ _ _ _ h := h
  dequeue k h := ⟨h.1, by have := h.2.1; simp; omega, h.2.2⟩
  receiver _ _ h := h
  join k f hb h := ⟨by simpa using hb, h.2⟩
  flags _ _ _ _ h := h

/-- An empty link is in bounds. -/
theorem powerOn_inBounds (p : Pins) (s : State) : (powerOn p s).link.InBounds := by
  simp [powerOn, Link.powerOn, Link.InBounds]

theorem exec_inBounds (c : Instr) {s : State} (h : s.link.InBounds) : NextMeets (fun t => t.link.InBounds) (exec c s) := by
  have closed := linkClosed_inBounds
  by_cases hrace : movesRace c = true
  · exact (closed.raceClosed fun _ _ _ _ h => h).exec (fun _ _ _ h => h) (fun _ _ _ h => h) (fun _ h => closed.popRequest h)
      (fun f c x _ h => closed.putReply f c x h) hrace h
  by_cases hwatch : writesWatch c = true
  · cases c with
    | watch =>
      refine closed.request h fun f t ht => ?_
      unfold actWatch
      (repeat' split)
      · exact closed.putReply _ _ _ ht
      · exact closed.putReply _ _ _ ht
      · exact ht
    | cancelWatch =>
      refine closed.request h fun f t ht => ?_
      unfold actCancelWatch
      split
      · exact closed.putReply (s := answerWatch _ _ _ t) _ _ _ ht
      · exact closed.putReply _ _ _ ht
    | clearAlarms =>
      exact closed.request h fun f t ht =>
        closed.putReply (s := { t with link := _ }) _ _ _ ⟨ht.1, ht.2.1, by simp, by simp⟩
    | powerOn p => exact (nextMeets_next _ _).mpr (powerOn_inBounds p s)
    | resetTakesEffect =>
      change NextMeets _ (execResetTakesEffect s)
      unfold execResetTakesEffect
      split
      · exact (nextMeets_next _ _).mpr (powerOn_inBounds s.pins s)
      · exact (nextMeets_next _ _).mpr h
    | _ => cases hwatch
  · exact closed.exec (by simpa using hrace) (by simpa using hwatch) h

/-- Every step keeps the bounds of the link. -/
theorem step_linkInv {s t : State} (hs : LinkInv s) (h : step s = .next t) : LinkInv t := by
  rw [linkInv_iff] at hs ⊢
  exact step_keeps (P := fun s => s.link.InBounds) (fun _ _ _ _ h => h) (fun c _ h => exec_inBounds c h) (fun _ h => h) hs h

end Sys2Proof.Machine
end

section
/-!
The gist of a state: the race record but for the lag samples and the ranking table, the lane states, the watch and its answer.
Most operations of the Race Engine keep it; those that do not are few, and what each makes of it is said here once.
-/
namespace Sys2Proof.Machine

/-- What most operations of the Race Engine keep. -/
structure Gist where
  race : Race
  states : List LaneState
  watch : Option Watch
  answer : Option Frame

def State.gist (s : State) : Gist where
  race := { s.race with lags := [], ranking := [] }
  states := s.lanes.map (·.state)
  watch := s.link.watch
  answer := s.link.watchAnswer

/-! ## Reading the gist -/

theorem gist_of_parts {s t : State} (hr : t.race = s.race) (hl : t.lanes = s.lanes) (hw : t.link.watch = s.link.watch)
    (ha : t.link.watchAnswer = s.link.watchAnswer) : t.gist = s.gist := by
  simp [State.gist, hr, hl, hw, ha]

theorem gist_race_state (s : State) : s.gist.race.state = s.race.state := rfl

theorem lane_state_eq (s : State) (n : Nat) : (s.lane n).state = s.gist.states.getD n .vacant := by
  simp only [State.lane, State.gist, List.getD_eq_getElem?_getD, List.getElem?_map]
  cases s.lanes[n]? <;> rfl

theorem lane_state_of_gist {s t : State} (h : t.gist = s.gist) (n : Nat) : (t.lane n).state = (s.lane n).state := by
  simp [lane_state_eq, h]

/-- The vector is in the gist (R171). -/
def Gist.vector (g : Gist) : List Byte := raceCode g.race.state :: g.states.map laneCode

theorem vector_eq (s : State) : s.vector = s.gist.vector := by
  simp [State.vector, Gist.vector, State.gist]

theorem vector_of_gist {s t : State} (h : t.gist = s.gist) : t.vector = s.vector := by
  simp only [vector_eq, h]

theorem race_state_of_gist {s t : State} (h : t.gist = s.gist) : t.race.state = s.race.state :=
  congrArg (fun g => g.race.state) h

theorem event_of_gist {s t : State} (h : t.gist = s.gist) : t.event = s.event :=
  congrArg (fun g => g.race.event.getD EventDesc.absent) h

/-! ## Operations that keep the gist -/

theorem gist_updLane {f : Lane → Lane} (hf : ∀ l, (f l).state = l.state) (n : Nat) (s : State) :
    (s.updLane n f).gist = s.gist := by
  have states : (s.lanes.modify n f).map (·.state) = s.lanes.map (·.state) := by
    apply List.ext_getElem?
    intro i
    by_cases hi : n = i <;> cases h : s.lanes[i]? <;> simp [hi, h, hf]
  simp [State.gist, states]

theorem withNotice_watchAnswer (l : Link) (k : Byte) (p : List Byte) : (l.withNotice k p).watchAnswer = l.watchAnswer := by
  unfold Link.withNotice
  split <;> rfl

theorem withAlarm_watch (l : Link) (k : AlarmKind) (lane : Option Nat) (now : Tick) :
    (l.withAlarm k lane now).watch = l.watch ∧ (l.withAlarm k lane now).watchAnswer = l.watchAnswer := by
  unfold Link.withAlarm
  (repeat' split) <;> simp [withNotice_watch, withNotice_watchAnswer]

@[simp] theorem gist_handNotice (k : Byte) (p : List Byte) (s : State) : (handNotice k p s).gist = s.gist := by
  simp only [handNotice_eq, State.gist, withNotice_watch, withNotice_watchAnswer]

@[simp] theorem gist_handAlarm (k : AlarmKind) (lane : Option Nat) (s : State) : (handAlarm k lane s).gist = s.gist := by
  simp only [handAlarm_eq, State.gist, withAlarm_watch]

theorem gist_board (b : Board) (s : State) : ({ s with board := b } : State).gist = s.gist := rfl

@[simp] theorem gist_markRow (r : Nat) (s : State) : (markRow r s).gist = s.gist := by
  rw [markRow_eq]
  exact gist_board _ s

@[simp] theorem gist_markLaneRow (n : Nat) (s : State) : (markLaneRow n s).gist = s.gist := gist_markRow _ s

@[simp] theorem gist_markLaneRows (n : Nat) (s : State) : (markLaneRows n s).gist = s.gist := by
  rw [markLaneRows_eq]
  exact gist_board _ s

@[simp] theorem gist_markAllRows (s : State) : (markAllRows s).gist = s.gist := by
  rw [markAllRows_eq]
  exact gist_board _ s

@[simp] theorem gist_setHold (n : Nat) (h : Option Timer) (s : State) : (s.setHold n h).gist = s.gist := rfl
@[simp] theorem gist_stopHolds (s : State) : (stopHolds s).gist = s.gist := rfl
@[simp] theorem gist_triggerFlash (n : Nat) (s : State) : (triggerFlash n s).gist = s.gist := rfl
@[simp] theorem gist_triggerAlert (n : Nat) (s : State) : (triggerAlert n s).gist = s.gist := rfl
@[simp] theorem gist_triggerBell (s : State) : (triggerBell s).gist = s.gist := rfl
@[simp] theorem gist_triggerRecord (s : State) : (triggerRecord s).gist = s.gist := rfl
@[simp] theorem gist_syncFinalLength (n : Nat) (s : State) : (syncFinalLength n s).gist = s.gist := rfl
@[simp] theorem gist_stopLaneLamps (s : State) : (stopLaneLamps s).gist = s.gist := rfl
@[simp] theorem gist_stopAllLamps (s : State) : (stopAllLamps s).gist = s.gist := rfl
@[simp] theorem gist_putReply (f : Frame) (c : ReplyCode) (x : List Byte) (s : State) : (putReply f c x s).gist = s.gist := rfl
@[simp] theorem gist_popRequest (s : State) : (popRequest s).gist = s.gist := rfl

@[simp] theorem gist_startHold (n : Nat) (s : State) : (startHold n s).gist = s.gist := by
  simp [startHold]

@[simp] theorem gist_endHold (n : Nat) (s : State) : (endHold n s).gist = s.gist := by
  unfold endHold
  split <;> simp

@[simp] theorem setExchange_state (j : Nat) (x : Exchange) (l : Lane) : (l.setExchange j x).state = l.state := by
  unfold Lane.setExchange
  split <;> rfl

@[simp] theorem setPress_state (b : Nat) (x : Evidence) (l : Lane) : (l.setPress b x).state = l.state := by
  unfold Lane.setPress
  split <;> rfl

@[simp] theorem gist_raiseOverrange (n : Nat) (m : Bool) (s : State) : (raiseOverrange n m s).gist = s.gist := by
  unfold raiseOverrange
  split
  · apply gist_updLane
    exact fun _ => rfl
  · rfl

@[simp] theorem gist_handExchange (n j : Nat) (s : State) : (handExchange n j s).gist = s.gist := gist_handNotice _ _ s

@[simp] theorem gist_judgeExchange (n j a b : Nat) (s : State) : (judgeExchange n j a b s).gist = s.gist := by
  unfold judgeExchange
  dsimp only
  (repeat' split) <;> simp [gist_updLane]

@[simp] theorem gist_unjudgeExchange (n j : Nat) (s : State) : (unjudgeExchange n j s).gist = s.gist := by
  simp [unjudgeExchange, gist_updLane]

@[simp] theorem gist_exchangeAppend (n : Nat) (e : Split) (s : State) : (exchangeAppend n e s).gist = s.gist := by
  unfold exchangeAppend
  (repeat' split) <;> simp

@[simp] theorem gist_takeTakeoff (n : Nat) (e : Tick) (s : State) : (takeTakeoff n e s).gist = s.gist := by
  unfold takeTakeoff
  dsimp only
  (repeat' split) <;> simp [gist_updLane]

@[simp] theorem gist_withdrawExchange (n k : Nat) (s : State) : (withdrawExchange n k s).gist = s.gist := by
  unfold withdrawExchange
  dsimp only
  (repeat' split) <;> simp [gist_updLane]

@[simp] theorem gist_handSplit (n : Nat) (e : Split) (s : State) : (handSplit n e s).gist = s.gist := gist_handNotice _ _ s

@[simp] theorem gist_countMiss (n : Nat) (s : State) : (countMiss n s).gist = s.gist := by
  unfold countMiss
  dsimp only
  split <;> simp [gist_updLane]

@[simp] theorem gist_bellCheck (n : Nat) (s : State) : (bellCheck n s).gist = s.gist := by
  unfold bellCheck
  split <;> simp

@[simp] theorem gist_appendSplit (n : Nat) (k : SplitKind) (x : Option Nat) (m : Bool) (s : State) :
    (appendSplit n k x m s).gist = s.gist := by
  have appended : (s.updLane n (Lane.append (nextEntry (s.lane n) k x m))).gist = s.gist := by
    apply gist_updLane
    exact fun _ => rfl
  unfold appendSplit
  dsimp only
  (repeat' split) <;> simp [appended]

@[simp] theorem gist_recomputeRanking (s : State) : (recomputeRanking s).gist = s.gist := by
  unfold recomputeRanking
  dsimp only
  have states : (s.lanes.map fun l => { l with place := placeIn s.lanes l }).map (·.state) = s.lanes.map (·.state) := by
    simp [Function.comp_def]
  rw [forEach_markLaneRow_eq]
  split
  · exact congrArg (fun x => ({ s.gist with states := x } : Gist)) states
  · rw [gist_handNotice]
    exact congrArg (fun x => ({ s.gist with states := x } : Gist)) states

@[simp] theorem gist_recordCheck (n : Nat) (s : State) : (recordCheck n s).gist = s.gist := by
  unfold recordCheck
  dsimp only
  (repeat' split) <;> simp [gist_updLane]

@[simp] theorem gist_appendLag (n : Nat) (d : Option Nat) (s : State) : (appendLag n d s).gist = s.gist := by
  unfold appendLag
  split <;> rfl

@[simp] theorem gist_takeBlockLoad (n : Nat) (s : State) : (takeBlockLoad n s).gist = s.gist := by
  unfold takeBlockLoad
  split <;> simp [gist_updLane]

@[simp] theorem gist_storeReaction (n : Nat) (r : Int) (s : State) : (storeReaction n r s).gist = s.gist := by
  apply gist_updLane
  exact fun _ => rfl

@[simp] theorem gist_handEarlyRelease (n : Nat) (r : Int) (s : State) : (handEarlyRelease n r s).gist = s.gist :=
  gist_handNotice _ _ s

@[simp] theorem gist_classifyRelease (n : Nat) (e : Tick) (s : State) : (classifyRelease n e s).gist = s.gist := by
  unfold classifyRelease
  dsimp only
  (repeat' split) <;> simp [gist_updLane]

@[simp] theorem gist_takeBlockRelease (n : Nat) (e : Tick) (s : State) : (takeBlockRelease n e s).gist = s.gist := by
  unfold takeBlockRelease
  split <;> simp [gist_updLane]

@[simp] theorem gist_startNotice (n : Nat) (s : State) : (startNotice n s).gist = s.gist := by
  unfold startNotice
  (repeat' split) <;> simp

@[simp] theorem gist_removeTail (n : Nat) (s : State) : (removeTail n s).gist = s.gist := by
  simp [removeTail, gist_updLane, Lane.removeTail]

@[simp] theorem gist_markDq (dq : Bool) (n : Nat) (s : State) : (markDq dq n s).gist = s.gist := by
  simp [markDq, gist_updLane]

@[simp] theorem gist_declareDqLane (n : Nat) (s : State) : (declareDqLane n s).gist = s.gist := by
  unfold declareDqLane
  split <;> simp

@[simp] theorem gist_declareReinstateLane (n : Nat) (s : State) : (declareReinstateLane n s).gist = s.gist := by
  unfold declareReinstateLane
  split <;> simp

/-! ## Operations that change the gist -/

/-- The gist after a change of the race state: the latch of R55 ends with any change (R25, R55). -/
def Gist.withRace (r : RaceState) (g : Gist) : Gist :=
  if g.race.state = r then g else { g with race := { g.race with state := r, pastLimit := false } }

/-- The gist after a change of a lane's state. -/
def Gist.withState (n : Nat) (st : LaneState) (g : Gist) : Gist := { g with states := g.states.set n st }

@[simp] theorem withState_race (n : Nat) (st : LaneState) (g : Gist) : (g.withState n st).race = g.race := rfl
@[simp] theorem withState_withState (n : Nat) (a b : LaneState) (g : Gist) :
    (g.withState n a).withState n b = g.withState n b := by
  simp [Gist.withState]

/-- A lane record with a new state. -/
theorem gist_updLane_state {f : Lane → Lane} {st : LaneState} (hf : ∀ l, (f l).state = st) (n : Nat) (s : State) :
    (s.updLane n f).gist = s.gist.withState n st := by
  have states : (s.lanes.modify n f).map (·.state) = (s.lanes.map (·.state)).set n st := by
    apply List.ext_getElem?
    intro i
    by_cases hi : n = i
    · subst hi
      simp only [List.getElem?_map, List.getElem?_modify, List.getElem?_set_self', if_true]
      cases s.lanes[n]? <;> simp [hf]
    · cases h : s.lanes[i]? <;> simp [hi, h]
  simp [State.gist, Gist.withState, states]

theorem gist_setRaceState (r : RaceState) (s : State) : (setRaceState r s).gist = s.gist.withRace r := by
  unfold setRaceState Gist.withRace
  by_cases h : s.race.state = r
  · simp [h, gist_race_state]
  · simp only [h, gist_race_state, if_false, gist_handNotice, gist_markRow]
    rfl

theorem gist_setLaneState (n : Nat) (st : LaneState) (s : State) : (setLaneState n st s).gist = s.gist.withState n st := by
  have changed : (s.updLane n (fun l => { l with state := st })).gist = s.gist.withState n st := by
    apply gist_updLane_state
    exact fun _ => rfl
  unfold setLaneState
  dsimp only
  (repeat' split)
  · next h =>
    have same : s.gist.states.set n st = s.gist.states := by
      apply List.ext_getElem?
      intro i
      by_cases hi : n = i
      · subst hi
        rw [lane_state_eq, List.getD_eq_getElem?_getD] at h
        rw [List.getElem?_set_self']
        cases hg : s.gist.states[n]? <;> simp_all
      · simp [hi]
    simp [Gist.withState, same]
  · simp [changed]
  · simp [changed]

theorem decideFinish_state {e : EventDesc} {l : Lane} {c k : Option Nat} {d : Decision} (h : decideFinish e l c k = some d) :
    d.state = .finished ∨ d.state = .review := by
  unfold decideFinish at h
  dsimp only at h
  (repeat' split at h) <;> simp at h <;> subst h <;> simp

/-- A resolution leaves the gist or makes its lane FINISHED or REVIEW (R87). -/
theorem gist_resolveLane (n : Nat) (s : State) :
    (resolveLane n s).gist = s.gist
    ∨ ∃ st, (st = .finished ∨ st = .review) ∧ (resolveLane n s).gist = s.gist.withState n st := by
  unfold resolveLane
  dsimp only
  split
  · exact .inl rfl
  · next d hd =>
    refine .inr ⟨d.state, ?_, by simp [gist_setLaneState, gist_updLane]⟩
    exact decideFinish_state hd

/-- The lane has taken a step of its finish, and the race has ended with it or not: what evidence and the window's expiry can
do to the gist (R76, R87, R118). -/
structure FinishStep (n : Nat) (news : List LaneState) (g h : Gist) : Prop where
  states : h.states = g.states ∨ ∃ st ∈ news, h.states = g.states.set n st
  race : h.race = g.race ∨ (g.race.state = .running ∧ h.race = { g.race with state := .unofficial, pastLimit := false })
  watch : h.watch = g.watch
  answer : h.answer = g.answer

theorem FinishStep.refl (n : Nat) (news : List LaneState) (g : Gist) : FinishStep n news g g := ⟨.inl rfl, .inl rfl, rfl, rfl⟩

theorem FinishStep.trans {n : Nat} {news : List LaneState} {g h k : Gist} (a : FinishStep n news g h)
    (b : FinishStep n news h k) : FinishStep n news g k where
  states := by
    obtain hb | ⟨st, hst, hb⟩ := b.states
    · rw [hb]; exact a.states
    · refine .inr ⟨st, hst, ?_⟩
      obtain ha | ⟨st', -, ha⟩ := a.states <;> simp [hb, ha]
  race := by
    obtain hb | ⟨hs, hb⟩ := b.race
    · rw [hb]; exact a.race
    · obtain ha | ⟨-, ha⟩ := a.race
      · exact .inr ⟨ha ▸ hs, by rw [hb, ha]⟩
      · rw [ha] at hs; cases hs
  watch := b.watch.trans a.watch
  answer := b.answer.trans a.answer

theorem finishStep_withState {n : Nat} {news : List LaneState} {st : LaneState} (h : st ∈ news) (g : Gist) :
    FinishStep n news g (g.withState n st) := ⟨.inr ⟨st, h, rfl⟩, .inl rfl, rfl, rfl⟩

theorem finishStep_resolveLane {n : Nat} {news : List LaneState} (hf : .finished ∈ news) (hr : .review ∈ news) (s : State) :
    FinishStep n news s.gist (resolveLane n s).gist := by
  obtain h | ⟨st, rfl | rfl, h⟩ := gist_resolveLane n s <;> rw [h]
  · exact .refl n news _
  · exact finishStep_withState hf _
  · exact finishStep_withState hr _

theorem finishStep_endOfRaceCheck (n : Nat) (news : List LaneState) (s : State) :
    FinishStep n news s.gist (endOfRaceCheck s).gist := by
  unfold endOfRaceCheck
  split
  next h =>
    rw [gist_setRaceState, Gist.withRace, if_neg (by simp [gist_race_state, h.1])]
    exact ⟨.inl rfl, .inr ⟨h.1, rfl⟩, rfl, rfl⟩
  · exact .refl n news _

theorem finishStep_earlyCloseCheck {n : Nat} {news : List LaneState} (hf : .finished ∈ news) (hr : .review ∈ news)
    (s : State) : FinishStep n news s.gist (earlyCloseCheck n s).gist := by
  unfold earlyCloseCheck
  split
  · exact (finishStep_resolveLane hf hr s).trans (finishStep_endOfRaceCheck n news _)
  · exact .refl n news _

/-- The states that a lane can take as its finish opens and is resolved. -/
abbrev finishStates : List LaneState := [.finishing, .finished, .review]

theorem finishStep_openFinish (n : Nat) (e : Tick) (ev : Evidence) (b : Option Nat) (s : State) :
    FinishStep n finishStates s.gist (openFinish n e ev b s).gist := by
  unfold openFinish
  dsimp only
  refine FinishStep.trans ?_ (finishStep_earlyCloseCheck (by simp) (by simp) _)
  rw [gist_updLane (by intro l; cases b <;> simp), gist_setLaneState]
  exact finishStep_withState (by simp) _

theorem FinishStep.of_eq {n : Nat} {news : List LaneState} {g h k : Gist} (hg : h = g) (hk : FinishStep n news h k) :
    FinishStep n news g k := hg ▸ hk

theorem finishStep_touchSwimming (n : Nat) (p : PoolEnd) (e : Tick) (ev : Evidence) (s : State) :
    FinishStep n finishStates s.gist (touchSwimming n p e ev s).gist := by
  unfold touchSwimming
  dsimp only
  (repeat' split)
  · exact .refl n _ _
  · simpa using FinishStep.refl n _ _
  · exact finishStep_openFinish n e ev none s
  · simpa using FinishStep.refl n _ _
  · exact .of_eq (gist_appendSplit ..) (finishStep_openFinish n e ev none _)

theorem finishStep_touchFinishing (n : Nat) (p : PoolEnd) (ev : Evidence) (s : State) :
    FinishStep n finishStates s.gist (touchFinishing n p ev s).gist := by
  unfold touchFinishing
  dsimp only
  split
  · exact .refl n _ _
  · refine .of_eq ?_ (finishStep_earlyCloseCheck (by simp) (by simp) _)
    apply gist_updLane
    exact fun _ => rfl

theorem finishStep_pressSwimming (n b : Nat) (e : Tick) (ev : Evidence) (s : State) :
    FinishStep n finishStates s.gist (pressSwimming n b e ev s).gist := by
  unfold pressSwimming
  dsimp only
  (repeat' split)
  · exact .refl n _ _
  · exact finishStep_openFinish n e ev (some b) s
  · exact .of_eq (gist_appendSplit ..) (finishStep_openFinish n e ev (some b) _)
  · exact .refl n _ _

theorem finishStep_pressFinishing (n b : Nat) (ev : Evidence) (s : State) :
    FinishStep n finishStates s.gist (pressFinishing n b ev s).gist := by
  unfold pressFinishing
  split
  · exact .refl n _ _
  · exact .of_eq (gist_updLane (setPress_state b ev) n s) (finishStep_earlyCloseCheck (by simp) (by simp) _)

/-- A touch leaves the gist, or its lane was SWIMMING or FINISHING and takes a step of its finish (R61). -/
theorem finishStep_takePadMake (n : Nat) (p : PoolEnd) (e : Tick) (s : State) :
    (takePadMake n p e s).gist = s.gist
    ∨ (((s.lane n).state = .swimming ∨ (s.lane n).state = .finishing)
        ∧ FinishStep n finishStates s.gist (takePadMake n p e s).gist) := by
  unfold takePadMake
  dsimp only
  split
  · next h => exact .inr ⟨.inl h, .of_eq (gist_raiseOverrange ..) (finishStep_touchSwimming n p e _ _)⟩
  · next h => exact .inr ⟨.inr h, .of_eq (gist_raiseOverrange ..) (finishStep_touchFinishing n p _ _)⟩
  · exact .inl rfl

theorem finishStep_takeButtonPress (n b : Nat) (e : Tick) (s : State) :
    (takeButtonPress n b e s).gist = s.gist
    ∨ (((s.lane n).state = .swimming ∨ (s.lane n).state = .finishing)
        ∧ FinishStep n finishStates s.gist (takeButtonPress n b e s).gist) := by
  unfold takeButtonPress
  dsimp only
  split
  · next h => exact .inr ⟨.inl h, .of_eq (gist_raiseOverrange ..) (finishStep_pressSwimming n b e _ _)⟩
  · next h => exact .inr ⟨.inr h, .of_eq (gist_raiseOverrange ..) (finishStep_pressFinishing n b _ _)⟩
  · exact .inl rfl

end Sys2Proof.Machine
end

section
/-!
What the start, the requests and the timed commands of the Race Engine make of the gist: the changes of the race state and of the
lane states, which sections 2.3 and 2.4 list.
-/
namespace Sys2Proof.Machine

/-! ## The state of one lane in the gist -/

/-- The state of lane `i`. -/
def Gist.stateAt (g : Gist) (i : Nat) : LaneState := g.states.getD i .vacant

theorem stateAt_gist (s : State) (i : Nat) : s.gist.stateAt i = (s.lane i).state := (lane_state_eq s i).symm

theorem stateAt_withState (n : Nat) (st : LaneState) (g : Gist) (i : Nat) :
    (g.withState n st).stateAt i = if n = i ∧ i < g.states.length then st else g.stateAt i := by
  simp only [Gist.stateAt, Gist.withState, List.getD_eq_getElem?_getD, List.getElem?_set]
  by_cases hi : n = i
  · subst hi
    by_cases hl : n < g.states.length <;> simp [hl]
  · simp [hi]

/-- The race, the watch and its answer are as they were, and each lane's state has gone from old to new as `M` allows. -/
structure Gist.Moves (M : Nat → LaneState → LaneState → Prop) (g h : Gist) : Prop where
  race : h.race = g.race
  watch : h.watch = g.watch
  answer : h.answer = g.answer
  states : ∀ i, M i (g.stateAt i) (h.stateAt i)

/-- A move of lane states is kept by repetition and by no move. -/
structure Repeats (M : Nat → LaneState → LaneState → Prop) : Prop where
  refl : ∀ i a, M i a a
  trans : ∀ i a b c, M i a b → M i b c → M i a c

theorem Gist.Moves.refl {M : Nat → LaneState → LaneState → Prop} (hM : Repeats M) (g : Gist) : g.Moves M g :=
  ⟨rfl, rfl, rfl, fun i => hM.refl i _⟩

theorem Gist.Moves.trans {M : Nat → LaneState → LaneState → Prop} (hM : Repeats M) {g h k : Gist} (a : g.Moves M h)
    (b : h.Moves M k) : g.Moves M k :=
  ⟨b.race.trans a.race, b.watch.trans a.watch, b.answer.trans a.answer, fun i => hM.trans i _ _ _ (a.states i) (b.states i)⟩

theorem moves_of_eq {M : Nat → LaneState → LaneState → Prop} (hM : Repeats M) {g h : Gist} (e : h = g) : g.Moves M h :=
  e ▸ .refl hM g

theorem moves_withState {M : Nat → LaneState → LaneState → Prop} (hM : Repeats M) {n : Nat} {st : LaneState} {g : Gist}
    (h : M n (g.stateAt n) st) : g.Moves M (g.withState n st) where
  race := rfl
  watch := rfl
  answer := rfl
  states i := by
    rw [stateAt_withState]
    split
    next hi => exact hi.1 ▸ h
    · exact hM.refl i _

theorem moves_forEach {M : Nat → LaneState → LaneState → Prop} (hM : Repeats M) {f : Nat → State → State} {ns : List Nat}
    (hf : ∀ n ∈ ns, ∀ u : State, u.gist.Moves M (f n u).gist) (s : State) : s.gist.Moves M (forEach ns f s).gist := by
  induction ns generalizing s with
  | nil => exact .refl hM _
  | cons n ns ih =>
    exact (hf n (by simp) s).trans hM (ih (fun m hm => hf m (by simp [hm])) (f n s))

/-- A lane in one state goes to another. -/
def fromTo (old new : LaneState) (_ : Nat) (a b : LaneState) : Prop := a = b ∨ (a = old ∧ b = new)

theorem repeats_fromTo {old new : LaneState} (h : old ≠ new) : Repeats (fromTo old new) where
  refl _ _ := .inl rfl
  trans _ a b c := by
    rintro (rfl | ⟨rfl, rfl⟩) (rfl | ⟨hb, rfl⟩)
    · exact .inl rfl
    · exact .inr ⟨hb, rfl⟩
    · exact .inr ⟨rfl, rfl⟩
    · exact absurd hb.symm h

/-- The listed lanes go to states that are allowed. -/
def sweeps (ns : List Nat) (news : List LaneState) (i : Nat) (a b : LaneState) : Prop := a = b ∨ (i ∈ ns ∧ b ∈ news)

theorem repeats_sweeps (ns : List Nat) (news : List LaneState) : Repeats (sweeps ns news) where
  refl _ _ := .inl rfl
  trans i a b c := by
    rintro (rfl | ha) (rfl | hb)
    · exact .inl rfl
    · exact .inr hb
    · exact .inr ha
    · exact .inr hb

/-! ## The start -/

theorem moves_startLane (e : Tick) (n : Nat) (s : State) : s.gist.Moves (fromTo .set .swimming) (startLane e n s).gist := by
  have hM : Repeats (fromTo .set .swimming) := repeats_fromTo (by decide)
  unfold startLane
  dsimp only
  split
  next h =>
    have moved : s.gist.Moves (fromTo .set .swimming) (setLaneState n .swimming s).gist := by
      rw [gist_setLaneState]
      exact moves_withState hM (.inr ⟨(stateAt_gist s n).trans h, rfl⟩)
    split
    · rw [gist_storeReaction]; exact moved
    · exact moved
  · exact .refl hM _

/-- What the start makes of the gist: the race is RUNNING from its start tick, and SET lanes swim (R44). -/
structure Gist.Started (e : Tick) (g h : Gist) : Prop where
  race : h.race = { g.race with state := .running, startTick := some e, pastLimit := false }
  watch : h.watch = g.watch
  answer : h.answer = g.answer
  states : ∀ i, fromTo .set .swimming i (g.stateAt i) (h.stateAt i)

theorem gist_forEach_keeps {f : Nat → State → State} (hf : ∀ n u, (f n u).gist = u.gist) (ns : List Nat) (s : State) :
    (forEach ns f s).gist = s.gist := by
  induction ns generalizing s with
  | nil => rfl
  | cons n ns ih => exact (ih (f n s)).trans (hf n s)

theorem Gist.Moves.started {e : Tick} {g g1 h : Gist} (hg : g1 = { g with race := { g.race with startTick := some e } })
    (ha : g.race.state = .armed) (hm : g1.Moves (fromTo .set .swimming) h) : g.Started e (h.withRace .running) := by
  subst hg
  obtain ⟨race, watch, answer, states⟩ := hm
  have armed : h.race.state = .armed := by rw [race]; exact ha
  rw [Gist.withRace, if_neg (by simp [armed])]
  exact ⟨by simp only [race], watch, answer, states⟩

theorem gist_startRace {e : Tick} {s : State} (h : s.race.state = .armed) : s.gist.Started e (startRace e s).gist := by
  have moved := moves_forEach (repeats_fromTo (by decide)) (f := startLane e) (ns := laneNumbers)
    (fun n _ u => moves_startLane e n u) { s with race := { s.race with startTick := some e } }
  unfold startRace
  dsimp only
  rw [gist_forEach_keeps gist_triggerFlash, gist_forEach_keeps gist_startNotice, gist_handNotice, gist_setRaceState]
  exact moved.started rfl h

/-! ## LOAD_EVENT, CLEAR_RACE, ARM, RECALL, STOP -/

theorem gist_clearField (e : Option EventDesc) (s : State) :
    (clearField e s).gist
      = { s.gist with race := { Race.cleared with state := s.race.state, event := e }, states := s.lanes.map fun _ => .vacant } := by
  unfold clearField
  rw [gist_markAllRows, gist_stopAllLamps, gist_stopHolds]
  simp [State.gist, Race.cleared, Lane.blank]

theorem stateAt_map_vacant {α : Type} (ls : List α) (i : Nat) : (ls.map fun _ => LaneState.vacant).getD i .vacant = .vacant := by
  rw [List.getD_eq_getElem?_getD, List.getElem?_map]
  cases ls[i]? <;> rfl

theorem moves_armLane (n : Nat) (s : State) : s.gist.Moves (fromTo .ready .set) (armLane n s).gist := by
  have hM : Repeats (fromTo .ready .set) := repeats_fromTo (by decide)
  have emptied : (s.updLane n fun l => { l with splits := [], done := 0, misses := 0, countDoubt := false }).gist = s.gist := by
    apply gist_updLane
    exact fun _ => rfl
  unfold armLane
  dsimp only
  split
  next h =>
    rw [gist_updLane (by exact fun _ => rfl), gist_setLaneState, emptied]
    exact moves_withState hM (.inr ⟨(stateAt_gist s n).trans h, rfl⟩)
  · rw [gist_updLane (by exact fun _ => rfl), emptied]
    exact .refl hM _
  · exact moves_of_eq hM emptied

theorem withState_stateAt (n : Nat) (g : Gist) : g.withState n (g.stateAt n) = g := by
  have same : g.states.set n (g.stateAt n) = g.states := by
    apply List.ext_getElem?
    intro i
    by_cases hi : n = i
    · subst hi
      rw [List.getElem?_set_self', Gist.stateAt, List.getD_eq_getElem?_getD]
      cases g.states[n]? <;> rfl
    · simp [hi]
  rw [Gist.withState, same]

theorem moves_recallArmedLane (n : Nat) (s : State) : s.gist.Moves (fromTo .set .ready) (recallArmedLane n s).gist := by
  have hM : Repeats (fromTo .set .ready) := repeats_fromTo (by decide)
  unfold recallArmedLane
  dsimp only
  split
  · exact .refl hM _
  · have recalled (st : LaneState) : ((setLaneState n st s).updLane n (Lane.recalled st)).gist = s.gist.withState n st := by
      rw [gist_updLane_state (st := st) (by exact fun _ => rfl), gist_setLaneState, withState_withState]
    rw [recalled]
    by_cases h : (s.lane n).state = .set
    · rw [if_pos h]
      exact moves_withState hM (.inr ⟨(stateAt_gist s n).trans h, rfl⟩)
    · rw [if_neg h, ← stateAt_gist, withState_stateAt]
      exact .refl hM _

/-- A RECALL accepted in RUNNING (R52). -/
theorem gist_recallRunning {s : State} (h : s.race.state = .running) :
    (recallRunning s).gist
      = { s.gist with
          race := { s.gist.race with state := .loaded, startTick := none, limitMark := false, pastLimit := false }
          states := s.lanes.map fun l => l.recallRunning.state } := by
  unfold recallRunning
  dsimp only
  have cleared (t : State) (ht : t.race.state = .running) :
      (setRaceState .loaded (markAllRows (stopAllLamps (stopHolds t)))).gist
        = { t.gist with race := { t.gist.race with state := .loaded, pastLimit := false } } := by
    rw [gist_setRaceState, gist_markAllRows, gist_stopAllLamps, gist_stopHolds, Gist.withRace,
      if_neg (by simp [gist_race_state, ht])]
  split
  · rw [gist_handNotice, cleared _ (by exact h)]
    simp [State.gist, Function.comp_def]
  · rw [cleared _ (by exact h)]
    simp [State.gist, Function.comp_def]

theorem gist_dnfLane (n : Nat) (s : State) : (dnfLane n s).gist = s.gist.withState n .dnf := by
  rw [dnfLane, gist_syncFinalLength, gist_setLaneState]

/-- The resolutions and the abandonments of STOP (R119). -/
theorem moves_stopped (finishing swimming : List Nat) (s : State) :
    ∃ g, s.gist.Moves (sweeps finishing [.finished, .review]) g
      ∧ g.Moves (sweeps swimming [.dnf]) (stopLaneLamps (forEach swimming dnfLane (forEach finishing resolveLane s))).gist := by
  refine ⟨_, moves_forEach (repeats_sweeps _ _) (f := resolveLane) (ns := finishing) (fun n hn u => ?_) s, ?_⟩
  · obtain h | ⟨st, hst, h⟩ := gist_resolveLane n u <;> rw [h]
    · exact .refl (repeats_sweeps _ _) _
    · exact moves_withState (repeats_sweeps _ _) (.inr ⟨hn, by simpa using hst⟩)
  · rw [gist_stopLaneLamps]
    exact moves_forEach (repeats_sweeps _ _)
      (fun n hn u => by rw [gist_dnfLane]; exact moves_withState (repeats_sweeps _ _) (.inr ⟨hn, by simp⟩)) _

/-! ## Corrections and declarations -/

theorem gist_adjudicateLane (n : Nat) (ev : Evidence) (src : ResultSource) (s : State) :
    (adjudicateLane n ev src s).gist = s.gist.withState n .finished := by
  unfold adjudicateLane
  dsimp only
  rw [gist_recordCheck, gist_recomputeRanking, gist_markLaneRows, gist_handSplit, gist_setLaneState]
  rw [gist_updLane (f := Lane.adjudicate ev src) (by exact fun _ => rfl)]

theorem finishStep_declareDnsLane (n : Nat) (s : State) : FinishStep n [.dns] s.gist (declareDnsLane n s).gist := by
  unfold declareDnsLane
  refine FinishStep.trans ?_ (finishStep_endOfRaceCheck n _ _)
  rw [gist_syncFinalLength, gist_setLaneState]
  exact finishStep_withState (by simp) _

theorem finishStep_declareDnfLane (n : Nat) (s : State) : FinishStep n [.dnf] s.gist (declareDnfLane n s).gist := by
  unfold declareDnfLane
  refine FinishStep.trans ?_ (finishStep_endOfRaceCheck n _ _)
  rw [gist_dnfLane]
  exact finishStep_withState (by simp) _

end Sys2Proof.Machine
end

section
/-!
A pending watch sees every change of the vector at the command that makes it (R171), and the race state and the lane states change
as the tables of sections 2.3 and 2.4 say. Both follow from what each command makes of the gist.
-/
namespace Sys2Proof.Machine

/-! ## A pending watch -/

/-- Between `s` and `t` a pending watch has seen the vector: it is still pending where the vector is as it was, and is answered
where it is not; and no watch has become pending. -/
structure Sees (s t : State) : Prop where
  idle : s.link.watch = none → t.link.watch = none
  pending : ∀ w, s.link.watch = some w → w.snapshot = s.vector →
    (t.vector = s.vector → t.link.watch = some w)
    ∧ (t.vector ≠ s.vector →
        t.link.watch = none ∧ t.link.watchAnswer = some { kind := 0x98, tag := w.tag, payload := 0 :: t.vector })

theorem sees_of_quiet {s t : State} (hv : t.vector = s.vector) (hw : t.link.watch = s.link.watch) : Sees s t where
  idle h := hw.trans h
  pending _ h _ := ⟨fun _ => hw.trans h, fun hne => absurd hv hne⟩

theorem sees_of_gist {s t : State} (h : t.gist = s.gist) : Sees s t :=
  sees_of_quiet (vector_of_gist h) (congrArg Gist.watch h)

@[simp] theorem answerWatch_vector (w : Watch) (c : ReplyCode) (x : List Byte) (s : State) :
    (answerWatch w c x s).vector = s.vector := rfl

@[simp] theorem watchCheck_vector (s : State) : (watchCheck s).vector = s.vector := by
  simp [State.vector]

/-- The watch check at the end of a command sees whatever the command did. -/
theorem sees_watchCheck {s t : State} (hw : t.link.watch = s.link.watch) : Sees s (watchCheck t) where
  idle h := by simp [watchCheck, hw, h]
  pending w h hs := by
    rw [watchCheck_vector]
    unfold watchCheck
    simp only [hw, h]
    by_cases hv : t.vector = w.snapshot
    · rw [if_pos hv]
      exact ⟨fun _ => hw.trans h, fun hne => absurd (hv.trans hs) hne⟩
    · rw [if_neg hv]
      exact ⟨fun hsame => absurd (hsame.trans hs.symm) hv, fun _ => ⟨rfl, rfl⟩⟩

/-- The watch check behind what keeps the watch of the gist. -/
theorem sees_watchCheck_gist {s t : State} (h : t.gist.watch = s.gist.watch) : Sees s (watchCheck t) := sees_watchCheck h

@[simp] theorem withRace_watch (r : RaceState) (g : Gist) : (g.withRace r).watch = g.watch := by
  unfold Gist.withRace
  split <;> rfl

theorem Sees.putReply {s t : State} (h : Sees s t) (f : Frame) (c : ReplyCode) (x : List Byte) : Sees s (putReply f c x t) :=
  ⟨h.idle, h.pending⟩

/-- A request is seen where its effect on the state behind the taking of the frame is. -/
theorem sees_request {kind : Byte} {mine : List Byte → Bool} {lengthOk : Nat → Bool} {bad : State → List Byte}
    {act : Frame → State → State} {s : State} (hact : ∀ f t, Sees t (act f t)) :
    NextMeets (Sees s) (.next (takeRequest kind mine lengthOk bad act s)) := by
  have popped {t : State} (h : Sees (popRequest s) t) : Sees s t := ⟨h.idle, h.pending⟩
  refine (nextMeets_next _ _).mpr ?_
  obtain h | ⟨f, -, -, -, ⟨-, h⟩ | ⟨-, h⟩⟩ := takeRequest_cases kind mine lengthOk bad act s <;> rw [h]
  · exact sees_of_gist rfl
  · exact popped (hact f _)
  · exact popped ((sees_of_gist rfl).putReply _ _ _)

/-- A refusal is seen: it changes neither the vector nor the watch. -/
theorem sees_refused (f : Frame) (c : ReplyCode) (x : List Byte) (s : State) : Sees s (putReply f c x s) :=
  (sees_of_gist rfl).putReply f c x

/-! ### Capture events and the backup window -/

theorem FinishStep.sees {n : Nat} {news : List LaneState} {s t : State} (h : FinishStep n news s.gist t.gist) :
    Sees s (watchCheck t) := sees_watchCheck h.watch

theorem sees_takeCapture (c : CaptureEvent) (s : State) : Sees s (takeCapture c s) := by
  have watch {t : State} (h : t.gist = s.gist) : t.link.watch = s.link.watch := congrArg Gist.watch h
  cases c with
  | padMake n p e =>
    obtain h | ⟨-, h⟩ := finishStep_takePadMake n p e s
    · exact sees_watchCheck (watch h)
    · exact h.sees
  | buttonPress n b e =>
    obtain h | ⟨-, h⟩ := finishStep_takeButtonPress n b e s
    · exact sees_watchCheck (watch h)
    · exact h.sees
  | blockLoad n e => exact sees_of_gist (gist_takeBlockLoad n s)
  | blockRelease n e => exact sees_of_gist (gist_takeBlockRelease n e s)
  | start e =>
    refine sees_watchCheck ?_
    unfold takeStart
    split
    next h => exact (gist_startRace h.1).watch
    · exact watch (gist_handNotice ..)

theorem execEdgeConfirmed_sees (n : Nat) (high : Bool) (s : State) : NextMeets (Sees s) (execEdgeConfirmed n high s) := by
  unfold execEdgeConfirmed
  dsimp only
  (repeat' split) <;> simp
  · next e _ =>
    unfold confirmEdge
    dsimp only
    split
    · have taken := sees_takeCapture ‹_› ((s.sampleLine n high).updLine n
        (Line.confirmed (lineClass n) e (s.sampleLine n high).tick (s.sampleLine n high).tested.padHold))
      exact ⟨taken.idle, taken.pending⟩
    · exact sees_of_gist rfl
  · exact sees_of_gist rfl

theorem finishStep_windowExpiry (n : Nat) (s : State) :
    FinishStep n [.finished, .review] s.gist (endOfRaceCheck (resolveLane n s)).gist :=
  (finishStep_resolveLane (by simp) (by simp) s).trans (finishStep_endOfRaceCheck n _ _)

theorem execBackupWindowExpiry_sees (n : Nat) (s : State) : NextMeets (Sees s) (execBackupWindowExpiry n s) := by
  unfold execBackupWindowExpiry
  (repeat' split)
  · simp
  · exact (nextMeets_next _ _).mpr (finishStep_windowExpiry n s).sees
  · exact (nextMeets_next _ _).mpr (sees_of_gist rfl)

/-! ### The requests of the Race Engine -/

theorem actLoadEvent_sees (f : Frame) (s : State) : Sees s (actLoadEvent f s) := by
  unfold actLoadEvent
  split
  · exact sees_refused ..
  · split
    · exact sees_refused ..
    · dsimp only
      refine (sees_watchCheck_gist ?_).putReply _ _ _
      rw [gist_setRaceState, gist_clearField, withRace_watch]

theorem actSetLane_sees (f : Frame) (s : State) : Sees s (actSetLane f s) := by
  unfold actSetLane
  dsimp only
  (repeat' split)
  all_goals try exact sees_refused ..
  all_goals
    refine (sees_watchCheck_gist ?_).putReply _ _ _
    rw [gist_markLaneRow, gist_updLane (by exact fun _ => rfl), gist_setLaneState]
    rfl

theorem actSetRecord_sees (f : Frame) (s : State) : Sees s (actSetRecord f s) := by
  unfold actSetRecord
  dsimp only
  (repeat' split)
  all_goals exact sees_of_quiet rfl rfl

theorem actArm_sees (f : Frame) (s : State) : Sees s (actArm f s) := by
  unfold actArm
  dsimp only
  (repeat' split)
  · exact sees_refused ..
  · exact sees_refused ..
  · refine (sees_watchCheck_gist ?_).putReply _ _ _
    have moved := moves_forEach (repeats_fromTo (by decide)) (f := armLane) (ns := laneNumbers) (fun n _ u => moves_armLane n u) s
    rw [gist_setRaceState, withRace_watch, moved.watch]

theorem actRecall_sees (f : Frame) (s : State) : Sees s (actRecall f s) := by
  unfold actRecall
  split
  · refine (sees_watchCheck_gist ?_).putReply _ _ _
    have moved := moves_forEach (repeats_fromTo (by decide)) (f := recallArmedLane) (ns := laneNumbers)
      (fun n _ u => moves_recallArmedLane n u) s
    rw [gist_setRaceState, withRace_watch, moved.watch]
  next h =>
    split
    · exact sees_refused ..
    · exact (sees_watchCheck (congrArg Gist.watch (gist_recallRunning h))).putReply _ _ _
  · exact sees_refused ..

theorem actStop_sees (f : Frame) (s : State) : Sees s (actStop f s) := by
  unfold actStop
  dsimp only
  split
  · exact sees_refused ..
  · obtain ⟨g, resolved, stopped⟩ := moves_stopped (s.lanesIn .finishing) (s.lanesIn .swimming) s
    refine (sees_watchCheck_gist ?_).putReply _ _ _
    rw [gist_setRaceState, withRace_watch, stopped.watch, resolved.watch]

theorem actClose_sees (f : Frame) (s : State) : Sees s (actClose f s) := by
  unfold actClose
  dsimp only
  (repeat' split)
  · exact sees_refused ..
  · exact sees_refused ..
  · refine (sees_watchCheck_gist ?_).putReply _ _ _
    rw [gist_setRaceState, withRace_watch]

theorem actAdjustPlus_sees (f : Frame) (s : State) : Sees s (actAdjustPlus f s) := by
  unfold actAdjustPlus
  dsimp only
  split
  · exact sees_refused ..
  · exact (sees_of_gist (by rw [gist_syncFinalLength, gist_appendSplit])).putReply _ _ _

theorem actAdjustMinus_sees (f : Frame) (s : State) : Sees s (actAdjustMinus f s) := by
  unfold actAdjustMinus
  dsimp only
  split
  · exact sees_refused ..
  · exact (sees_of_gist (gist_removeTail ..)).putReply _ _ _

theorem actAdjudicate_sees (f : Frame) (s : State) : Sees s (actAdjudicate f s) := by
  unfold actAdjudicate
  dsimp only
  split
  · exact (sees_watchCheck (congrArg Gist.watch (gist_adjudicateLane ..))).putReply _ _ _
  · exact sees_refused ..
  · exact sees_refused ..

theorem actDeclare_sees (rok : RaceState → Bool) (lok : Lane → Bool) {effect : Nat → State → State}
    (he : ∀ n u, (effect n u).link.watch = u.link.watch) (f : Frame) (s : State) : Sees s (actDeclare rok lok effect f s) := by
  unfold actDeclare
  dsimp only
  split
  · exact sees_refused ..
  · exact (sees_watchCheck (he _ s)).putReply _ _ _

/-! ### The watch requests and the other blocks -/

theorem actWatch_keepsOrSets (f : Frame) (s : State) :
    (actWatch f s).vector = s.vector
    ∧ ((actWatch f s).link.watch = s.link.watch
      ∨ (s.link.watch = none ∧ (actWatch f s).link.watch = some { tag := f.tag, snapshot := s.vector })) := by
  unfold actWatch
  (repeat' split)
  · exact ⟨rfl, .inl rfl⟩
  · exact ⟨rfl, .inl rfl⟩
  next hfree hsame =>
    refine ⟨rfl, .inr ⟨by simpa using (not_or.mp hfree).1, ?_⟩⟩
    rw [← not_not.mp hsame]
    rfl

theorem linkClosed_watch (w : Option Watch) : LinkClosed (fun k => k.watch = w) where
  notice _ _ _ h := (withNotice_watch ..).trans h
  alarm _ _ _ _ h := (withAlarm_watch ..).1.trans h
  pop _ h := h
  taken _ _ h := h
  slots _ _ _ _ _ h := h
  dequeue _ h := h
  receiver _ _ h := h
  join _ _ _ h := h
  flags _ _ _ _ h := h

theorem exec_vector {c : Instr} (hrace : movesRace c = false) (hp : ∀ p, c ≠ .powerOn p) (hr : c ≠ .resetTakesEffect)
    (s : State) : NextMeets (fun t => t.vector = s.vector) (exec c s) := by
  have untouched (hrace : .race ∉ touches c) (hlanes : .lanes ∉ touches c) :
      NextMeets (fun t => t.vector = s.vector) (exec c s) :=
    nextMeets_of_touches fun t ht => by
      have race : t.race = s.race := ht .race hrace
      have lanes : t.lanes = s.lanes := ht .lanes hlanes
      simp only [State.vector, race, lanes]
  cases c with
  | clockLimit =>
    change NextMeets _ (execClockLimit s)
    unfold execClockLimit
    split
    · exact (nextMeets_next _ _).mpr (vector_of_gist (gist_handAlarm ..) |>.trans rfl)
    · exact (nextMeets_next _ _).mpr rfl
  | powerOn p => exact absurd rfl (hp p)
  | resetTakesEffect => exact absurd rfl hr
  | edgeConfirmed | backupWindowExpiry | loadEvent | setLane | setRecord | clearRace | arm | recallRace | stopRace
  | adjustLengthPlusOne | adjustLengthMinusOne | adjudicate | declareDns | declareDnf | declareDq | declareReinstate
  | close => cases hrace
  | _ => exact untouched (by simp [touches]) (by simp [touches])

/-- A pending watch sees what any command does, but for those that end or set one whatever the vector. -/
theorem exec_sees {c : Instr} (hp : ∀ p, c ≠ .powerOn p) (hr : c ≠ .resetTakesEffect) (hcancel : c ≠ .cancelWatch)
    (hclear : c ≠ .clearRace) (hwatch : c ≠ .watch) (s : State) : NextMeets (Sees s) (exec c s) := by
  by_cases hrace : movesRace c = true
  · cases c with
    | edgeConfirmed n high => exact execEdgeConfirmed_sees n high s
    | backupWindowExpiry n => exact execBackupWindowExpiry_sees n s
    | loadEvent => exact sees_request actLoadEvent_sees
    | setLane => exact sees_request actSetLane_sees
    | setRecord => exact sees_request actSetRecord_sees
    | clearRace => exact absurd rfl hclear
    | arm => exact sees_request actArm_sees
    | recallRace => exact sees_request actRecall_sees
    | stopRace => exact sees_request actStop_sees
    | close => exact sees_request actClose_sees
    | adjustLengthPlusOne => exact sees_request actAdjustPlus_sees
    | adjustLengthMinusOne => exact sees_request actAdjustMinus_sees
    | adjudicate => exact sees_request actAdjudicate_sees
    | declareDns => exact sees_request (actDeclare_sees _ _ fun n u => (finishStep_declareDnsLane n u).watch)
    | declareDnf => exact sees_request (actDeclare_sees _ _ fun n u => (finishStep_declareDnfLane n u).watch)
    | declareDq => exact sees_request (actDeclare_sees _ _ fun n u => congrArg Gist.watch (gist_declareDqLane n u))
    | declareReinstate =>
      exact sees_request (actDeclare_sees _ _ fun n u => congrArg Gist.watch (gist_declareReinstateLane n u))
    | _ => cases hrace
  have hrace : movesRace c = false := by simpa using hrace
  have vector := exec_vector hrace hp hr s
  have watch : NextMeets (fun t => t.link.watch = s.link.watch) (exec c s) := by
    by_cases hw : writesWatch c = true
    · cases c with
      | clearAlarms => exact (linkClosed_watch _).request rfl fun f t ht => ht
      | watch => exact absurd rfl hwatch
      | cancelWatch => exact absurd rfl hcancel
      | powerOn p => exact absurd rfl (hp p)
      | resetTakesEffect => exact absurd rfl hr
      | _ => cases hw
    · exact (linkClosed_watch s.link.watch).exec hrace (by simpa using hw) rfl
  exact fun t ht => sees_of_quiet (vector t ht) (watch t ht)

/-- What WATCH does to the vector and the watch (R171). -/
theorem exec_watch_keepsOrSets (s : State) :
    NextMeets (fun t => t.vector = s.vector ∧ (t.link.watch = s.link.watch
      ∨ (s.link.watch = none ∧ ∃ tag, t.link.watch = some { tag := tag, snapshot := s.vector }))) (exec .watch s) := by
  refine (nextMeets_next _ _).mpr ?_
  obtain h | ⟨f, -, -, -, ⟨-, h⟩ | ⟨-, h⟩⟩ := takeRequest_cases 0x18 (fun _ => true) (fun n => decide (n = 11)) (fun _ => [])
    actWatch s <;> rw [takePlain, h]
  · exact ⟨rfl, .inl rfl⟩
  · obtain ⟨hv, hw | ⟨hn, hw⟩⟩ := actWatch_keepsOrSets f (popRequest s)
    · exact ⟨hv, .inl hw⟩
    · exact ⟨hv, .inr ⟨hn, f.tag, hw⟩⟩
  · exact ⟨rfl, .inl rfl⟩

/-- Settles O49, by what each command does to the gist before the watch check. -/
theorem pendingWatchSeesEveryChange : Obligations.PendingWatchSeesEveryChange := by
  unfold Obligations.PendingWatchSeesEveryChange
  intro c s t w ht hw hs hp hr hcancel hclear
  by_cases hwatch : c = .watch
  · subst hwatch
    obtain ⟨hv, hkept | ⟨hnone, -⟩⟩ := exec_watch_keepsOrSets s t ht
    · exact ⟨fun _ => hkept.trans hw, fun hne => absurd hv hne⟩
    · rw [hnone] at hw; cases hw
  · exact (exec_sees hp hr hcancel hclear hwatch s t ht).pending w hw hs

/-! ### The watch of every state is current -/

theorem Sees.watchCurrent {s t : State} (h : Sees s t) (hs : WatchCurrent s) : WatchCurrent t := by
  intro w hw
  cases hb : s.link.watch with
  | none => rw [h.idle hb] at hw; cases hw
  | some v =>
    obtain ⟨kept, answered⟩ := h.pending v hb (hs v hb)
    by_cases hv : t.vector = s.vector
    · rw [kept hv] at hw
      cases hw
      exact (hs w hb).trans hv.symm
    · rw [(answered hv).1] at hw; cases hw

theorem watchCurrent_of_none {s : State} (h : s.link.watch = none) : WatchCurrent s := by
  intro w hw
  rw [h] at hw
  cases hw

theorem actClearRace_watch (f : Frame) (s : State) : (actClearRace f s).link.watch = none := by
  have answered (t : State) : (answerClear t).link.watch = none := by
    unfold answerClear
    split
    · rfl
    next h => exact h
  unfold actClearRace
  generalize setRaceState .idle (clearField none s) = t
  exact answered t

theorem actCancelWatch_watch (f : Frame) (s : State) : (actCancelWatch f s).link.watch = none := by
  unfold actCancelWatch
  split
  · rfl
  next h => exact h

/-- A request that ends any pending watch leaves the watch current. -/
theorem watchCurrent_request {kind : Byte} {lengthOk : Nat → Bool} {act : Frame → State → State} {s : State}
    (hs : WatchCurrent s) (hact : ∀ f t, (act f t).link.watch = none) :
    NextMeets WatchCurrent (.next (takePlain kind lengthOk act s)) :=
  (nextMeets_next _ _).mpr (takeRequest_closed WatchCurrent kind _ lengthOk _ act s hs (fun _ h => h) (fun _ _ _ _ h => h)
    fun f t _ => watchCurrent_of_none (hact f t))

theorem exec_watchCurrent (c : Instr) {s : State} (hs : WatchCurrent s) : NextMeets WatchCurrent (exec c s) := by
  by_cases hwatch : c = .watch
  · subst hwatch
    intro t ht w hw
    obtain ⟨hv, hkept | ⟨-, tag, hset⟩⟩ := exec_watch_keepsOrSets s t ht
    · rw [hv]
      exact hs w (hkept ▸ hw)
    · rw [hset] at hw
      cases hw
      exact hv.symm
  by_cases hcancel : c = .cancelWatch
  · subst hcancel
    exact watchCurrent_request hs actCancelWatch_watch
  by_cases hclear : c = .clearRace
  · subst hclear
    exact watchCurrent_request hs actClearRace_watch
  by_cases hr : c = .resetTakesEffect
  · subst hr
    change NextMeets _ (execResetTakesEffect s)
    unfold execResetTakesEffect
    split
    · exact (nextMeets_next _ _).mpr (watchCurrent_of_none rfl)
    · exact (nextMeets_next _ _).mpr hs
  by_cases hp : ∃ p, c = .powerOn p
  · obtain ⟨p, rfl⟩ := hp
    exact (nextMeets_next _ _).mpr (watchCurrent_of_none rfl)
  · exact fun t ht => (exec_sees (fun p h => hp ⟨p, h⟩) hr hcancel hclear hwatch s t ht).watchCurrent hs

/-- Settles O59: the bounds of the link and the snapshot of a pending watch, each kept by every command and by a tick. -/
theorem linkStaysInBounds : Obligations.LinkStaysInBounds := by
  unfold Obligations.LinkStaysInBounds
  exact ⟨fun s t hs h => step_linkInv hs h,
    fun s t hs h => step_keeps (fun _ _ _ _ h => h) (fun c _ h => exec_watchCurrent c h) (fun _ h => h) hs h⟩

end Sys2Proof.Machine
end

section
/-!
The race state, the lane states and the start tick change only as the tables of sections 2.3 and 2.4 list it; the event and the
record slots only by the commands that store them, and the latch of R55 is set by no command.
-/
namespace Sys2Proof.Machine

/-- What the race record keeps at the command `c`: the event and the record slots but at the commands that write them, and the
latch of R55 that no command sets and any change of the race state clears. -/
structure RaceKept (c : Instr) (q r : Race) : Prop where
  event : c ≠ .loadEvent → c ≠ .clearRace → (∀ p, c ≠ .powerOn p) → c ≠ .resetTakesEffect → r.event = q.event
  slots : c ≠ .setRecord → c ≠ .loadEvent → c ≠ .clearRace → (∀ p, c ≠ .powerOn p) → c ≠ .resetTakesEffect → r.slots = q.slots
  past : r.pastLimit = true → q.pastLimit = true ∧ r.state = q.state

theorem raceKept_of_eq {c : Instr} {q r : Race} (event : r.event = q.event) (slots : r.slots = q.slots)
    (past : r.pastLimit = true → q.pastLimit = true ∧ r.state = q.state) : RaceKept c q r :=
  ⟨fun _ _ _ _ => event, fun _ _ _ _ _ => slots, past⟩

theorem RaceKept.refl (c : Instr) (q : Race) : RaceKept c q q := raceKept_of_eq rfl rfl fun h => ⟨h, rfl⟩

theorem raceKept_withRace {c : Instr} {q : Race} {g : Gist} (h : RaceKept c q g.race) (r : RaceState) :
    RaceKept c q (g.withRace r).race := by
  unfold Gist.withRace
  split
  · exact h
  · exact ⟨h.event, h.slots, by simp⟩

/-- The changes of states and start tick from `s` to `t` are those that the tables allow the command `c`. -/
structure TableMoves (c : Instr) (s t : State) : Prop where
  race : t.race.state ≠ s.race.state → raceMove c s.race.state t.race.state
  lanes : ∀ n, (t.lane n).state ≠ (s.lane n).state → laneMove c s.race.state (s.lane n) (t.lane n).state
  start : t.race.startTick ≠ s.race.startTick →
    (s.race.state = .armed ∧ t.race.state = .running)
    ∨ (t.race.startTick = none
      ∧ (c = .recallRace ∨ c = .loadEvent ∨ c = .clearRace ∨ c = .resetTakesEffect ∨ ∃ p, c = .powerOn p))
  kept : RaceKept c s.race t.race

variable {c : Instr} {s t u : State}

/-- The tables look at the gist only. -/
theorem tableMoves_of_gist (race : t.gist.race.state = s.race.state ∨ raceMove c s.race.state t.gist.race.state)
    (lanes : ∀ n, t.gist.stateAt n = (s.lane n).state ∨ laneMove c s.race.state (s.lane n) (t.gist.stateAt n))
    (start : t.gist.race.startTick = s.race.startTick
      ∨ (s.race.state = .armed ∧ t.gist.race.state = .running)
      ∨ (t.gist.race.startTick = none
        ∧ (c = .recallRace ∨ c = .loadEvent ∨ c = .clearRace ∨ c = .resetTakesEffect ∨ ∃ p, c = .powerOn p)))
    (kept : RaceKept c s.gist.race t.gist.race) : TableMoves c s t where
  race h := race.resolve_left h
  lanes n h := by
    have := lanes n
    rw [stateAt_gist] at this
    exact this.resolve_left h
  start h := start.resolve_left h
  kept := ⟨kept.event, kept.slots, kept.past⟩

theorem tableMoves_of_eq (h : t.gist = s.gist) : TableMoves c s t :=
  tableMoves_of_gist (.inl (race_state_of_gist h)) (fun n => .inl (by rw [h, stateAt_gist]))
    (.inl (congrArg (fun g => g.race.startTick) h)) (by rw [h]; exact .refl _ _)

/-- What stands behind the command's own effect, the watch check and the reply, changes neither race nor lanes. -/
theorem TableMoves.of_parts (h : TableMoves c s u) (hr : t.race = u.race) (hl : t.lanes = u.lanes) : TableMoves c s t := by
  have lane (n : Nat) : t.lane n = u.lane n := by simp only [State.lane, hl]
  exact ⟨by rw [hr]; exact h.race, fun n => by rw [lane]; exact h.lanes n, by rw [hr]; exact h.start, by rw [hr]; exact h.kept⟩

theorem TableMoves.watchCheck (h : TableMoves c s u) : TableMoves c s (watchCheck u) := h.of_parts (by simp) (by simp)

theorem TableMoves.putReply (h : TableMoves c s u) (f : Frame) (r : ReplyCode) (x : List Byte) :
    TableMoves c s (putReply f r x u) := h.of_parts rfl rfl

theorem tableMoves_refused (f : Frame) (r : ReplyCode) (x : List Byte) : TableMoves c s (putReply f r x s) :=
  (tableMoves_of_eq rfl).putReply f r x

/-- A request moves states as its effect behind the taking of the frame does. -/
theorem tableMoves_request {kind : Byte} {mine : List Byte → Bool} {lengthOk : Nat → Bool} {bad : State → List Byte}
    {act : Frame → State → State} (hact : ∀ f u, TableMoves c u (act f u)) :
    NextMeets (TableMoves c s) (.next (takeRequest kind mine lengthOk bad act s)) := by
  have popped {t : State} (h : TableMoves c (popRequest s) t) : TableMoves c s t := ⟨h.race, h.lanes, h.start, h.kept⟩
  refine (nextMeets_next _ _).mpr ?_
  obtain h | ⟨f, -, -, -, ⟨-, h⟩ | ⟨-, h⟩⟩ := takeRequest_cases kind mine lengthOk bad act s <;> rw [h]
  · exact tableMoves_of_eq rfl
  · exact popped (hact f _)
  · exact popped (tableMoves_refused _ _ _)

/-- One lane goes to a new state, the race being as it was. -/
theorem tableMoves_withState {n : Nat} {st : LaneState} (h : t.gist = s.gist.withState n st)
    (hm : (s.lane n).state = st ∨ laneMove c s.race.state (s.lane n) st) : TableMoves c s t := by
  refine tableMoves_of_gist (.inl (by rw [h]; rfl)) (fun i => ?_) (.inl (by rw [h]; rfl))
    (by rw [h]; exact .refl _ _)
  rw [h, stateAt_withState]
  split
  next hi =>
    rw [← hi.1]
    exact hm.imp Eq.symm id
  · exact .inl (stateAt_gist s i)

/-- A lane takes a step of its finish, and the race may end with it. -/
theorem FinishStep.tableMoves {n : Nat} {news : List LaneState} (h : FinishStep n news s.gist t.gist)
    (hr : s.race.state = .running → raceMove c .running .unofficial)
    (hl : ∀ st ∈ news, laneMove c s.race.state (s.lane n) st) : TableMoves c s t := by
  refine tableMoves_of_gist ?_ (fun i => ?_) ?_ ?_
  · obtain h | ⟨running, h⟩ := h.race <;> rw [h]
    · exact .inl rfl
    · exact .inr ((show s.race.state = .running from running) ▸ hr running)
  · obtain hs | ⟨st, hst, hs⟩ := h.states
    · exact .inl (by rw [Gist.stateAt, hs]; exact stateAt_gist s i)
    · have moved : t.gist.stateAt i = (s.gist.withState n st).stateAt i := by rw [Gist.stateAt, hs]; rfl
      rw [moved, stateAt_withState]
      split
      next hi => exact .inr (hi.1 ▸ hl st hst)
      · exact .inl (stateAt_gist s i)
  · obtain h | ⟨-, h⟩ := h.race <;> rw [h] <;> exact .inl rfl
  · obtain h | ⟨-, h⟩ := h.race <;> rw [h]
    · exact .refl _ _
    · exact raceKept_of_eq rfl rfl (by simp)

/-! ## Capture events and the backup window -/

/-- A START is delivered by line 60 only, and by no other line. -/
theorem delivered_start_iff {n : Nat} {l : Line} {e : PendingEdge} {g : TriggerEdge} {x : CaptureEvent}
    (h : delivered n l e g = some x) : n = 60 ↔ ∃ tick, x = .start tick := by
  have start_iff : n = 60 ↔ lineClass n = .start := by
    unfold lineClass
    (repeat' split) <;> simp_all
  rw [start_iff]
  unfold delivered at h
  split at h
  · cases h
  · unfold captureOf at h
    (repeat' split at h) <;> cases h <;> simp_all

theorem tableMoves_takeCapture {n : Nat} {high : Bool} {x : CaptureEvent} (hn : n < 61)
    (hx : n = 60 ↔ ∃ tick, x = .start tick) (s : State) : TableMoves (.edgeConfirmed n high) s (takeCapture x s) := by
  have evidence (hx : ¬ ∃ tick, x = .start tick) {m : Nat} {t : State}
      (h : t.gist = s.gist ∨ (((s.lane m).state = .swimming ∨ (s.lane m).state = .finishing)
        ∧ FinishStep m finishStates s.gist t.gist)) : TableMoves (.edgeConfirmed n high) s (watchCheck t) := by
    have hn : n < 60 := by
      have : n ≠ 60 := fun h => hx (‹n = 60 ↔ _›.mp h)
      omega
    obtain h | ⟨hs, h⟩ := h
    · exact (tableMoves_of_eq h).watchCheck
    · refine (h.tableMoves (c := .edgeConfirmed n high) (fun _ => .inr ⟨hn, rfl, rfl⟩)
        fun st hst => .inr ⟨hn, hs, ?_⟩).watchCheck
      simpa using hst
  cases x with
  | padMake m p e => exact evidence (by simp) (finishStep_takePadMake m p e s)
  | buttonPress m b e => exact evidence (by simp) (finishStep_takeButtonPress m b e s)
  | blockLoad m e => exact tableMoves_of_eq (gist_takeBlockLoad m s)
  | blockRelease m e => exact tableMoves_of_eq (gist_takeBlockRelease m e s)
  | start e =>
    have h60 : n = 60 := hx.mpr ⟨e, rfl⟩
    refine TableMoves.watchCheck ?_
    unfold takeStart
    split
    next h =>
      obtain ⟨race, -, -, states⟩ := gist_startRace (e := e) h.1
      refine tableMoves_of_gist ?_ (fun i => ?_) ?_ ?_
      · rw [race, h.1]
        exact .inr (.inl ⟨h60, rfl, rfl⟩)
      · obtain hi | ⟨hset, hswim⟩ := states i
        · exact .inl (hi.symm.trans (stateAt_gist s i))
        · exact .inr (.inl ⟨h60, (stateAt_gist s i).symm.trans hset, hswim⟩)
      · rw [race]
        exact .inr (.inl ⟨h.1, rfl⟩)
      · rw [race]
        exact raceKept_of_eq rfl rfl (by simp)
    · exact tableMoves_of_eq (gist_handNotice ..)

theorem execEdgeConfirmed_tableMoves (n : Nat) (high : Bool) (s : State) :
    NextMeets (TableMoves (.edgeConfirmed n high) s) (execEdgeConfirmed n high s) := by
  unfold execEdgeConfirmed
  split
  · simp
  next hn =>
    have hn : n < 61 := by simpa [Config.lineCount] using hn
    dsimp only
    split <;> refine (nextMeets_next _ _).mpr ?_
    next e _ =>
      unfold confirmEdge
      dsimp only
      split
      next x hd =>
        have taken := tableMoves_takeCapture (high := high) hn (delivered_start_iff hd) ((s.sampleLine n high).updLine n
          (Line.confirmed (lineClass n) e (s.sampleLine n high).tick (s.sampleLine n high).tested.padHold))
        exact ⟨taken.race, taken.lanes, taken.start, taken.kept⟩
      · exact tableMoves_of_eq rfl
    · exact tableMoves_of_eq rfl

theorem execBackupWindowExpiry_tableMoves (n : Nat) (s : State) :
    NextMeets (TableMoves (.backupWindowExpiry n) s) (execBackupWindowExpiry n s) := by
  unfold execBackupWindowExpiry
  split
  · simp
  · split <;> refine (nextMeets_next _ _).mpr ?_
    next h =>
      have finishing : (s.lane n).state = .finishing := by
        unfold windowExpired at h
        split at h
        · exact (of_decide_eq_true h).1
        · cases h
      refine ((finishStep_windowExpiry n s).tableMoves (c := .backupWindowExpiry n) (fun _ => ⟨rfl, rfl⟩)
        fun st hst => ⟨finishing, ?_⟩).watchCheck
      simpa using hst
    · exact tableMoves_of_eq rfl

/-! ## The requests -/

theorem withRace_states (r : RaceState) (g : Gist) : (g.withRace r).states = g.states := by
  unfold Gist.withRace
  split <;> rfl

theorem withRace_race_state (r : RaceState) (g : Gist) : (g.withRace r).race.state = r := by
  unfold Gist.withRace
  split
  next h => exact h
  · rfl

theorem withRace_startTick (r : RaceState) (g : Gist) : (g.withRace r).race.startTick = g.race.startTick := by
  unfold Gist.withRace
  split <;> rfl

/-- The clearing of the field with a change of the race state. -/
theorem tableMoves_cleared {e : Option EventDesc} {r : RaceState} (hc : c = .loadEvent ∨ c = .clearRace)
    (hr : s.race.state = r ∨ raceMove c s.race.state r) (hl : ∀ l, laneMove c s.race.state l .vacant) :
    TableMoves c s (setRaceState r (clearField e s)) := by
  have gist := (gist_setRaceState r (clearField e s)).trans (congrArg (Gist.withRace r) (gist_clearField e s))
  refine tableMoves_of_gist ?_ (fun i => .inr ?_) (.inr (.inr ⟨?_, ?_⟩)) ?_
  · rw [gist, withRace_race_state]
    exact hr.imp Eq.symm id
  · rw [Gist.stateAt, gist, withRace_states, stateAt_map_vacant]
    exact hl _
  · rw [gist, withRace_startTick]
    rfl
  · obtain rfl | rfl := hc <;> simp
  · rw [gist]
    refine raceKept_withRace ⟨fun h1 h2 => ?_, fun _ h1 h2 => ?_, by simp [Race.cleared]⟩ r <;> exact absurd hc (not_or.mpr ⟨h1, h2⟩)

theorem actLoadEvent_tableMoves (f : Frame) (s : State) : TableMoves .loadEvent s (actLoadEvent f s) := by
  unfold actLoadEvent
  split
  · exact tableMoves_refused ..
  next hs =>
    split
    · exact tableMoves_refused ..
    · refine (tableMoves_cleared (.inl rfl) ?_ fun _ => rfl).watchCheck.putReply _ _ _
      by_cases hl : s.race.state = .loaded
      · exact .inl hl
      · refine .inr ⟨?_, rfl⟩
        by_contra hne
        exact hs ⟨fun h => hne (.inl h), hl, fun h => hne (.inr h)⟩

theorem answerClear_parts (s : State) : (answerClear s).race = s.race ∧ (answerClear s).lanes = s.lanes := by simp

theorem actClearRace_tableMoves (f : Frame) (s : State) : TableMoves .clearRace s (actClearRace f s) := by
  obtain ⟨race, lanes⟩ := answerClear_parts (setRaceState .idle (clearField none s))
  exact (TableMoves.of_parts (tableMoves_cleared (.inr rfl) (.inr rfl) fun _ => rfl) race lanes).putReply _ _ _

theorem actSetLane_tableMoves (f : Frame) (s : State) : TableMoves .setLane s (actSetLane f s) := by
  unfold actSetLane
  dsimp only
  split
  · exact tableMoves_refused ..
  split
  · exact tableMoves_refused ..
  split
  · exact tableMoves_refused ..
  split
  · exact tableMoves_refused ..
  next hstate =>
    have hold : (s.lane (byteAt f.payload 0).toNat).state = .vacant ∨ (s.lane (byteAt f.payload 0).toNat).state = .ready := by
      by_contra h
      exact hstate (not_or.mp h)
    refine TableMoves.putReply (TableMoves.watchCheck (tableMoves_withState (n := (byteAt f.payload 0).toNat)
      (st := if byteAt f.payload 1 = 1 then .ready else .vacant) ?_ ?_)) _ _ _
    · rw [gist_markLaneRow, gist_updLane (by exact fun _ => rfl), gist_setLaneState]
    · obtain h | h := hold <;> split <;> simp [h, laneMove]

theorem actSetRecord_tableMoves (f : Frame) (s : State) : TableMoves .setRecord s (actSetRecord f s) := by
  have same {t : State} (hs : { t.race with slots := s.race.slots } = s.race) (hl : t.lanes = s.lanes) :
      TableMoves .setRecord s t :=
    have state : t.race.state = s.race.state := by rw [← hs]
    have start : t.race.startTick = s.race.startTick := by rw [← hs]
    have event : t.race.event = s.race.event := by rw [← hs]
    have past : t.race.pastLimit = s.race.pastLimit := by rw [← hs]
    ⟨fun h => absurd state h, fun n h => absurd (by simp only [State.lane, hl]) h, fun h => absurd start h,
      fun _ _ _ _ => event, fun h => absurd rfl h, fun h => ⟨past ▸ h, state⟩⟩
  unfold actSetRecord
  dsimp only
  (repeat' split) <;> exact same rfl rfl

/-- The lanes move as the table of the command allows, and then the race changes its state. -/
theorem tableMoves_moved {M : Nat → LaneState → LaneState → Prop} {r : RaceState} (hm : s.gist.Moves M u.gist)
    (ht : t.gist = u.gist.withRace r) (hr : raceMove c s.race.state r)
    (hl : ∀ i a b, M i a b → a = b ∨ ∀ l : Lane, l.state = a → laneMove c s.race.state l b) : TableMoves c s t := by
  refine tableMoves_of_gist ?_ (fun i => ?_) ?_ ?_
  · rw [ht, withRace_race_state]
    exact .inr hr
  · rw [Gist.stateAt, ht, withRace_states, ← Gist.stateAt]
    obtain h | h := hl i _ _ (hm.states i)
    · exact .inl (h.symm.trans (stateAt_gist s i))
    · exact .inr (h (s.lane i) (stateAt_gist s i).symm)
  · rw [ht, withRace_startTick, hm.race]
    exact .inl rfl
  · rw [ht]
    exact raceKept_withRace (hm.race ▸ .refl _ _) r

theorem actArm_tableMoves (f : Frame) (s : State) : TableMoves .arm s (actArm f s) := by
  unfold actArm
  dsimp only
  split
  · exact tableMoves_refused ..
  next hs =>
    have loaded : s.race.state = .loaded := not_not.mp hs
    split
    · exact tableMoves_refused ..
    · refine TableMoves.putReply (TableMoves.watchCheck (tableMoves_moved (c := .arm)
        (moves_forEach (repeats_fromTo (by decide)) (f := armLane) (ns := laneNumbers) (fun n _ u => moves_armLane n u) s)
        (gist_setRaceState _ _) ⟨loaded, rfl⟩ ?_)) _ _ _
      rintro i a b (rfl | ⟨rfl, rfl⟩)
      · exact .inl rfl
      · exact .inr fun l hl => ⟨hl, rfl⟩

theorem recallRunning_stateAt (s : State) (i : Nat) :
    (s.lanes.map fun l => l.recallRunning.state).getD i .vacant = (s.lane i).recallRunning.state := by
  simp only [State.lane, List.getD_eq_getElem?_getD, List.getElem?_map]
  cases s.lanes[i]? <;> rfl

theorem recallRunning_state (l : Lane) :
    l.recallRunning.state = l.state ∨ (l.state ≠ .vacant ∧ l.stateAtArm = some l.recallRunning.state) := by
  unfold Lane.recallRunning
  split
  · exact .inl rfl
  next h =>
    cases hs : l.stateAtArm with
    | none => exact .inl rfl
    | some st => exact .inr ⟨h, rfl⟩

theorem actRecall_tableMoves (f : Frame) (s : State) : TableMoves .recallRace s (actRecall f s) := by
  unfold actRecall
  split
  next h =>
    refine TableMoves.putReply (TableMoves.watchCheck (tableMoves_moved (c := .recallRace)
      (moves_forEach (repeats_fromTo (by decide)) (f := recallArmedLane) (ns := laneNumbers)
        (fun n _ u => moves_recallArmedLane n u) s)
      (gist_setRaceState _ _) ⟨.inl h, rfl⟩ ?_)) _ _ _
    rintro i a b (rfl | ⟨rfl, rfl⟩)
    · exact .inl rfl
    · exact .inr fun l hl => .inl ⟨h, hl, rfl⟩
  next h =>
    split
    · exact tableMoves_refused ..
    · refine TableMoves.putReply (TableMoves.watchCheck ?_) _ _ _
      have gist := gist_recallRunning h
      refine tableMoves_of_gist ?_ (fun i => ?_) ?_ ?_
      · rw [gist, h]
        exact .inr ⟨.inr rfl, rfl⟩
      · rw [Gist.stateAt, gist, recallRunning_stateAt]
        exact (recallRunning_state (s.lane i)).imp id fun hm => .inr ⟨h, hm⟩
      · rw [gist]
        exact .inr (.inr ⟨rfl, .inl rfl⟩)
      · rw [gist]
        exact raceKept_of_eq rfl rfl (by simp)
  · exact tableMoves_refused ..

theorem mem_lanesIn {s : State} {st : LaneState} {n : Nat} (h : n ∈ s.lanesIn st) : (s.lane n).state = st :=
  of_decide_eq_true (List.mem_filter.mp h).2

theorem actStop_tableMoves (f : Frame) (s : State) : TableMoves .stopRace s (actStop f s) := by
  unfold actStop
  dsimp only
  split
  · exact tableMoves_refused ..
  next hs =>
    have running : s.race.state = .running := not_not.mp hs
    refine TableMoves.putReply (TableMoves.watchCheck ?_) _ _ _
    obtain ⟨g, resolved, stopped⟩ := moves_stopped (s.lanesIn .finishing) (s.lanesIn .swimming) s
    have gist := gist_setRaceState .unofficial
      (stopLaneLamps (forEach (s.lanesIn .swimming) dnfLane (forEach (s.lanesIn .finishing) resolveLane s)))
    refine tableMoves_of_gist ?_ (fun i => ?_) ?_ ?_
    · rw [gist, withRace_race_state, running]
      exact .inr ⟨rfl, rfl⟩
    · rw [Gist.stateAt, gist, withRace_states, ← Gist.stateAt]
      obtain h | ⟨hi, h⟩ := stopped.states i
      · rw [← h]
        obtain h | ⟨hi, h⟩ := resolved.states i
        · exact .inl (h.symm.trans (stateAt_gist s i))
        · exact .inr (.inl ⟨mem_lanesIn hi, by simpa using h⟩)
      · exact .inr (.inr ⟨mem_lanesIn hi, by simpa using h⟩)
    · rw [gist, withRace_startTick, stopped.race, resolved.race]
      exact .inl rfl
    · rw [gist]
      exact raceKept_withRace (by rw [stopped.race, resolved.race]; exact .refl _ _) _

theorem actClose_tableMoves (f : Frame) (s : State) : TableMoves .close s (actClose f s) := by
  unfold actClose
  dsimp only
  split
  · exact tableMoves_refused ..
  next hs =>
    split
    · exact tableMoves_refused ..
    · have kept : Repeats fun _ (a b : LaneState) => a = b := ⟨fun _ _ => rfl, fun _ _ _ _ => Eq.trans⟩
      exact (tableMoves_moved (c := .close) (Gist.Moves.refl kept s.gist) (gist_setRaceState .official s) ⟨not_not.mp hs, rfl⟩
        fun i a b h => .inl h).watchCheck.putReply _ _ _

theorem actAdjustPlus_tableMoves (f : Frame) (s : State) : TableMoves c s (actAdjustPlus f s) := by
  unfold actAdjustPlus
  dsimp only
  split
  · exact tableMoves_refused ..
  · exact (tableMoves_of_eq (by rw [gist_syncFinalLength, gist_appendSplit])).putReply _ _ _

theorem actAdjustMinus_tableMoves (f : Frame) (s : State) : TableMoves c s (actAdjustMinus f s) := by
  unfold actAdjustMinus
  dsimp only
  split
  · exact tableMoves_refused ..
  · exact (tableMoves_of_eq (gist_removeTail ..)).putReply _ _ _

theorem adjudicateCheck_state {p : List Byte} {s : State} (h : adjudicateCheck p s = none) :
    (s.lane (byteAt p 0).toNat).state = .finished ∨ (s.lane (byteAt p 0).toNat).state = .review := by
  unfold adjudicateCheck at h
  dsimp only at h
  (repeat' split at h) <;> cases h
  next hstate _ _ _ =>
    by_contra hne
    exact hstate (not_or.mp hne)

theorem actAdjudicate_tableMoves (f : Frame) (s : State) : TableMoves .adjudicate s (actAdjudicate f s) := by
  unfold actAdjudicate
  dsimp only
  split
  next hc _ =>
    refine TableMoves.putReply (TableMoves.watchCheck (tableMoves_withState (gist_adjudicateLane ..) ?_)) _ _ _
    exact (adjudicateCheck_state hc).imp id fun h => ⟨h, rfl⟩
  · exact tableMoves_refused ..
  · exact tableMoves_refused ..

theorem declareCheck_states {rok : RaceState → Bool} {lok : Lane → Bool} {p : List Byte} {s : State}
    (h : declareCheck rok lok p s = none) : rok s.race.state = true ∧ lok (s.lane (byteAt p 0).toNat) = true := by
  unfold declareCheck at h
  dsimp only at h
  (repeat' split at h) <;> simp_all

theorem actDeclare_tableMoves {rok : RaceState → Bool} {lok : Lane → Bool} {effect : Nat → State → State}
    (he : ∀ n u, rok u.race.state = true → lok (u.lane n) = true → TableMoves c u (effect n u)) (f : Frame) (s : State) :
    TableMoves c s (actDeclare rok lok effect f s) := by
  unfold actDeclare
  dsimp only
  split
  · exact tableMoves_refused ..
  next hc =>
    obtain ⟨hr, hl⟩ := declareCheck_states hc
    exact (he _ s hr hl).watchCheck.putReply _ _ _

/-! ## Every command -/

/-- A command of another block keeps the race and the lanes, CLOCK_LIMIT apart, which sets the mark. -/
theorem exec_statesKept {c : Instr} (hrace : movesRace c = false) (hp : ∀ p, c ≠ .powerOn p) (hr : c ≠ .resetTakesEffect)
    (s : State) : NextMeets (TableMoves c s) (exec c s) := by
  have untouched (hrace : .race ∉ touches c) (hlanes : .lanes ∉ touches c) : NextMeets (TableMoves c s) (exec c s) :=
    nextMeets_of_touches fun t ht => (tableMoves_of_eq rfl).of_parts (ht .race hrace) (ht .lanes hlanes)
  cases c with
  | clockLimit =>
    change NextMeets _ (execClockLimit s)
    unfold execClockLimit
    split <;> refine (nextMeets_next _ _).mpr ?_
    · rw [handAlarm_eq]
      exact ⟨fun h => absurd rfl h, fun n h => absurd rfl h, fun h => absurd rfl h, raceKept_of_eq rfl rfl fun h => ⟨h, rfl⟩⟩
    · exact tableMoves_of_eq rfl
  | powerOn p => exact absurd rfl (hp p)
  | resetTakesEffect => exact absurd rfl hr
  | edgeConfirmed | backupWindowExpiry | loadEvent | setLane | setRecord | clearRace | arm | recallRace | stopRace
  | adjustLengthPlusOne | adjustLengthMinusOne | adjudicate | declareDns | declareDnf | declareDq | declareReinstate
  | close => cases hrace
  | _ => exact untouched (by simp [touches]) (by simp [touches])

theorem lane_powerOn (p : Pins) (s : State) (n : Nat) : (powerOn p s).lane n = Lane.blank := by
  simp only [State.lane, powerOn, List.getD_eq_getElem?_getD, List.getElem?_replicate]
  split <;> rfl

theorem tableMoves_powerOn (p : Pins) (hc : c = .resetTakesEffect ∨ ∃ q, c = .powerOn q) (s : State) :
    TableMoves c s (powerOn p s) where
  race _ := by obtain rfl | ⟨q, rfl⟩ := hc <;> rfl
  lanes n _ := by
    rw [lane_powerOn]
    obtain rfl | ⟨q, rfl⟩ := hc <;> rfl
  start _ := .inr ⟨rfl, .inr (.inr (.inr hc))⟩
  kept := by
    refine ⟨fun _ _ hp hr => ?_, fun _ _ _ hp hr => ?_, by simp [powerOn, Race.cleared]⟩ <;>
      exact absurd hc (not_or.mpr ⟨hr, fun ⟨q, h⟩ => hp q h⟩)

theorem exec_tableMoves (c : Instr) (s : State) : NextMeets (TableMoves c s) (exec c s) := by
  by_cases hp : ∃ p, c = .powerOn p
  · obtain ⟨p, rfl⟩ := hp
    exact (nextMeets_next _ _).mpr (tableMoves_powerOn p (.inr ⟨p, rfl⟩) s)
  by_cases hr : c = .resetTakesEffect
  · subst hr
    change NextMeets _ (execResetTakesEffect s)
    unfold execResetTakesEffect
    split
    · exact (nextMeets_next _ _).mpr (tableMoves_powerOn s.pins (.inl rfl) s)
    · exact (nextMeets_next _ _).mpr (tableMoves_of_eq rfl)
  by_cases hrace : movesRace c = true
  · cases c with
    | edgeConfirmed n high => exact execEdgeConfirmed_tableMoves n high s
    | backupWindowExpiry n => exact execBackupWindowExpiry_tableMoves n s
    | loadEvent => exact tableMoves_request actLoadEvent_tableMoves
    | setLane => exact tableMoves_request actSetLane_tableMoves
    | setRecord => exact tableMoves_request actSetRecord_tableMoves
    | clearRace => exact tableMoves_request actClearRace_tableMoves
    | arm => exact tableMoves_request actArm_tableMoves
    | recallRace => exact tableMoves_request actRecall_tableMoves
    | stopRace => exact tableMoves_request actStop_tableMoves
    | close => exact tableMoves_request actClose_tableMoves
    | adjustLengthPlusOne => exact tableMoves_request actAdjustPlus_tableMoves
    | adjustLengthMinusOne => exact tableMoves_request actAdjustMinus_tableMoves
    | adjudicate => exact tableMoves_request actAdjudicate_tableMoves
    | declareDns =>
      refine tableMoves_request (actDeclare_tableMoves fun n u _ hl => ?_)
      refine (finishStep_declareDnsLane n u).tableMoves (c := .declareDns) (fun _ => ⟨rfl, rfl⟩) fun st hst => ⟨?_, by simpa using hst⟩
      exact of_decide_eq_true hl
    | declareDnf =>
      refine tableMoves_request (actDeclare_tableMoves fun n u _ hl => ?_)
      refine (finishStep_declareDnfLane n u).tableMoves (c := .declareDnf) (fun _ => ⟨rfl, rfl⟩) fun st hst => ⟨?_, by simpa using hst⟩
      exact of_decide_eq_true hl
    | declareDq =>
      exact tableMoves_request (actDeclare_tableMoves fun n u _ _ => tableMoves_of_eq (gist_declareDqLane n u))
    | declareReinstate =>
      exact tableMoves_request (actDeclare_tableMoves fun n u _ _ => tableMoves_of_eq (gist_declareReinstateLane n u))
    | _ => cases hrace
  · exact exec_statesKept (by simpa using hrace) (fun p h => hp ⟨p, h⟩) hr s

/-- Settles O37, command by command, by what each makes of the gist. -/
theorem statesChangeAsTheTablesSay : Obligations.StatesChangeAsTheTablesSay := by
  unfold Obligations.StatesChangeAsTheTablesSay
  intro c s t ht
  obtain ⟨race, lanes, start, -⟩ := exec_tableMoves c s t ht
  exact ⟨race, lanes, start⟩

end Sys2Proof.Machine
end

section
/-!
Each setting changes only by its own command: options, row mask, footer text, record slots, event, alarm list, straps.
-/
namespace Sys2Proof.Machine

/-! ## The settings of the Board Link Controller -/

/-- The row masks and the footer text. -/
def Board.fittings (b : Board) : List Bool × List Byte := (b.mask, b.footer)

@[simp] theorem marked_fittings (r : Nat) (b : Board) : (b.marked r).fittings = b.fittings := by
  unfold Board.marked
  split <;> rfl

@[simp] theorem markedAll_fittings (rs : List Nat) (b : Board) : (b.markedAll rs).fittings = b.fittings := by
  induction rs generalizing b with
  | nil => rfl
  | cons r rs ih => exact (ih (b.marked r)).trans (marked_fittings r b)

@[simp] theorem released_fittings (b : Board) : b.released.fittings = b.fittings := rfl

@[simp] theorem completeBoard_fittings (x : Sending) (b : Board) : (completeBoard x b).fittings = b.fittings := rfl

@[simp] theorem driveByte_fittings (b : Byte) (s : State) : (driveByte b s).board.fittings = s.board.fittings := rfl

@[simp] theorem driveStb_fittings (level : Bool) (s : State) : (driveStb level s).board.fittings = s.board.fittings := rfl

@[simp] theorem enterPhase_fittings (p : BytePhase) (x : Sending) (s : State) :
    (enterPhase p x s).board.fittings = s.board.fittings := rfl

@[simp] theorem beginByte_fittings (x : Sending) (s : State) : (beginByte x s).board.fittings = s.board.fittings := by
  unfold beginByte
  split <;> rfl

@[simp] theorem nextByte_fittings (x : Sending) (s : State) : (nextByte x s).board.fittings = s.board.fittings := by
  simp [nextByte]

@[simp] theorem flagStep_fittings (high : Bool) (s : State) : (flagStep high s).board.fittings = s.board.fittings := by
  unfold flagStep
  (repeat' split) <;> simp

@[simp] theorem leaveByYield_fittings (s : State) : (leaveByYield s).board.fittings = s.board.fittings := by
  simp [leaveByYield_eq]

theorem leaveByRelease_fittings (s : State) : (leaveByRelease s).board.fittings = s.board.fittings := by
  cases h : s.share.yieldPending with
  | true => simp [leaveByRelease, h]
  | false => simp [leaveByRelease_eq h]

theorem onRequest_fittings (s : State) : (onRequest s).board.fittings = s.board.fittings := by
  obtain ⟨-, -, -, he⟩ | ⟨-, -, -, he⟩ | ⟨-, -, he⟩ | ⟨-, he⟩ := onRequest_cases s <;> rw [he]
  · simp
  · simp [handBoard_eq]

theorem releaseBoard_fittings (s : State) : (releaseBoard s).board.fittings = s.board.fittings := by
  unfold releaseBoard
  (repeat' split) <;> simp [leaveByRelease_fittings, setOwnership_eq, dropAsk]

/-- The Race Engine marks rows and writes split holds only. -/
theorem raceClosed_fittings (x : List Bool × List Byte) : RaceClosed fun s => s.board.fittings = x where
  race _ _ h := h
  lanes _ _ h := h
  lamps _ _ _ _ _ h := h
  notice k p s h := by rw [handNotice_eq]; exact h
  answer _ _ _ _ h := h
  mark _ _ _ h := h
  hold _ _ _ h := h
  stops _ h := h

/-- Every command but POWER_ON, RESET_TAKES_EFFECT, ROW_MASK and BOARD_TEXT keeps the row masks and the footer. -/
theorem exec_fittings {c : Instr} (hp : ∀ p, c ≠ .powerOn p) (hr : c ≠ .resetTakesEffect) (hm : c ≠ .rowMask)
    (ht : c ≠ .boardText) (s : State) : NextMeets (fun t => t.board.fittings = s.board.fittings) (exec c s) := by
  by_cases hrace : movesRace c = true
  · exact (raceClosed_fittings _).exec (fun _ _ _ h => h) (fun _ _ _ h => h) (fun _ h => h) (fun _ _ _ _ h => h) hrace rfl
  have untouched (hb : .board ∉ touches c) : NextMeets (fun t => t.board.fittings = s.board.fittings) (exec c s) :=
    nextMeets_of_touches fun t ht => congrArg Board.fittings (ht .board hb)
  cases c with
  | powerOn p => exact absurd rfl (hp p)
  | resetTakesEffect => exact absurd rfl hr
  | rowMask => exact absurd rfl hm
  | boardText => exact absurd rfl ht
  | edgeConfirmed | backupWindowExpiry | loadEvent | setLane | setRecord | clearRace | arm | recallRace | stopRace
  | adjustLengthPlusOne | adjustLengthMinusOne | adjudicate | declareDns | declareDnf | declareDq | declareReinstate
  | close => exact absurd rfl hrace
  | headerTenths =>
    change NextMeets _ (execHeaderTenths s)
    unfold execHeaderTenths
    split <;> simp [markRow_eq]
  | runningSeconds =>
    change NextMeets _ (execRunningSeconds s)
    unfold execRunningSeconds
    split <;> simp [forEach_markLaneRow_eq]
  | splitHoldExpiry n =>
    change NextMeets _ (execSplitHoldExpiry n s)
    unfold execSplitHoldExpiry endHold
    (repeat' split) <;> simp [markLaneRow_eq, Board.fittings, State.setHold]
    exact congrArg Prod.fst (marked_fittings _ _)
  | rowStart =>
    change NextMeets _ (execRowStart s)
    unfold execRowStart
    split <;> simp [startRow]
  | settleTimeExpiry =>
    change NextMeets _ (execSettleTimeExpiry s)
    unfold execSettleTimeExpiry
    (repeat' split) <;> simp
  | strobeWidthExpiry =>
    change NextMeets _ (execStrobeWidthExpiry s)
    unfold execStrobeWidthExpiry
    (repeat' split) <;> simp
  | slotExpiry =>
    change NextMeets _ (execSlotExpiry s)
    unfold execSlotExpiry
    (repeat' split) <;> simp [handAlarm_eq, Board.fittings]
  | boardStall =>
    change NextMeets _ (execBoardStall s)
    unfold execBoardStall
    (repeat' split) <;> simp [handAlarm_eq, abandonRow, Board.fittings, driveStb]
  | rowComplete flag =>
    change NextMeets _ (execRowComplete flag s)
    unfold execRowComplete
    dsimp only
    (repeat' split) <;> simp
  | flagWaitMet flag => exact (nextMeets_next _ _).mpr (flagStep_fittings flag _)
  | claimWindowEnd =>
    change NextMeets _ (execClaimWindowEnd s)
    unfold execClaimWindowEnd
    split <;> simp [gainBoard_eq]
    rfl
  | stopAfterRow =>
    change NextMeets _ (execStopAfterRow s)
    unfold execStopAfterRow
    split <;> simp [leaveByRelease_fittings]
  | reqInActive v =>
    change NextMeets _ (execReqInActive v s)
    unfold execReqInActive
    dsimp only
    split <;> simp [onRequest_fittings]
  | boardLost v =>
    change NextMeets _ (execBoardLost v s)
    unfold execBoardLost
    dsimp only
    split <;> simp [setOwnership_eq, handAlarm_eq, loseBoard, abandonRow, Board.fittings, driveStb]
  | boardRelease =>
    exact (nextMeets_next _ _).mpr (takeRequest_closed (fun t => t.board.fittings = s.board.fittings) _ _ _ _ _ s rfl
      (fun _ h => h) (fun _ _ _ _ h => h) fun f t h => (releaseBoard_fittings t).trans h)
  | _ => exact untouched (by simp [touches])

/-- BOARD_TEXT keeps the row masks, and ROW_MASK the footer. -/
theorem exec_boardText_mask (s : State) : NextMeets (fun t => t.board.mask = s.board.mask) (exec .boardText s) := by
  refine (nextMeets_next _ _).mpr (takeRequest_closed (fun t => t.board.mask = s.board.mask) _ _ _ _ _ s rfl
    (fun _ h => h) (fun _ _ _ _ h => h) fun f t h => ?_)
  have kept := congrArg Prod.fst (marked_fittings 11 { t.board with footer := storedText 32 f.payload })
  rw [actBoardText, markRow_eq]
  exact kept.trans h

theorem adjustSlot_footer (n : Nat) (s : State) : (adjustSlot n s).board.footer = s.board.footer := by
  unfold adjustSlot
  dsimp only
  (repeat' split) <;> rfl

theorem exec_rowMask_footer (s : State) : NextMeets (fun t => t.board.footer = s.board.footer) (exec .rowMask s) := by
  refine (nextMeets_next _ _).mpr (takeRequest_closed (fun t => t.board.footer = s.board.footer) _ _ _ _ _ s rfl
    (fun _ h => h) (fun _ _ _ _ h => h) fun f t h => ?_)
  have marked : ∀ (rs : List Nat) (u : State), (forEach rs markAnyRow u).board.footer = u.board.footer := by
    intro rs
    induction rs with
    | nil => exact fun _ => rfl
    | cons r rs ih => exact fun u => ih (markAnyRow r u)
  exact (adjustSlot_footer ..).trans ((marked ..).trans h)

/-! ## The strap of the Board Share Unit -/

theorem leaveByRelease_unitA (s : State) : (leaveByRelease s).share.unitA = s.share.unitA := by
  cases h : s.share.yieldPending with
  | true => simp [leaveByRelease, h, leaveByYield_eq]
  | false => simp [leaveByRelease_eq h]

theorem onRequest_unitA (s : State) : (onRequest s).share.unitA = s.share.unitA := by
  obtain ⟨-, -, -, he⟩ | ⟨-, -, -, he⟩ | ⟨-, -, he⟩ | ⟨-, he⟩ := onRequest_cases s <;> rw [he]
  · simp [leaveByYield_eq]
  · simp [handBoard_eq]

theorem releaseBoard_unitA (s : State) : (releaseBoard s).share.unitA = s.share.unitA := by
  unfold releaseBoard
  (repeat' split) <;> simp [leaveByRelease_unitA, setOwnership_eq, dropAsk]

theorem actBoardTake_unitA (f : Frame) (s : State) : (actBoardTake f s).share.unitA = s.share.unitA := by
  unfold actBoardTake
  dsimp only
  (repeat' split) <;> simp [beginClaim, beginAsk, setOwnership_eq]

theorem exec_unitA {c : Instr} (hp : ∀ p, c ≠ .powerOn p) (hr : c ≠ .resetTakesEffect) (s : State) :
    NextMeets (fun t => t.share.unitA = s.share.unitA) (exec c s) := by
  have untouched (hb : .share ∉ touches c) : NextMeets (fun t => t.share.unitA = s.share.unitA) (exec c s) :=
    nextMeets_of_touches fun t ht => congrArg Share.unitA (ht .share hb).1
  cases c with
  | powerOn p => exact absurd rfl (hp p)
  | resetTakesEffect => exact absurd rfl hr
  | claimWindowEnd =>
    change NextMeets _ (execClaimWindowEnd s)
    unfold execClaimWindowEnd
    split <;> simp [gainBoard_eq]
  | stopAfterRow =>
    change NextMeets _ (execStopAfterRow s)
    unfold execStopAfterRow
    split <;> simp [leaveByRelease_unitA]
  | claimWithdrawn v =>
    change NextMeets _ (execClaimWithdrawn v s)
    unfold execClaimWithdrawn
    dsimp only
    split <;> simp [setOwnership_eq, dropAsk, State.sampleShare]
  | partnerTook v =>
    change NextMeets _ (execPartnerTook v s)
    unfold execPartnerTook
    dsimp only
    split <;> simp [setOwnership_eq, State.sampleShare]
  | boardFree v =>
    change NextMeets _ (execBoardFree v s)
    unfold execBoardFree enterFree
    dsimp only
    (repeat' split) <;> simp [setOwnership_eq, beginClaim, State.sampleShare]
  | claimOnOwnInInactive v =>
    change NextMeets _ (execClaimOnOwnInInactive v s)
    unfold execClaimOnOwnInInactive
    dsimp only
    split <;> simp [beginClaim, State.sampleShare]
  | takeWaitExpiry =>
    change NextMeets _ (execTakeWaitExpiry s)
    unfold execTakeWaitExpiry failOrForce
    dsimp only
    (repeat' split) <;> simp [setOwnership_eq, dropAsk]
  | reqInActive v =>
    change NextMeets _ (execReqInActive v s)
    unfold execReqInActive
    dsimp only
    split <;> simp [onRequest_unitA, State.sampleShare]
  | boardLost v =>
    change NextMeets _ (execBoardLost v s)
    unfold execBoardLost
    dsimp only
    split <;> simp [setOwnership_eq, handAlarm_eq, loseBoard, abandonRow, driveStb, State.sampleShare]
  | boardTake =>
    exact (nextMeets_next _ _).mpr (takeRequest_closed (fun t => t.share.unitA = s.share.unitA) _ _ _ _ _ s rfl
      (fun _ h => h) (fun _ _ _ _ h => h) fun f t h => (actBoardTake_unitA f t).trans h)
  | boardRelease =>
    exact (nextMeets_next _ _).mpr (takeRequest_closed (fun t => t.share.unitA = s.share.unitA) _ _ _ _ _ s rfl
      (fun _ h => h) (fun _ _ _ _ h => h) fun f t h => (releaseBoard_unitA t).trans h)
  | _ => exact untouched (by simp [touches])

/-! ## The alarm list and the bit rate -/

/-- Every command keeps a property of the link that the elementary changes, the watch and, if need be, CLEAR_ALARMS keep. -/
theorem LinkClosed.exec_all {L : Link → Prop} (h : LinkClosed L) (hw : ∀ k w a, L k → L { k with watch := w, watchAnswer := a })
    {c : Instr} (hclear : c = .clearAlarms → ∀ k, L k → L { k with alarms := [] }) (hp : ∀ p, c ≠ .powerOn p)
    (hr : c ≠ .resetTakesEffect) {s : State} (hs : L s.link) : NextMeets (fun t => L t.link) (Machine.exec c s) := by
  by_cases hrace : movesRace c = true
  · exact (h.raceClosed fun _ _ _ _ hk => hw _ _ _ hk).exec (fun _ _ _ h => h) (fun _ _ _ h => h)
      (fun _ ht => h.popRequest ht) (fun f c x _ ht => h.putReply f c x ht) hrace hs
  by_cases hwatch : writesWatch c = true
  · cases c with
    | watch =>
      refine h.request hs fun f t ht => ?_
      unfold actWatch
      (repeat' split)
      · exact h.putReply _ _ _ ht
      · exact h.putReply _ _ _ ht
      · exact hw t.link _ t.link.watchAnswer ht
    | cancelWatch =>
      refine h.request hs fun f t ht => ?_
      unfold actCancelWatch
      split
      · exact h.putReply (s := answerWatch _ _ _ t) _ _ _ (hw _ _ _ ht)
      · exact h.putReply _ _ _ ht
    | clearAlarms =>
      exact h.request hs fun f t ht => h.putReply (s := { t with link := _ }) _ _ _ (hclear rfl _ ht)
    | powerOn p => exact absurd rfl (hp p)
    | resetTakesEffect => exact absurd rfl hr
    | _ => cases hwatch
  · exact h.exec (by simpa using hrace) (by simpa using hwatch) hs

theorem withNotice_alarms (k : Link) (kind : Byte) (p : List Byte) : (k.withNotice kind p).alarms = k.alarms := by
  unfold Link.withNotice
  split <;> rfl

theorem withNotice_rates (k : Link) (kind : Byte) (p : List Byte) :
    (k.withNotice kind p).rate1 = k.rate1 ∧ (k.withNotice kind p).rate0 = k.rate0 := by
  unfold Link.withNotice
  split <;> exact ⟨rfl, rfl⟩

theorem withAlarm_rates (k : Link) (a : AlarmKind) (lane : Option Nat) (now : Tick) :
    (k.withAlarm a lane now).rate1 = k.rate1 ∧ (k.withAlarm a lane now).rate0 = k.rate0 := by
  unfold Link.withAlarm
  (repeat' split)
  · exact ⟨rfl, rfl⟩
  · exact withNotice_rates _ _ _
  · exact ⟨rfl, rfl⟩

/-- The straps that set the bit rate, as read. -/
theorem linkClosed_rates (a b : Bool) : LinkClosed fun k => k.rate1 = a ∧ k.rate0 = b where
  notice k kind p h := by
    obtain ⟨h1, h0⟩ := withNotice_rates k kind p
    exact ⟨h1.trans h.1, h0.trans h.2⟩
  alarm k x lane now h := by
    obtain ⟨h1, h0⟩ := withAlarm_rates k x lane now
    exact ⟨h1.trans h.1, h0.trans h.2⟩
  pop _ h := h
  taken _ _ h := h
  slots _ _ _ _ _ h := h
  dequeue _ h := h
  receiver _ _ h := h
  join _ _ _ h := h
  flags _ _ _ _ h := h

/-- The alarms handed, each with the tick of its first. -/
def Link.alarmHeads (k : Link) : List (AlarmKind × Option Nat × Tick) := k.alarms.map fun a => (a.kind, a.lane, a.first)

theorem withAlarm_alarmHeads (k : Link) (a : AlarmKind) (lane : Option Nat) (now : Tick) :
    k.alarmHeads <+: (k.withAlarm a lane now).alarmHeads := by
  unfold Link.withAlarm
  split
  · have same : ((fun x : Alarm => (x.kind, x.lane, x.first)) ∘ fun x => if x.kind = a ∧ x.lane = lane then { x with last := now } else x)
        = fun x => (x.kind, x.lane, x.first) := by
      funext x
      simp only [Function.comp]
      split <;> rfl
    rw [Link.alarmHeads, Link.alarmHeads, List.map_map, same]
  · split
    · rw [Link.alarmHeads, Link.alarmHeads, withNotice_alarms, List.map_append]
      exact List.prefix_append _ _
    · exact List.prefix_rfl

theorem linkClosed_alarmHeads (xs : List (AlarmKind × Option Nat × Tick)) : LinkClosed fun k => xs <+: k.alarmHeads where
  notice k kind p h := by rwa [Link.alarmHeads, withNotice_alarms]
  alarm k a lane now h := h.trans (withAlarm_alarmHeads k a lane now)
  pop _ h := h
  taken _ _ h := h
  slots _ _ _ _ _ h := h
  dequeue _ h := h
  receiver _ _ h := h
  join _ _ _ h := h
  flags _ _ _ _ h := h

/-! ## The statement -/

/-- No command but POWER_ON and RESET_TAKES_EFFECT touches the timebase, and none what waits outside the part. -/
theorem exec_outside {c : Instr} {s t : State} (h : exec c s = .next t) :
    t.pending = s.pending ∧ t.pinFeed = s.pinFeed ∧ t.picks = s.picks
    ∧ ((∀ p, c ≠ .powerOn p) → c ≠ .resetTakesEffect → t.tick = s.tick ∧ t.tested = s.tested ∧ t.due = s.due) := by
  by_cases hp : ∃ p, c = .powerOn p
  · obtain ⟨p, rfl⟩ := hp
    cases (Host.Outcome.next.inj h : powerOn p s = t)
    exact ⟨rfl, rfl, rfl, fun hp => absurd rfl (hp p)⟩
  by_cases hr : c = .resetTakesEffect
  · subst hr
    change execResetTakesEffect s = .next t at h
    unfold execResetTakesEffect at h
    split at h <;> cases h <;> exact ⟨rfl, rfl, rfl, fun _ hr => absurd rfl hr⟩
  · have changed := exec_touches c s t h
    obtain ⟨pending, pinFeed, due, picks⟩ : Block.queue.same s t := changed .queue (by cases c <;> simp_all [touches])
    obtain ⟨tick, tested, -⟩ : Block.timebase.same s t := changed .timebase (by cases c <;> simp_all [touches])
    exact ⟨pending, pinFeed, picks, fun _ _ => ⟨tick, tested, due⟩⟩

/-- Settles O3: each part by the commands that touch it. -/
theorem commandsTouchOnlyTheirSettings : Obligations.CommandsTouchOnlyTheirSettings := by
  unfold Obligations.CommandsTouchOnlyTheirSettings
  refine ⟨fun c s t h => exec_outside h, fun c s t h hp hr => ?_⟩
  have kept := (exec_tableMoves c s t h).kept
  obtain ⟨rate1, rate0⟩ := (linkClosed_rates s.link.rate1 s.link.rate0).exec_all (fun _ _ _ h => h) (fun _ _ h => h) hp hr
    ⟨rfl, rfl⟩ t h
  refine ⟨fun hc => ?_, fun hc => ?_, fun hc => ?_, fun h1 h2 h3 => kept.slots h1 h2 h3 hp hr,
    fun h1 h2 => kept.event h1 h2 hp hr, fun hc => ?_, exec_unitA hp hr s t h, rate1, rate0⟩
  · exact (exec_touches c s t h .options (by cases c <;> simp_all [touches])).1
  · by_cases ht : c = .boardText
    · subst ht; exact exec_boardText_mask s t h
    · exact congrArg Prod.fst (exec_fittings hp hr hc ht s t h)
  · by_cases hm : c = .rowMask
    · subst hm; exact exec_rowMask_footer s t h
    · exact congrArg Prod.snd (exec_fittings hp hr hm hc s t h)
  · exact (linkClosed_alarmHeads s.link.alarmHeads).exec_all (fun _ _ _ h => h) (fun he => absurd he hc) hp hr
      List.prefix_rfl t h

end Sys2Proof.Machine
end

section
/-!
The step, the reset state, the Capture Unit's own commands, the race clock, the consensus and the limits, the Lamp Unit: what one
definition of the model says, read as the statements put it.
-/
namespace Sys2Proof.Machine

/-! ## The step and the reset state -/

/-- Settles O1, by the definition of `step`. -/
theorem stepRunsFrontCommand : Obligations.StepRunsFrontCommand := by
  intro c rest s h
  simp only [step, h]

theorem loadedLines_line (pins : Pins) (s : State) {n : Nat} (hn : n < 61) :
    (powerOn pins s).line n = Line.load (lineClass n) (pins.lines.getD n false) 0 (Line.loadedInactive .unused) := by
  have normal : Options.powerOn.polarity (lineClass n) = .normal := by
    cases lineClass n <;> rfl
  simp [State.line, powerOn, loadedLines, Config.lineCount, hn, normal, normalised]

theorem poweredOn_powerOn (pins : Pins) (s : State) : PoweredOn pins (powerOn pins s) where
  tick := rfl
  levels := rfl
  options := rfl
  lineCount := by simp [powerOn, loadedLines, Config.lineCount]
  lines n hn := by
    rw [loadedLines_line pins s hn]
    refine ⟨rfl, rfl, rfl, rfl, fun ha => if_pos ha, fun hc => ?_, fun hc => ?_⟩
    · obtain hc | hc := hc <;> rw [hc] <;> rfl
    · rw [hc]; rfl
  race := rfl
  lanes := rfl
  board := rfl
  owner := rfl
  strap := rfl
  ask := ⟨rfl, rfl, rfl, rfl, rfl⟩
  lamps := rfl
  link := rfl

/-- The reset is due in the words of the statement (R178). -/
theorem resetReady_iff (s : State) : resetReady s = true ↔ s.link.resetDue = true
    ∨ (s.link.resetPending = true
      ∧ ∃ m, s.link.sent = some m ∧ m.source = .reply ∧ m.timer.width ≤ interval m.timer.start s.tick) := by
  have done : s.messageDone = some .reply
      ↔ ∃ m, s.link.sent = some m ∧ m.source = .reply ∧ m.timer.width ≤ interval m.timer.start s.tick := by
    unfold State.messageDone
    cases s.link.sent with
    | none => simp
    | some m => by_cases hw : m.timer.width ≤ interval m.timer.start s.tick <;> simp [hw]
  simp [resetReady, done]

/-- Settles O4: the power-on state field by field, and RESET_TAKES_EFFECT as a power-on at the present pins. -/
theorem powerOnAndResetState : Obligations.PowerOnAndResetState := by
  unfold Obligations.PowerOnAndResetState
  refine ⟨fun pins s => ⟨powerOn pins s, rfl, poweredOn_powerOn pins s, rfl⟩, fun s h => ?_⟩
  refine ⟨powerOn s.pins s, ?_, poweredOn_powerOn s.pins s, rfl⟩
  change execResetTakesEffect s = _
  rw [execResetTakesEffect, if_pos ((resetReady_iff s).mpr h)]

theorem reset_eq_powerOn : powerOn Pins.low State.reset = State.reset := by decide

theorem blank_spaced (e : EventDesc) : Lane.blank.spaced e := by
  constructor <;> simp [Lane.blank]

/-- Settles O5: every list of the reset state is a literal, its lanes blank. -/
theorem resetIsPowerOnAndInOrder : Obligations.ResetIsPowerOnAndInOrder := by
  unfold Obligations.ResetIsPowerOnAndInOrder
  have blank {l : Lane} (h : l ∈ State.reset.lanes) : l = Lane.blank := List.eq_of_mem_replicate h
  refine ⟨reset_eq_powerOn ▸ poweredOn_powerOn Pins.low State.reset, rfl, by decide, ?_, ?_, ?_, ?_, ?_, ?_, ?_, ?_, ?_, ?_, ?_⟩
  · constructor <;> rfl
  · intro l hl
    rw [blank hl]
    exact ⟨rfl, rfl⟩
  · refine ⟨rfl, fun l hl => ?_, fun hs => ?_, fun l hl hs => ?_⟩
    · rw [blank hl]; rfl
    · obtain hs | hs := hs <;> cases hs
    · rw [blank hl] at hs; cases hs
  · intro l hl
    rw [blank hl]
    decide
  · refine ⟨fun n => ?_, List.Pairwise.nil⟩
    have lane : State.reset.lane n = Lane.blank := reset_eq_powerOn ▸ lane_powerOn Pins.low State.reset n
    rw [lane]
    simp [State.reset, Race.cleared, Lane.placed, Lane.blank]
  · constructor <;> simp [State.reset, Board.powerOn]
  · constructor <;> simp [State.reset, Link.powerOn]
  · exact watchCurrent_of_none rfl
  · intro l hl
    rw [blank hl]
    exact blank_spaced _
  · refine ⟨fun l hl => ?_, fun l hl hs => ?_, fun l hl hs => ?_, fun l hl hs => ?_, by decide⟩
    · rw [blank hl]; rfl
    · rw [blank hl]; rfl
    · rw [blank hl] at hs; cases hs
    · rw [blank hl] at hs; obtain hs | hs := hs <;> cases hs
  · constructor <;> simp [State.reset, Race.cleared]

/-! ## The Capture Unit -/

theorem line_of_lines {s t : State} (h : t.lines = s.lines) (n : Nat) : t.line n = s.line n := by
  simp only [State.line, h]

theorem exec_pendingEdge {s : State} {n : Nat} (high : Bool) (hn : n < 61) (hp : (s.line n).pendingEdge = none)
    (hl : normalised (s.tested.polarity (lineClass n)) high ≠ (s.line n).active) :
    exec (.pendingEdge n high) s
      = .next ((s.sampleLine n high).updLine n fun l =>
          { l with pendingEdge := some { lead := s.tick, active := normalised (s.tested.polarity (lineClass n)) high } }) := by
  have starts : ((s.sampleLine n high).line n).startsEdge ((s.sampleLine n high).level n high) = true := by
    change ((s.line n).pendingEdge.isNone && (normalised (s.tested.polarity (lineClass n)) high != (s.line n).active)) = true
    simp [hp, hl]
  change execPendingEdge n high s = _
  simp only [execPendingEdge, Config.lineCount, Nat.not_le.mpr hn, if_false, starts, if_true]
  rfl

theorem exec_pendingEdgeDropped {s : State} {n : Nat} (high : Bool) (hn : n < 61) (hp : (s.line n).pendingEdge ≠ none)
    (hl : normalised (s.tested.polarity (lineClass n)) high = (s.line n).active) :
    exec (.pendingEdgeDropped n high) s
      = .next ((s.sampleLine n high).updLine n fun l => { l with pendingEdge := none }) := by
  have drops : ((s.sampleLine n high).line n).dropsEdge ((s.sampleLine n high).level n high) = true := by
    change ((s.line n).pendingEdge.isSome && (normalised (s.tested.polarity (lineClass n)) high == (s.line n).active)) = true
    simp [hl, Option.isSome_iff_ne_none, hp]
  change execPendingEdgeDropped n high s = _
  simp only [execPendingEdgeDropped, Config.lineCount, Nat.not_le.mpr hn, if_false, drops, if_true]

/-- A sampled and updated line. -/
theorem sampled_updLine {s : State} {n : Nat} (high : Bool) (hn : n < s.lines.length) (f : Line → Line) :
    ((s.sampleLine n high).updLine n f).line n = f (s.line n)
    ∧ OtherLinesKept n s ((s.sampleLine n high).updLine n f)
    ∧ ((s.sampleLine n high).updLine n f).pins = { s.pins with lines := s.pins.lines.set n high }
    ∧ ChangesOnly [.capture, .pins] s ((s.sampleLine n high).updLine n f) :=
  ⟨line_updLine_same (s := s.sampleLine n high) f hn, fun _ hm => line_updLine_other hm f (s.sampleLine n high), rfl,
    (sampleLine_touches s n high).trans ((updLine_touches _ n f).mono (by simp))⟩

theorem confirmEdge_lines (n : Nat) (high : Bool) (e : PendingEdge) (s : State) :
    (confirmEdge n e (s.sampleLine n high)).lines = (edgeConfirmedState n high e s).lines := by
  unfold confirmEdge
  dsimp only
  split
  · exact takeCapture_lines _ _
  · rfl

/-- Settles O6: the three commands of a sample, each by its case. -/
theorem pendingEdgesAreRecordedAndConfirmed : Obligations.PendingEdgesAreRecordedAndConfirmed := by
  unfold Obligations.PendingEdgesAreRecordedAndConfirmed
  refine ⟨fun s n high hn hlen => ⟨fun hp hl => ?_, fun hp hl => ?_⟩, fun n high e s h => ?_⟩
  · exact ⟨_, exec_pendingEdge high hn hp hl, sampled_updLine high (hlen ▸ hn) _⟩
  · exact ⟨_, exec_pendingEdgeDropped high hn hp hl, sampled_updLine high (hlen ▸ hn) _⟩
  · obtain ⟨confirmed, others, -, -⟩ := edgeTaken_edgeConfirmedState h
    have line (m : Nat) := line_of_lines (confirmEdge_lines n high e s) m
    refine ⟨_, exec_edgeConfirmed h, line n ▸ confirmed, fun m hm => (line m).trans (others m hm), fun hd => ?_⟩
    have undelivered := exec_edgeConfirmed_undelivered h hd
    rw [exec_edgeConfirmed h] at undelivered
    rw [Host.Outcome.next.inj undelivered]
    exact edgeTaken_edgeConfirmedState h

theorem updLine_lineTimer {s : State} {n : Nat} (hn : n < s.lines.length) (f : Line → Line) :
    (s.updLine n f).line n = f (s.line n) ∧ OtherLinesKept n s (s.updLine n f) ∧ ChangesOnly [.capture] s (s.updLine n f) :=
  ⟨line_updLine_same f hn, fun _ hm => line_updLine_other hm f s, updLine_touches s n f⟩

/-- Settles O7: the two timers of a line. -/
theorem lineTimersExpire : Obligations.LineTimersExpire := by
  unfold Obligations.LineTimersExpire
  refine fun s n hn hlen => ⟨fun from0 hr hw => ?_, fun hc hs ha hw => ?_⟩
  · have expired : padHoldExpired n s = true := by simp [padHoldExpired, hr, hw]
    refine ⟨_, ?_, updLine_lineTimer (hlen ▸ hn) fun l => { l with rearm := .ready }⟩
    change execPadHoldExpiry n s = _
    simp [execPadHoldExpiry, Config.lineCount, Nat.not_le.mpr hn, expired]
  · obtain ⟨line, others, touched⟩ := updLine_lineTimer (s := s) (hlen ▸ hn) fun l => { l with stuck := true }
    have stuck {k : AlarmKind} {lane : Option Nat} (hk : stuckAlarm n = some (k, lane)) :
        exec (.lineStuck n) s = .next { s.updLine n fun l => { l with stuck := true } with
          link := s.link.withAlarm k lane s.tick } := by
      have due : stuckDue n s = true := by simp [stuckDue, hk, hs, ha, hw]
      change execLineStuck n s = _
      simp only [execLineStuck, Config.lineCount, Nat.not_le.mpr hn, hk, due, handAlarm_eq, if_false, if_true]
      rfl
    have changed (k : Link) := (touched.mono (more := [.capture, .link]) (by simp)).link _ (by simp) k
    cases hclass : lineClass n with
    | pad =>
      exact ⟨_, stuck (k := .padStuck) (lane := some (lineLane n)) (by simp [stuckAlarm, hclass]), line, others, changed _,
        fun _ => rfl, fun h => (by cases h), fun h => (by cases h)⟩
    | button =>
      exact ⟨_, stuck (k := .buttonStuck) (lane := some (lineLane n)) (by simp [stuckAlarm, hclass]), line, others, changed _,
        fun h => (by cases h), fun _ => rfl, fun h => (by cases h)⟩
    | block => exact absurd hclass hc
    | start =>
      exact ⟨_, stuck (k := .startStuck) (lane := none) (by simp [stuckAlarm, hclass]), line, others, changed _,
        fun h => (by cases h), fun h => (by cases h), fun _ => rfl⟩

/-! ## Race times and the clock limit -/

theorem raceTime_past {s : State} {st : Tick} (hst : s.race.startTick = some st) (hp : s.race.pastLimit = true) (e : Tick) :
    s.raceTime e = { time := 59999999, overMark := true } := by
  simp [State.raceTime, State.lead, hst, hp, Config.clockLimit]

theorem lead_of_running {s : State} {st : Tick} (hst : s.race.startTick = some st) (hp : s.race.pastLimit = false) (e : Tick) :
    s.lead e = leadFrom st e s.tick := by
  simp [State.lead, hst, hp]

/-- Settles O11; that no command sets the latch of R55 is part of what the tables say of each command. -/
theorem raceTimesAndTheClockLimit : Obligations.RaceTimesAndTheClockLimit := by
  unfold Obligations.RaceTimesAndTheClockLimit
  refine ⟨fun s st e hst => ⟨fun hp => raceTime_past hst hp e, fun hp => ?_, fun hm => ?_, fun hm => ?_⟩,
    fun s st hr hm hst ht => ?_, fun s hm => ?_, fun c s t h => (exec_tableMoves c s t h).kept.past⟩
  · rw [State.raceTime, lead_of_running hst hp]
    refine ⟨fun h => ?_, fun h1 h2 => ?_, fun h1 h2 => ?_⟩
    · simp [leadFrom, h]
    · simp [leadFrom, Nat.not_lt.mpr h1, Config.clockLimit, Nat.not_lt.mpr h2]
    · simp [leadFrom, Nat.not_lt.mpr h1, Config.clockLimit, h2]
  · simp [State.raceClock, hst, hm, Config.clockLimit]
  · simp [State.raceClock, hst, hm, Config.clockLimit]
  · have reached : limitReached s = true := by simp [limitReached, hst, hr, hm, ht, later, Config.clockLimit]
    refine ⟨{ s with race := { s.race with limitMark := true }, link := s.link.withAlarm .clockLimit none s.tick }, ?_, rfl,
      rfl, changesOnly_race_link s _ _⟩
    change execClockLimit s = _
    rw [execClockLimit, if_pos reached, handAlarm_eq]
  · have notReached : limitReached s = false := by
      unfold limitReached
      split <;> simp [hm]
    change execClockLimit s = _
    simp [execClockLimit, notReached]

/-! ## Consensus and limits -/

/-- The median of three is one of them, with two of them on either side. -/
theorem consensusOf_three (a b c : Nat) : ∃ m, consensusOf [a, b, c] = some m ∧ m ∈ [a, b, c]
    ∧ 2 ≤ ([a, b, c].filter fun x => decide (x ≤ m)).length ∧ 2 ≤ ([a, b, c].filter fun x => decide (m ≤ x)).length := by
  refine ⟨_, rfl, ?_, ?_, ?_⟩
  · simp only [List.mem_cons, List.not_mem_nil, or_false]
    omega
  · simp only [List.filter_cons, List.filter_nil, decide_eq_true_eq]
    split_ifs <;> simp <;> omega
  · simp only [List.filter_cons, List.filter_nil, decide_eq_true_eq]
    split_ifs <;> simp <;> omega

/-- A run of entries with neither a TIMED nor a FINAL one. -/
abbrev Untimed (run : List Split) : Prop := ∀ y ∈ run, y.kind ≠ .timed ∧ y.kind ≠ .final

theorem beforeFinal_of_untimed {run : List Split} (h : Untimed run) : beforeFinal run = run :=
  List.filter_eq_self.mpr fun y hy => by simpa using (h y hy).2

theorem find_timed_of_untimed {run : List Split} (h : Untimed run) :
    run.reverse.find? (fun e => decide (e.kind = .timed)) = none :=
  List.find?_eq_none.mpr fun y hy => by simpa using (h y (List.mem_reverse.mp hy)).1

theorem takeWhile_untimed {run : List Split} (h : Untimed run) (xs : List Split) :
    (run.reverse ++ xs).takeWhile (fun e => decide (e.kind ≠ .timed))
      = run.reverse ++ xs.takeWhile (fun e => decide (e.kind ≠ .timed)) :=
  List.takeWhile_append_of_pos fun y hy => by simpa using (h y (List.mem_reverse.mp hy)).1

theorem lengthLimit_of_timed (e : EventDesc) {l : Lane} (i : Nat) {xs run : List Split} {x : Split} {time : Nat}
    (hs : l.splits = xs ++ [x] ++ run) (hx : x.kind = .timed) (ht : x.time = some time) (hrun : Untimed run) :
    lengthLimit e l i = time + (run.length + i) * e.minLength := by
  have list : beforeFinal l.splits = beforeFinal xs ++ [x] ++ run := by
    rw [hs, beforeFinal, List.filter_append, List.filter_append, ← beforeFinal, ← beforeFinal, ← beforeFinal,
      beforeFinal_of_untimed hrun]
    simp [beforeFinal, hx]
  have ref : refTime (beforeFinal l.splits) = time := by
    simp [refTime, list, List.find?_append, find_timed_of_untimed hrun, hx, ht]
  have run' : untimedRun (beforeFinal l.splits) = run.length := by
    rw [untimedRun, list, List.reverse_append, takeWhile_untimed hrun]
    simp [hx]
  rw [lengthLimit, ref, run']

theorem lengthLimit_of_untimed (e : EventDesc) {l : Lane} (i : Nat) (h : Untimed l.splits) :
    lengthLimit e l i = (l.splits.length + i) * e.minLength := by
  have run := takeWhile_untimed h []
  simp only [List.append_nil, List.takeWhile_nil] at run
  rw [lengthLimit, beforeFinal_of_untimed h, untimedRun, run]
  simp [refTime, find_timed_of_untimed h]

/-- Settles O18: the consensus by the order of the presses, the limits by the shape of the split list. -/
theorem consensusAndLimits : Obligations.ConsensusAndLimits := by
  unfold Obligations.ConsensusAndLimits
  refine ⟨consensusOf_three, fun a b => ⟨_, rfl, by omega, by omega⟩, fun a => rfl, rfl, ?_, ?_⟩
  · exact fun e l i xs run x time hs hx ht hrun => lengthLimit_of_timed e i hs hx ht hrun
  · exact fun e l i h => lengthLimit_of_untimed e i h

/-! ## The Lamp Unit -/

theorem modify_of_getElem? {α : Type} {ls : List α} {n : Nat} {x : α} (h : ls[n]? = some x) (f : α → α) :
    ls.modify n f = ls.set n (f x) := by
  apply List.ext_getElem?
  intro i
  by_cases hi : n = i
  · subst hi
    simp [h, List.getElem?_set_self']
  · simp [hi]

theorem set_of_getElem? {α : Type} {ls : List α} {n : Nat} {x : α} (h : ls[n]? = some x) : ls.set n x = ls := by
  apply List.ext_getElem?
  intro i
  by_cases hi : n = i
  · subst hi
    simp [h, List.getElem?_set_self']
  · simp [hi]

@[simp] theorem pulse_stopped {x : LampTimer} (h : x.run = none) (t : Tick) (w : Nat) :
    x.pulse t w = { x with run := some { start := t, width := w } } := by simp [LampTimer.pulse, h]

@[simp] theorem pulse_running {x : LampTimer} (h : x.run ≠ none) (t : Tick) (w : Nat) : x.pulse t w = x := by
  simp [LampTimer.pulse, Option.isSome_iff_ne_none, h]

theorem expire_runOut {x : LampTimer} {r : Timer} {now : Tick} (hr : x.run = some r) (hw : r.width ≤ interval r.start now) :
    x.expire now = { x with run := none } := by
  simp [LampTimer.expire, LampTimer.expired, hr, hw]

/-- Settles O33: START_FLASH of each lane and BELL, by whether the timer runs. -/
theorem pulseFunctions : Obligations.PulseFunctions := by
  unfold Obligations.PulseFunctions
  constructor
  · intro s n x hx hn
    have kept (h : x.run ≠ none) : triggerFlash n s = s := by
      simp only [triggerFlash, modify_of_getElem? hx, pulse_running h, set_of_getElem? hx]
    refine ⟨fun h => by simp only [triggerFlash, modify_of_getElem? hx, pulse_stopped h], kept, fun r hr hw => ?_⟩
    have running : x.run ≠ none := by simp [hr]
    have expires : exec (.pulseExpiry (.startFlash n)) s = .next { s with lamps := { s.lamps with
        startFlash := s.lamps.startFlash.set n { x with run := none } } } := by
      change execPulseExpiry (.startFlash n) s = _
      simp only [execPulseExpiry, Config.laneCount, Nat.not_le.mpr hn, if_false, modify_of_getElem? hx, expire_runOut hr hw]
    refine ⟨expires, by rw [kept running], fun t ht => ?_⟩
    rw [expires] at ht
    cases ht
    have length : n < s.lamps.startFlash.length := (List.getElem?_eq_some_iff.mp hx).1
    simp [triggerFlash, length, LampTimer.pulse]
  · intro s
    have kept (h : s.lamps.bell.run ≠ none) : triggerBell s = s := by
      simp only [triggerBell, pulse_running h]
    refine ⟨fun h => by simp only [triggerBell, pulse_stopped h], kept, fun r hr hw => ?_⟩
    have expires : exec (.pulseExpiry .bell) s
        = .next { s with lamps := { s.lamps with bell := { s.lamps.bell with run := none } } } := by
      change execPulseExpiry .bell s = _
      simp only [execPulseExpiry, expire_runOut hr hw]
    refine ⟨expires, by rw [kept (by simp [hr])], fun t ht => ?_⟩
    rw [expires] at ht
    cases ht
    rfl

theorem on_iff (x : LampTimer) : x.on = true ↔ x.run ≠ none ∨ x.input = true := by
  simp [LampTimer.on, Option.isSome_iff_ne_none]

/-- Settles O34: the EXTENDED and the FINAL_LENGTH functions, and the outputs by their definitions. -/
theorem extendedAndOffDelayFunctions : Obligations.ExtendedAndOffDelayFunctions := by
  unfold Obligations.ExtendedAndOffDelayFunctions
  refine ⟨fun s n x hx hn => ⟨?_, fun r hr hw => ?_⟩, fun s => ⟨rfl, fun r hr hw => ?_⟩,
    fun s n x hx hn => ⟨fun on hi => ?_, fun hi => ?_, fun hi => ?_, fun r hr hw => ?_⟩, fun s => ?_⟩
  · simp only [triggerAlert, modify_of_getElem? hx, LampTimer.extend]
  · change execExtendedExpiry (.takeoffAlert n) s = _
    simp only [execExtendedExpiry, Config.laneCount, Nat.not_le.mpr hn, if_false, modify_of_getElem? hx, expire_runOut hr hw]
  · change execExtendedExpiry .record s = _
    simp only [execExtendedExpiry, expire_runOut hr hw]
  · simp only [setFinalInput, modify_of_getElem? hx, LampTimer.setInput, hi, if_true, set_of_getElem? hx]
  · simp [setFinalInput, modify_of_getElem? hx, LampTimer.setInput, hi]
  · simp [setFinalInput, modify_of_getElem? hx, LampTimer.setInput, hi]
  · change execOffDelayExpiry n s = _
    simp only [execOffDelayExpiry, Config.laneCount, Nat.not_le.mpr hn, if_false, modify_of_getElem? hx, expire_runOut hr hw]
  · refine ⟨fun n x y z hx hy hz => ?_, on_iff _, on_iff _, ?_, ?_, ?_⟩
    · simp only [State.lampOut, List.getD_eq_getElem?_getD, hx, hy, hz, Option.getD_some, Bool.or_eq_true, on_iff, or_assoc]
    · simp [State.ownOut, Option.isSome_iff_ne_none]
    · simp [State.reqOut]
    · simp [State.forceOut]

end Sys2Proof.Machine
end

section
/-!
The marking of several rows (R133, R134): what a list of markings leaves, and how markings that follow one another add up.
-/
namespace Sys2Proof.Machine

/-! ## Markings whatever the mask -/

/-- The board after row `r` has been marked whatever its mask (R145). -/
def Board.markedAny (r : Nat) (b : Board) : Board :=
  { b with queue := joinQueue r b.queue, sending := b.sending.map (Sending.marked r) }

theorem forEach_markAnyRow (rs : List Nat) (s : State) :
    forEach rs markAnyRow s = { s with board := rs.foldl (fun b r => b.markedAny r) s.board } := by
  induction rs generalizing s with
  | nil => rfl
  | cons r rs ih => exact ih (markAnyRow r s)

/-- A row in transmission after the rows `rs` have been marked. -/
def Sending.markedAll (rs : List Nat) (x : Sending) : Sending := { x with changed := x.changed || decide (x.row ∈ rs) }

theorem Sending.markedAll_cons (r : Nat) (rs : List Nat) (x : Sending) :
    (x.marked r).markedAll rs = x.markedAll (r :: rs) := by
  unfold Sending.marked Sending.markedAll
  by_cases h : x.row = r <;> simp [h]

theorem joinQueue_append (r : Nat) (rs q : List Nat) (hr : r ∉ rs) :
    joinQueue r q ++ rs.filter (fun m => decide (m ∉ joinQueue r q)) = q ++ (r :: rs).filter (fun m => decide (m ∉ q)) := by
  have rest : rs.filter (fun m => decide (m ∉ joinQueue r q)) = rs.filter (fun m => decide (m ∉ q)) :=
    List.filter_congr fun m hm => by
      have : m ≠ r := fun h => hr (h ▸ hm)
      simp [this]
  rw [rest]
  by_cases h : r ∈ q <;> simp [joinQueue, h]

/-- Different rows marked in turn join the queue in their order, each unless it is queued already (R133). -/
theorem markedAny_all {rs : List Nat} (h : rs.Nodup) (b : Board) :
    rs.foldl (fun b r => b.markedAny r) b
      = { b with
          queue := b.queue ++ rs.filter (fun r => decide (r ∉ b.queue))
          sending := b.sending.map (Sending.markedAll rs) } := by
  induction rs generalizing b with
  | nil =>
    have same : Sending.markedAll [] = id := funext fun x => by simp [Sending.markedAll]
    simp [same]
  | cons r rs ih =>
    obtain ⟨hr, hrs⟩ := List.nodup_cons.mp h
    have sent : (b.markedAny r).sending.map (Sending.markedAll rs) = b.sending.map (Sending.markedAll (r :: rs)) := by
      rw [Board.markedAny, Option.map_map]
      exact congrArg (Option.map · _) (funext (Sending.markedAll_cons r rs))
    rw [List.foldl_cons, ih hrs, sent, ← joinQueue_append r rs b.queue hr]
    rfl

/-! ## Markings that a mask stops (R133) -/

theorem Board.markedAll_cons (r : Nat) (rs : List Nat) (b : Board) : b.markedAll (r :: rs) = (b.marked r).markedAll rs := rfl

theorem Board.markedAll_append (rs qs : List Nat) (b : Board) : b.markedAll (rs ++ qs) = (b.markedAll rs).markedAll qs :=
  List.foldl_append

@[simp] theorem Board.marked_mask (r : Nat) (b : Board) : (b.marked r).mask = b.mask := by
  unfold Board.marked
  split <;> rfl

@[simp] theorem Board.markedAll_mask (rs : List Nat) (b : Board) : (b.markedAll rs).mask = b.mask := by
  induction rs generalizing b with
  | nil => rfl
  | cons r rs ih => exact (ih _).trans (b.marked_mask r)

@[simp] theorem Board.markedAll_holds (rs : List Nat) (b : Board) : (b.markedAll rs).holds = b.holds := by
  induction rs generalizing b with
  | nil => rfl
  | cons r rs ih => exact (ih _).trans (b.marked_holds r)

/-- Of the listed rows those whose mask is clear are marked. -/
theorem Board.markedAll_eq_any (rs : List Nat) (b : Board) :
    b.markedAll rs = (rs.filter fun r => !b.mask.getD r false).foldl (fun b r => b.markedAny r) b := by
  induction rs generalizing b with
  | nil => rfl
  | cons r rs ih =>
    rw [Board.markedAll_cons, ih, Board.marked_mask, Board.marked, List.filter_cons]
    cases b.mask.getD r false <;> rfl

theorem Board.markedAll_queue {rs : List Nat} (h : rs.Nodup) (b : Board) :
    (b.markedAll rs).queue = b.queue ++ rs.filter (fun r => decide (b.mask.getD r false = false ∧ r ∉ b.queue)) := by
  rw [Board.markedAll_eq_any, markedAny_all (h.filter _), List.filter_filter]
  refine congrArg (b.queue ++ ·) (List.filter_congr fun r _ => ?_)
  cases b.mask.getD r false <;> simp

/-- Markings change the queue and the row in transmission only. -/
theorem Board.markedAll_kept (rs : List Nat) (b : Board) :
    { b.markedAll rs with queue := b.queue, sending := b.sending } = b := by
  induction rs generalizing b with
  | nil => rfl
  | cons r rs ih =>
    have first : { b.marked r with queue := b.queue, sending := b.sending } = b := by
      unfold Board.marked
      split <;> rfl
    calc { (b.marked r).markedAll rs with queue := b.queue, sending := b.sending }
      _ = { { (b.marked r).markedAll rs with queue := (b.marked r).queue, sending := (b.marked r).sending } with
            queue := b.queue, sending := b.sending } := rfl
      _ = { b.marked r with queue := b.queue, sending := b.sending } := by rw [ih]
      _ = b := first

/-! ## Markings one after another -/

theorem rowMasked_of_mask {s t : State} (h : t.board.mask = s.board.mask) (r : Nat) : t.rowMasked r = s.rowMasked r := by
  rw [State.rowMasked, h, State.rowMasked]

theorem QueueMarked.sent {must may : List Nat} {s t : State} (h : QueueMarked must may s t) {y : Sending}
    (hy : t.board.sending = some y) : ∃ x, s.board.sending = some x ∧ y.row = x.row := by
  have content := h.content
  rw [hy, Option.map_some] at content
  obtain ⟨x, hx, same⟩ := Option.map_eq_some_iff.mp content.symm
  exact ⟨x, hx, (congrArg Sending.row same).symm⟩

/-- What a marking needs to know of the state before: the queue, the row in transmission and the masks. -/
theorem QueueMarked.of_same {must may : List Nat} {s s' t : State} (h : QueueMarked must may s' t)
    (hq : s'.board.queue = s.board.queue) (hs : s'.board.sending = s.board.sending) (hm : s'.board.mask = s.board.mask) :
    QueueMarked must may s t where
  tail := hq ▸ h.tail
  joined r hr hc := h.joined r hr ((rowMasked_of_mask hm r).trans hc)
  only r hr := (h.only r hr).imp (hq ▸ ·) fun ⟨k, hc⟩ => ⟨k, (rowMasked_of_mask hm r) ▸ hc⟩
  content := hs ▸ h.content
  flagged x hx hr hc := h.flagged x hx hr ((rowMasked_of_mask hm _).trans hc)
  flagKept x y hx hy := by
    simpa only [rowMasked_of_mask hm] using h.flagKept x y (hs.trans hx) hy

theorem QueueMarked.trans {must may more often : List Nat} {s t u : State} (h : QueueMarked must may s t)
    (k : QueueMarked more often t u) (hm : t.board.mask = s.board.mask) :
    QueueMarked (must ++ more) (may ++ often) s u where
  tail := h.tail.trans k.tail
  joined r hr hc := by
    rcases List.mem_append.mp hr with hr | hr
    · exact k.tail.subset (h.joined r hr hc)
    · exact k.joined r hr ((rowMasked_of_mask hm r).trans hc)
  only r hr := by
    rcases k.only r hr with hr | ⟨hr, hc⟩
    · exact (h.only r hr).imp id fun ⟨a, b⟩ => ⟨List.mem_append_left _ a, b⟩
    · exact .inr ⟨List.mem_append_right _ hr, (rowMasked_of_mask hm r) ▸ hc⟩
  content := k.content.trans h.content
  flagged z hz hr hc := by
    obtain ⟨y, hy, hzy⟩ := k.sent hz
    rcases List.mem_append.mp hr with hr | hr
    · exact (k.flagKept y z hy hz).1 (h.flagged y hy (hzy ▸ hr) (hzy ▸ hc))
    · exact k.flagged z hz hr ((rowMasked_of_mask hm _).trans hc)
  flagKept x z hx hz := by
    obtain ⟨y, hy, hzy⟩ := k.sent hz
    obtain ⟨x', hx', hyx⟩ := h.sent hy
    obtain rfl : x = x' := Option.some.inj (hx.symm.trans hx')
    refine ⟨fun c => (k.flagKept y z hy hz).1 ((h.flagKept x y hx hy).1 c), fun c => ?_⟩
    rcases (k.flagKept y z hy hz).2 c with c | ⟨c, hc⟩
    · exact ((h.flagKept x y hx hy).2 c).imp id fun ⟨a, b⟩ => ⟨List.mem_append_left _ a, b⟩
    · exact .inr ⟨List.mem_append_right _ (hyx ▸ c), hyx ▸ (rowMasked_of_mask hm _) ▸ hc⟩

theorem RowsMarked.mask {must may : List Nat} {s t : State} (h : RowsMarked must may s t) : t.board.mask = s.board.mask :=
  by rw [← h.kept]

theorem RowsMarked.trans {must may more often : List Nat} {s t u : State} (h : RowsMarked must may s t)
    (k : RowsMarked more often t u) : RowsMarked (must ++ more) (may ++ often) s u where
  toQueueMarked := h.toQueueMarked.trans k.toQueueMarked h.mask
  kept := by
    calc { u.board with queue := s.board.queue, sending := s.board.sending, holds := s.board.holds }
      _ = { { u.board with queue := t.board.queue, sending := t.board.sending, holds := t.board.holds } with
            queue := s.board.queue, sending := s.board.sending, holds := s.board.holds } := rfl
      _ = s.board := by rw [k.kept, h.kept]

/-- Fewer rows that must be marked, and more that may. -/
theorem RowsMarked.mono {must may more often : List Nat} {s t : State} (h : RowsMarked must may s t) (hmust : more ⊆ must)
    (hmay : may ⊆ often) : RowsMarked more often s t where
  tail := h.tail
  joined r hr hc := h.joined r (hmust hr) hc
  only r hr := (h.only r hr).imp id fun ⟨a, b⟩ => ⟨hmay a, b⟩
  content := h.content
  flagged x hx hr hc := h.flagged x hx (hmust hr) hc
  flagKept x y hx hy := ⟨(h.flagKept x y hx hy).1, fun c => ((h.flagKept x y hx hy).2 c).imp id fun ⟨a, b⟩ => ⟨hmay a, b⟩⟩
  kept := h.kept

/-- Where nothing but split holds changes, no row is marked. -/
theorem rowsMarked_none {s t : State} (h : { t.board with holds := s.board.holds } = s.board) : RowsMarked [] [] s t := by
  have queue : t.board.queue = s.board.queue := by rw [← h]
  have sending : t.board.sending = s.board.sending := by rw [← h]
  constructor
  · constructor
    · rw [queue]
    · simp
    · exact fun r hr => .inl (queue ▸ hr)
    · rw [sending]
    · simp
    · intro x y hx hy
      obtain rfl : x = y := Option.some.inj (hx.symm.trans (sending ▸ hy))
      exact ⟨id, .inl⟩
  · calc { t.board with queue := s.board.queue, sending := s.board.sending, holds := s.board.holds }
      _ = { { t.board with holds := s.board.holds } with queue := s.board.queue, sending := s.board.sending } := rfl
      _ = s.board := by rw [h]

theorem RowsMarked.refl (s : State) : RowsMarked [] [] s s := rowsMarked_none rfl

/-- The same markings seen from states with these boards, split holds apart. -/
theorem RowsMarked.of_boards {must may : List Nat} {s t s' t' : State} (h : RowsMarked must may s t)
    (hs : { s'.board with holds := s.board.holds } = s.board) (ht : { t'.board with holds := t.board.holds } = t.board) :
    RowsMarked must may s' t' := by
  have before : RowsMarked [] [] s' s := rowsMarked_none (by rw [← hs])
  have after : RowsMarked [] [] t t' := rowsMarked_none ht
  simpa using (before.trans h).trans after

theorem rowsMarked_markedAll {rs : List Nat} {s t : State} (h : t.board = s.board.markedAll rs) : RowsMarked rs rs s t := by
  induction rs generalizing s with
  | nil => exact rowsMarked_none (by rw [h]; rfl)
  | cons r rs ih =>
    have first : RowsMarked [r] [r] s { s with board := s.board.marked r } := rowsMarked_marked rfl
    exact first.trans (ih (s := { s with board := s.board.marked r }) h)

/-- Rows marked and, besides, split holds set. -/
theorem rowsMarked_markedAll_holds {rs : List Nat} {s t : State} {hs : List (Option Timer)}
    (h : t.board = { s.board.markedAll rs with holds := hs }) : RowsMarked rs rs s t :=
  (rowsMarked_markedAll (t := { s with board := s.board.markedAll rs }) rfl).of_boards rfl (by rw [h])

end Sys2Proof.Machine
end

section
/-!
The Board Link Controller's own commands: markings that follow the race clock, split holds and slots (R129, R130, R135, R136), the
scheduler (R137), the passing of bytes and the ends of a send (R138 to R143), and ROW_MASK (R145).
-/
namespace Sys2Proof.Machine

/-! ## Split holds (R129) -/

theorem hold_setHold_same {s : State} {n : Nat} (hn : n < s.board.holds.length) (h : Option Timer) :
    (s.setHold n h).hold n = h := by
  simp [State.hold, State.setHold, hn]

theorem hold_setHold_other {m n : Nat} (hm : m ≠ n) (h : Option Timer) (s : State) : (s.setHold n h).hold m = s.hold m := by
  simp [State.hold, State.setHold, hm.symm]

theorem hold_of_holds {s t : State} (h : t.board.holds = s.board.holds) (n : Nat) : t.hold n = s.hold n := by
  rw [State.hold, h, State.hold]

theorem holds_markRow (r : Nat) (s : State) : (markRow r s).board.holds = s.board.holds := by
  rw [markRow_eq, Board.marked_holds]

theorem HoldSet.of_setHold {n : Nat} {h : Option Timer} {s t : State} (hn : n < s.board.holds.length)
    (ht : t.board.holds = (s.setHold n h).board.holds) : HoldSet n h s t :=
  ⟨(hold_of_holds ht n).trans (hold_setHold_same hn h), fun m hm => (hold_of_holds ht m).trans (hold_setHold_other hm h s)⟩

theorem rowsMarked_setHold (n : Nat) (h : Option Timer) (s : State) : RowsMarked [] [] s (s.setHold n h) := rowsMarked_none rfl

theorem rowsMarked_markRow (r : Nat) (s : State) : RowsMarked [r] [r] s (markRow r s) :=
  rowsMarked_marked (by rw [markRow_eq])

theorem lt_holds_of_hold {s : State} {n : Nat} (h : (s.hold n).isSome = true) : n < s.board.holds.length := by
  by_contra hn
  simp [State.hold, Nat.le_of_not_lt hn] at h

theorem endHold_running {s : State} {n : Nat} (h : (s.hold n).isSome = true) :
    endHold n s = markLaneRow n (s.setHold n none) := if_pos h

theorem endHold_stopped {s : State} {n : Nat} (h : s.hold n = none) : endHold n s = s := if_neg (by simp [h])

/-- Behind the end of a split hold the lane has none, whether it had one or not. -/
theorem holdSet_endHold (n : Nat) (s : State) : HoldSet n none s (endHold n s) := by
  cases h : s.hold n with
  | none => rw [endHold_stopped h]; exact ⟨h, fun _ _ => rfl⟩
  | some x =>
    have running : (s.hold n).isSome = true := by simp [h]
    rw [endHold_running running]
    exact .of_setHold (lt_holds_of_hold running) (holds_markRow _ _)

theorem rowsMarked_endHold (n : Nat) (s : State) : RowsMarked [] [n + 1] s (endHold n s) := by
  cases h : s.hold n with
  | none => rw [endHold_stopped h]; exact (RowsMarked.refl s).mono (by simp) (by simp)
  | some x =>
    rw [endHold_running (by simp [h])]
    exact ((rowsMarked_setHold n none s).trans (rowsMarked_markRow (n + 1) _)).mono (by simp) (by simp)

theorem holdSet_startHold {n : Nat} {s : State} (hn : n < s.board.holds.length) :
    HoldSet n (holdStarted s) s (startHold n s) := .of_setHold hn (holds_markRow _ _)

theorem rowsMarked_startHold (n : Nat) (s : State) : RowsMarked [n + 1] [n + 1] s (startHold n s) :=
  (rowsMarked_setHold n s.newHold s).trans (rowsMarked_markRow (n + 1) _)

/-! ## Markings that follow the clock, and slots -/

theorem exec_splitHoldExpiry {s : State} {n : Nat} {h : Timer} (hn : n < 10) (hh : s.hold n = some h)
    (hw : h.width ≤ interval h.start s.tick) : exec (.splitHoldExpiry n) s = .next (endHold n s) := by
  have expired : holdExpired n s = true := by simp [holdExpired, hh, hw]
  change execSplitHoldExpiry n s = _
  simp [execSplitHoldExpiry, Config.laneCount, Nat.not_le.mpr hn, expired]

theorem exec_headerTenths {s : State} (hr : s.race.state = .running) (hc : s.raceClock < 59999999)
    (hm : s.raceClock % 1000 = 0) : exec .headerTenths s = .next (markRow 0 s) := by
  have whole : clockMultiple 1000 s = true := by simp [clockMultiple, hr, hc, hm, Config.clockLimit]
  exact if_pos whole

/-- The rows of the swimming lanes whose split hold is not running, as the marking at a whole second finds them (R130). -/
theorem runningLanes_eq (s : State) : runningLanes s
    = (List.range 10).filter (fun n => decide ((s.lane n).state = .swimming ∧ s.hold n = none)) :=
  List.filter_congr fun n _ => by cases s.hold n <;> simp

theorem exec_runningSeconds {s : State} (hr : s.race.state = .running) (hc : s.raceClock < 59999999)
    (hm : s.raceClock % 10000 = 0) : exec .runningSeconds s = .next { s with
      board := s.board.markedAll (((List.range 10).filter
        (fun n => decide ((s.lane n).state = .swimming ∧ s.hold n = none))).map (· + 1)) } := by
  have whole : clockMultiple 10000 s = true := by simp [clockMultiple, hr, hc, hm, Config.clockLimit]
  have marked := forEach_markLaneRow_eq (runningLanes s) s
  rw [runningLanes_eq] at marked
  change execRunningSeconds s = _
  rw [execRunningSeconds, if_pos whole, runningLanes_eq, marked]

theorem exec_slotExpiry_low {s : State} {st : Tick} (hs : s.board.slot = some st)
    (hw : s.board.slotPeriod ≤ interval st s.tick) (hb : -8 < s.board.balance) :
    exec .slotExpiry s
      = .next { s with board := { s.board with slot := some s.tick, balance := s.board.balance - 1 } } := by
  have expired : slotExpired s = true := by simp [slotExpired, hs, hw]
  change execSlotExpiry s = _
  simp only [execSlotExpiry, expired, if_true]
  exact if_pos hb

theorem exec_slotExpiry_overdue {s : State} {st : Tick} (hs : s.board.slot = some st)
    (hw : s.board.slotPeriod ≤ interval st s.tick) (hb : s.board.balance = -8) :
    exec .slotExpiry s = .next { s with
      board := { s.board with slot := some s.tick }, link := s.link.withAlarm .boardOverdue none s.tick } := by
  have expired : slotExpired s = true := by simp [slotExpired, hs, hw]
  have bound : ¬ -Config.balanceBound < s.board.balance := by rw [hb]; decide
  change execSlotExpiry s = _
  simp only [execSlotExpiry, expired, bound, if_true, if_false, handAlarm_eq]

/-- Settles O22: each command by the state it leaves. -/
theorem clockMarkingsHoldsAndSlots : Obligations.ClockMarkingsHoldsAndSlots := by
  unfold Obligations.ClockMarkingsHoldsAndSlots
  refine ⟨⟨fun s hr hc => ⟨fun hm => ?_, fun hm => ?_⟩, fun s n h hn hh hw => ?_⟩, fun s st hs hw => ⟨fun hb => ?_, fun hb => ?_⟩⟩
  · exact ⟨_, exec_headerTenths hr hc hm, rowsMarked_markRow 0 s, holds_markRow 0 s,
      (exec_touches .headerTenths s) _ (exec_headerTenths hr hc hm)⟩
  · exact ⟨_, exec_runningSeconds hr hc hm, rowsMarked_markedAll rfl, Board.markedAll_holds _ _, changesOnly_board s _⟩
  · have taken := exec_splitHoldExpiry hn hh hw
    refine ⟨_, taken, ?_, holdSet_endHold n s, (exec_touches (.splitHoldExpiry n) s) _ taken⟩
    rw [endHold_running (by simp [hh])]
    exact (rowsMarked_setHold n none s).trans (rowsMarked_markRow (n + 1) _)
  · exact ⟨_, exec_slotExpiry_low hs hw hb, rfl, changesOnly_board s _⟩
  · exact ⟨_, exec_slotExpiry_overdue hs hw hb, rfl, rfl, changesOnly_board_link s _ _⟩

/-! ## The scheduler (R137) -/

theorem sum_bytes (bs : List Byte) : bs.sum = BitVec.ofNat 8 (bs.map (·.toNat)).sum := by
  induction bs with
  | nil => rfl
  | cons b bs ih => simp [ih, BitVec.ofNat_add]

/-- The check of a row's frame is the sum of its number and content modulo 256 (R139). -/
theorem rowFrame_eq (r : Nat) (content : List Byte) : rowFrame r content = frameOfRow r content := by
  have check : (byte r :: content).sum = BitVec.ofNat 8 ((r :: content.map (·.toNat)).sum) := by
    rw [List.sum_cons, List.sum_cons, BitVec.ofNat_add, ← sum_bytes]
    rfl
  rw [rowFrame, frameOfRow, check]
  rfl

theorem exists_unmasked {mask : List Bool} (h : 0 < unmaskedRows mask) : ∃ r < mask.length, mask.getD r false = false := by
  obtain ⟨m, hm, clear⟩ := List.countP_pos_iff.mp h
  obtain ⟨r, hr, rfl⟩ := List.getElem_of_mem hm
  exact ⟨r, hr, by simpa [hr] using clear⟩

/-- The search from the pointer on finds the round-robin row where some row is unmasked. -/
theorem roundRobinRow_eq_some {s : State} (hm : s.board.mask.length = 22) (hp : s.board.pointer < 22)
    (h : 0 < unmaskedRows s.board.mask) : ∃ r, roundRobinRow s = some r ∧ RoundRobin r s := by
  obtain ⟨q, hq, clear⟩ := exists_unmasked h
  rw [hm] at hq
  have found : ((List.range 22).find? fun i => !s.rowMasked ((s.board.pointer + i) % 22)).isSome = true := by
    refine List.find?_isSome.mpr ⟨(q + 22 - s.board.pointer) % 22, by simp; omega, ?_⟩
    have back : (s.board.pointer + (q + 22 - s.board.pointer) % 22) % 22 = q := by omega
    simpa [back, State.rowMasked] using clear
  obtain ⟨i, hi⟩ := Option.isSome_iff_exists.mp found
  obtain ⟨unmasked, inRange, earlier⟩ := List.find?_range_eq_some.mp hi
  rw [List.mem_range] at inRange
  refine ⟨(s.board.pointer + i) % 22, ?_, Nat.mod_lt _ (by omega), by simpa using unmasked, fun m hm22 hclear => ?_⟩
  · rw [roundRobinRow, List.find?_map]
    exact congrArg (Option.map _) hi
  · by_contra less
    have before := earlier ((m + 22 - s.board.pointer) % 22) (by omega)
    have back : (s.board.pointer + (m + 22 - s.board.pointer) % 22) % 22 = m := by omega
    simp [back, hclear] at before

theorem startRow_started (r : Nat) (rr : Bool) (s : State) : RowStarted r rr s (startRow r rr s) := by
  unfold RowStarted startRow beginByte
  rw [rowFrame_eq]
  cases hm : s.options.boardMode
  · simp [enterPhase]
  · simp [enterPhase, driveByte, frameOfRow]
  · simp [enterPhase, driveByte, frameOfRow]

theorem exec_rowStart {s : State} {r : Nat} {rr : Bool} (h : rowToStart s = some (r, rr)) :
    exec .rowStart s = .next (startRow r rr s) := by
  change execRowStart s = _
  rw [execRowStart, h]

theorem rowStarts {s : State} {r : Nat} {rr : Bool} (h : rowToStart s = some (r, rr)) :
    ∃ t, exec .rowStart s = .next t ∧ RowStarted r rr s t ∧ ChangesOnly [.board] s t :=
  ⟨_, exec_rowStart h, startRow_started r rr s, (exec_touches .rowStart s) _ (exec_rowStart h)⟩

/-- Settles O23, by the cases of R137. -/
theorem schedulerStartsARow : Obligations.SchedulerStartsARow := by
  unfold Obligations.SchedulerStartsARow
  intro s owning sending noYield noRelease mask pointer
  have free : linkFree s = true := by simp [linkFree, owning, sending, noYield, noRelease]
  have choice : rowToStart s = rowChoice s := if_pos free
  have bound : -Config.balanceBound = -8 := rfl
  refine ⟨fun hb hn => ?_, fun r q hb hq => rowStarts ?_, fun hb hq hlow hn => ?_, fun hq hb => ?_⟩
  · obtain ⟨r, found, robin⟩ := roundRobinRow_eq_some mask pointer hn
    have starts : rowToStart s = some (r, true) := by simp [choice, rowChoice, hb, bound, hn, found]
    obtain ⟨t, taken, started, only⟩ := rowStarts starts
    exact ⟨t, r, taken, robin, started, only⟩
  · have later : ¬ (s.board.balance = -Config.balanceBound ∧ 0 < unmaskedRows s.board.mask) := by rw [bound]; omega
    rw [choice, rowChoice, if_neg later, hq]
  · obtain ⟨r, found, robin⟩ := roundRobinRow_eq_some mask pointer hn
    have starts : rowToStart s = some (r, true) := by
      simp [choice, rowChoice, hb, hq, hn, found, Config.balanceBound, hlow]
    obtain ⟨t, taken, started, only⟩ := rowStarts starts
    exact ⟨t, r, taken, robin, started, only⟩
  · have later : ¬ (s.board.balance = -Config.balanceBound ∧ 0 < unmaskedRows s.board.mask) := by rw [bound]; omega
    have full : ¬ (s.board.balance < Config.balanceBound ∧ 0 < unmaskedRows s.board.mask) := by
      change ¬ (s.board.balance < 8 ∧ _)
      omega
    have none : rowToStart s = none := by rw [choice, rowChoice, if_neg later, hq]; exact if_neg full
    change execRowStart s = _
    rw [execRowStart, none]

/-! ## The passing of bytes (R139 to R142) -/

theorem nextByte_next {s : State} {x : Sending} {d : Drive} (hd : s.board.drive = some d) : NextByte x d s (nextByte x s) := by
  unfold NextByte nextByte beginByte
  cases hm : x.mode <;> simp [enterPhase, driveByte, driveStb, hd]

theorem Accepted.waitMet {x : Sending} {high : Bool} {s : State} (h : Accepted x high s) :
    waitMet x s.flagBefore high s.tick = true := by
  obtain ⟨phase, after, within, ⟨mode, busy⟩ | ⟨mode, accept, ready, busy⟩ | ⟨mode, accept, busy, ready⟩⟩ := h
  · simp [Machine.waitMet, phase, mode, busy, after, within]
  · simp [Machine.waitMet, phase, mode, accept, ready, busy, after, within]
  · simp [Machine.waitMet, phase, mode, accept, ready, busy, after, within]

theorem exec_flagWaitMet_ready {s : State} {x : Sending} {d : Drive} (hx : s.board.sending = some x)
    (hd : s.board.drive = some d) {high : Bool} (hp : x.phase = .waitReady) (hr : flagReady x.flagPolarity high = true)
    (hw : interval x.since s.tick ≤ x.byteTimeout) :
    exec (.flagWaitMet high) s = .next { s with
      pins := { s.pins with flag := high }
      board := { s.board with
        sending := some { x with phase := .settle, since := s.tick }, drive := some { d with data := x.bytes.headD 0 } } } := by
  have met : waitMet x s.flagBefore high s.tick = true := by simp [waitMet, hp, hr, hw]
  change execFlagWaitMet high s = _
  simp [execFlagWaitMet, flagStep, hx, met, hp, enterPhase, driveByte, State.sampleFlag, hd]

theorem exec_flagWaitMet_next {s : State} {x : Sending} (hx : s.board.sending = some x) {high : Bool} (ha : Accepted x high s)
    (hb : 2 ≤ x.bytes.length) : exec (.flagWaitMet high) s = .next (nextByte x (s.sampleFlag high)) := by
  have met := ha.waitMet
  have more : x.lastByte = false := by simp [Sending.lastByte]; omega
  change execFlagWaitMet high s = _
  simp [execFlagWaitMet, flagStep, hx, met, ha.1, more]

theorem exec_settleTimeExpiry_stb {s : State} {x : Sending} {d : Drive} (hx : s.board.sending = some x)
    (hd : s.board.drive = some d) (hp : x.phase = .settle) (hw : x.settle ≤ interval x.since s.tick) :
    exec .settleTimeExpiry s = .next { s with
      board := { s.board with
        sending := some { x with phase := if x.mode = .strobeMode then .strobe else .waitAccept, since := s.tick }
        drive := some { d with stb := true } } } := by
  have expired : settleExpired x s.tick = true := by simp [settleExpired, hp, hw]
  change execSettleTimeExpiry s = _
  cases hm : x.mode <;> simp [execSettleTimeExpiry, hx, expired, hp, hm, enterPhase, driveStb, hd]

theorem exec_settleTimeExpiry_next {s : State} {x : Sending} (hx : s.board.sending = some x) (hp : x.phase = .settleAfter)
    (hw : x.settle ≤ interval x.since s.tick) (hb : 2 ≤ x.bytes.length) :
    exec .settleTimeExpiry s = .next (nextByte x s) := by
  have more : x.lastByte = false := by simp [Sending.lastByte]; omega
  have expired : settleExpired x s.tick = true := by simp [settleExpired, hp, hw, more]
  change execSettleTimeExpiry s = _
  simp [execSettleTimeExpiry, hx, expired, hp]

theorem exec_strobeWidthExpiry {s : State} {x : Sending} {d : Drive} (hx : s.board.sending = some x)
    (hd : s.board.drive = some d) (hp : x.phase = .strobe) (hw : x.strobeWidth ≤ interval x.since s.tick) :
    exec .strobeWidthExpiry s = .next { s with
      board := { s.board with
        sending := some { x with phase := .settleAfter, since := s.tick }, drive := some { d with stb := false } } } := by
  have expired : strobeExpired x s.tick = true := by simp [strobeExpired, hp, hw]
  change execStrobeWidthExpiry s = _
  simp [execStrobeWidthExpiry, hx, expired, enterPhase, driveStb, hd]

/-- Settles O24, phase by phase. -/
theorem bytesArePassed : Obligations.BytesArePassed := by
  unfold Obligations.BytesArePassed
  intro s x d hx hd
  refine ⟨fun high hp hr hw => ?_, fun high ha hb => ?_, fun hp hw => ?_, fun hp hw => ?_, fun hp hw hb => ?_⟩
  · have taken := exec_flagWaitMet_ready hx hd hp hr hw
    exact ⟨_, taken, rfl, rfl, (exec_touches (.flagWaitMet high) s) _ taken⟩
  · have taken := exec_flagWaitMet_next hx ha hb
    refine ⟨_, taken, nextByte_next (s := s.sampleFlag high) hd, ?_, (exec_touches (.flagWaitMet high) s) _ taken⟩
    exact (nextByte_touches (s.sampleFlag high) x) .pins (by simp)
  · exact ⟨_, exec_settleTimeExpiry_stb hx hd hp hw, rfl, changesOnly_board s _⟩
  · exact ⟨_, exec_strobeWidthExpiry hx hd hp hw, rfl, changesOnly_board s _⟩
  · have taken := exec_settleTimeExpiry_next hx hp hw hb
    exact ⟨_, taken, nextByte_next hd, (exec_touches .settleTimeExpiry s) _ taken⟩

/-! ## The ends of a send (R138, R143) -/

theorem exec_rowComplete {s : State} {x : Sending} {high : Bool} (hx : s.board.sending = some x) (hl : x.bytes.length = 1)
    (he : Accepted x high s ∨ (x.phase = .settleAfter ∧ x.settle ≤ interval x.since s.tick)) :
    exec (.rowComplete high) s = .next { s with
      pins := { s.pins with flag := high }
      board := { completeBoard x s.board with drive := s.board.drive.map fun d => { d with stb := false } } } := by
  have last : x.lastByte = true := by simp [Sending.lastByte, hl]
  have ends : rowEnds x s.flagBefore high s.tick = true := by
    rcases he with ha | ⟨phase, settled⟩
    · simp [rowEnds, last, ha.1, ha.waitMet]
    · simp [rowEnds, last, phase, settled]
  change execRowComplete high s = _
  simp [execRowComplete, hx, ends, driveStb, State.sampleFlag, completeBoard]

theorem exec_boardStall {s : State} {x : Sending} (hx : s.board.sending = some x)
    (hp : x.phase = .waitReady ∨ x.phase = .waitAccept) (hw : x.byteTimeout < interval x.since s.tick) :
    exec .boardStall s = .next { s with
      board := { s.board with sending := none, drive := s.board.drive.map fun d => { d with stb := false } }
      link := s.link.withAlarm .boardStall none s.tick } := by
  have failed : waitFailed x s.tick = true := by simp [waitFailed, hp, hw]
  change execBoardStall s = _
  simp [execBoardStall, hx, failed, handAlarm_eq, abandonRow, driveStb]

theorem joinQueue_eq (r : Nat) (q : List Nat) (b : Bool) :
    (if b = true then joinQueue r q else q) = if b = true ∧ r ∉ q then q ++ [r] else q := by
  unfold joinQueue
  cases b <;> by_cases h : r ∈ q <;> simp [h]

/-- Settles O25: the complete send and the stalled one. -/
theorem sendsEndCompleteOrStalled : Obligations.SendsEndCompleteOrStalled := by
  unfold Obligations.SendsEndCompleteOrStalled
  refine ⟨fun s x d high hx hd hl he => ?_, fun s x d hx hd hp hw => ?_⟩
  · have taken := exec_rowComplete hx hl he
    refine ⟨_, taken, ?_, rfl, (exec_touches (.rowComplete high) s) _ taken⟩
    have pointer : (x.row + 1) % 22 = if x.row = 21 then 0 else (x.row + 1) % 22 := by split <;> omega
    simp only [completeBoard, hd, joinQueue_eq, Option.map_some, Config.rowCount, ← pointer]
    rfl
  · exact ⟨_, exec_boardStall hx hp hw, by rw [hd]; rfl, rfl, changesOnly_board_link s _ _⟩

/-! ## ROW_MASK (R135, R145) -/

theorem rowMaskOf_getD (p : List Byte) {r : Nat} (hr : r < 22) : (rowMaskOf p).getD r false = (numberOf p).testBit r := by
  simp [rowMaskOf, Config.rowCount, hr]

/-- The rows whose mask a ROW_MASK payload changes (R145). -/
def rowsRemasked (p : List Byte) (s : State) : List Nat :=
  (List.range 22).filter (fun r => decide (s.rowMasked r ≠ (numberOf p).testBit r))

theorem rowsRemasked_eq (p : List Byte) (s : State) :
    (List.range Config.rowCount).filter (fun r => decide (s.rowMasked r ≠ (rowMaskOf p).getD r false)) = rowsRemasked p s :=
  List.filter_congr fun r hr => by rw [rowMaskOf_getD p (List.mem_range.mp hr)]

/-- The board behind a ROW_MASK payload, before the slot timer follows the number of unmasked rows. -/
def Board.remasked (p : List Byte) (s : State) : Board :=
  { s.board with
    mask := rowMaskOf p
    queue := s.board.queue ++ (rowsRemasked p s).filter (fun r => decide (r ∉ s.board.queue))
    sending := s.board.sending.map (Sending.markedAll (rowsRemasked p s)) }

theorem actRowMask_eq (f : Frame) (s : State) :
    actRowMask f s = putReply f .ok [] (adjustSlot (unmaskedRows s.board.mask) { s with board := Board.remasked f.payload s }) := by
  have marked := forEach_markAnyRow (rowsRemasked f.payload s) { s with board := { s.board with mask := rowMaskOf f.payload } }
  have once : (rowsRemasked f.payload s).Nodup := List.nodup_range.filter _
  rw [markedAny_all once] at marked
  rw [actRowMask]
  dsimp only
  rw [rowsRemasked_eq, marked]
  rfl

/-- A change of the number of unmasked rows changes the board's slot timer only, and that of an OWNING unit only (R135). -/
theorem adjustSlot_eq (before : Nat) (s : State) : ∃ slot period, adjustSlot before s
      = { s with board := { s.board with slot := slot, slotPeriod := period } }
    ∧ (s.share.state ≠ .owning → slot = s.board.slot)
    ∧ (s.share.state = .owning → unmaskedRows s.board.mask = 0 → slot = none)
    ∧ (s.share.state = .owning → 0 < unmaskedRows s.board.mask → 0 < before → slot = s.board.slot)
    ∧ (s.share.state = .owning → 0 < unmaskedRows s.board.mask → before = 0 →
        slot = some s.tick ∧ period = s.options.refresh / unmaskedRows s.board.mask) := by
  unfold adjustSlot
  dsimp only
  split
  · next away => exact ⟨s.board.slot, s.board.slotPeriod, rfl, fun _ => rfl, by simp_all, by simp_all, by simp_all⟩
  split
  · next hn => exact ⟨none, s.board.slotPeriod, rfl, by simp_all, fun _ _ => rfl, by simp_all, by simp_all⟩
  split
  · next hn hb =>
    exact ⟨some s.tick, s.period, rfl, by simp_all, fun _ h => absurd h hn, fun _ _ h => absurd hb (Nat.ne_of_gt h),
      fun _ _ _ => ⟨rfl, rfl⟩⟩
  · next hn hb =>
    exact ⟨s.board.slot, s.board.slotPeriod, rfl, fun _ => rfl, fun _ h => absurd h hn, fun _ _ _ => rfl,
      fun _ _ h => absurd h hb⟩

/-- Settles O27: the board with its new masks and markings, and the slot timer by its four cases. -/
theorem rowMaskSetsTheMasks : Obligations.RowMaskSetsTheMasks := by
  unfold Obligations.RowMaskSetsTheMasks
  intro s f rest h hk
  have reply (c : ReplyCode) := putReply_popRequest h (by simp [hk]) c []
  refine ⟨fun hl => ?_, fun hl => ?_⟩
  · have taken : takePlain 0x23 (fun n => decide (n = 3)) actRowMask s = actRowMask f (popRequest s) :=
      takePlain_head h hk (by simp [hl])
    obtain ⟨slot, period, adjusted, away, none, kept, starts⟩ :=
      adjustSlot_eq (unmaskedRows s.board.mask) { popRequest s with board := Board.remasked f.payload s }
    have answered : actRowMask f (popRequest s)
        = { s with
            board := { Board.remasked f.payload s with slot := slot, slotPeriod := period }
            link := s.link.answered f rest .ok [] } := by
      rw [actRowMask_eq]
      refine (congrArg (putReply f .ok []) adjusted).trans ?_
      exact congrArg (fun t : State => { t with board := { Board.remasked f.payload s with slot := slot, slotPeriod := period } })
        (reply .ok)
    refine ⟨_, congrArg Host.Outcome.next (taken.trans answered), rfl, changesOnly_board_link s _ _, rfl, away, none, kept,
      fun ho hn stopped => starts ho hn (by omega)⟩
  · have refused : takePlain 0x23 (fun n => decide (n = 3)) actRowMask s = putReply f .badLength [] (popRequest s) :=
      takeRequest_badLength h hk rfl (by simp [hl])
    exact ⟨_, congrArg Host.Outcome.next (refused.trans (reply .badLength)), rfl, changesOnly_link s _⟩

end Sys2Proof.Machine
end

section
/-!
The Board Share Unit: the claim that is kept (R149, R152), the commands of the partner's lines and of the take wait (R149, R150,
R153), yields, losses and stops (R144, R154, R155), and BOARD_TAKE and BOARD_RELEASE (R151, R155).
-/
namespace Sys2Proof.Machine

section
variable (s : State)

theorem changesOnly_share_pins (x : Share) (d : Bool) (p : Pins) :
    ChangesOnly [.share, .pins] s { s with share := x, shareDue := d, pins := p } := by
  intro c hc; cases c <;> simp_all [Block.same]

theorem changesOnly_share_pins_link (x : Share) (d : Bool) (p : Pins) (k : Link) :
    ChangesOnly [.share, .pins, .link] s { s with share := x, shareDue := d, pins := p, link := k } := by
  intro c hc; cases c <;> simp_all [Block.same]

theorem changesOnly_share_pins_board_link (x : Share) (d : Bool) (p : Pins) (b : Board) (k : Link) :
    ChangesOnly [.share, .pins, .board, .link] s
      { s with share := x, shareDue := d, pins := p, board := b, link := k } := by
  intro c hc; cases c <;> simp_all [Block.same]

end

/-! ## Requests as changes of the link -/

theorem popRequest_head {f : Frame} {rest : List Frame} {s : State} (h : HeadRequest f rest s) :
    popRequest s = { s with link := s.link.taken rest } := by
  obtain ⟨hb, -, -, -⟩ := h
  simp [popRequest, Link.taken, hb]

theorem putReply_eq {f : Frame} (hk : f.kind.toNat < 0x80) (c : ReplyCode) (x : List Byte) (s : State) :
    putReply f c x s = { s with link := s.link.replied f c x } := by
  simp [putReply, Link.replied, replyTo, replyKind, hk]

/-! ## Gaining the board (R149, R152) -/

theorem exec_claimWindowEnd {s : State} {c : Tick} (hc : s.share.claim = some c) (hw : 10 ≤ interval c s.tick)
    (ho : s.share.unitA = true ∨ s.pins.share.own = false) : exec .claimWindowEnd s = .next (gainBoard s) := by
  have won : claimWon s = true := by
    rcases ho with ho | ho <;> simp [claimWon, hc, ho, Config.claimWindow, hw]
  change execClaimWindowEnd s = _
  rw [execClaimWindowEnd, if_pos won]

/-- The board of a unit that has just gained it, before the repaint. -/
def Board.gained (s : State) : Board :=
  { s.board with
    drive := some { data := 0, stb := false }, balance := 0
    slot := if 0 < unmaskedRows s.board.mask then some s.tick else none
    slotPeriod := if 0 < unmaskedRows s.board.mask then s.options.refresh / unmaskedRows s.board.mask
      else s.board.slotPeriod }

/-- Different rows marked in turn, by the queue they leave (R133). -/
theorem markedAll_eq_queued {rs : List Nat} (h : rs.Nodup) (b : Board) : b.markedAll rs
    = { b with
        queue := b.queue ++ rs.filter (fun r => decide (b.mask.getD r false = false ∧ r ∉ b.queue))
        sending := (b.markedAll rs).sending } := by
  rw [← Board.markedAll_queue h b]
  calc b.markedAll rs
    _ = { { b.markedAll rs with queue := b.queue, sending := b.sending } with
          queue := (b.markedAll rs).queue, sending := (b.markedAll rs).sending } := rfl
    _ = _ := by rw [Board.markedAll_kept]

theorem gainBoard_board (s : State) : (gainBoard s).board = (Board.gained s).markedAll (List.range 22) := by
  rw [gainBoard_eq, Board.gained]

/-- Rows marked on a board that has the queue, the row in transmission and the masks of the state before. -/
theorem queueMarked_markedAll {rs : List Nat} {b : Board} {s t : State} (h : t.board = b.markedAll rs)
    (hq : b.queue = s.board.queue) (hs : b.sending = s.board.sending) (hm : b.mask = s.board.mask) :
    QueueMarked rs rs s t :=
  (rowsMarked_markedAll (s := { s with board := b }) h).toQueueMarked.of_same hq hs hm

/-- Settles O28: the board is that of a gained unit, repainted. -/
theorem wonClaimGainsTheBoard : Obligations.WonClaimGainsTheBoard := by
  unfold Obligations.WonClaimGainsTheBoard
  intro s c hc hw ho
  have taken := exec_claimWindowEnd hc hw ho
  refine ⟨_, taken, ?_, queueMarked_markedAll (gainBoard_board s) rfl rfl rfl, ?_, ?_, (exec_touches .claimWindowEnd s) _ taken⟩
  · rw [gainBoard_eq]
  · rw [gainBoard_board]
    exact markedAll_eq_queued List.nodup_range (Board.gained s)
  · rw [gainBoard_eq]

/-! ## The partner's lines (R149, R150) and asking (R153) -/

theorem exec_claimWithdrawn {s : State} {v : ShareLevels} {c : Tick} (hc : s.share.claim = some c)
    (hw : 1 ≤ interval c s.tick) (hu : s.share.unitA = false) (hv : v.own = true) :
    exec (.claimWithdrawn v) s = .next { s with
      pins := { s.pins with share := v }
      share := { s.share with state := .partnerOwns, claim := none, takeWait := none, reqRun := s.share.reqRun && v.req }
      shareDue := false
      link := s.link.withBoard .partnerOwns s.share.state false .withdrawn } := by
  have lost : withdraws (s.sampleShare v) = true := by simp [withdraws, State.sampleShare, hc, hw, hu, hv]
  change execClaimWithdrawn v s = _
  simp only [execClaimWithdrawn, lost, if_true, setOwnership_eq]
  simp [State.sampleShare, dropAsk, hu]

theorem exec_partnerTook {s : State} {v : ShareLevels} (hf : s.share.state = .free) (hc : s.share.claim = none)
    (hv : v.own = true) :
    exec (.partnerTook v) s = .next { s with
      pins := { s.pins with share := v }
      share := { s.share with state := .partnerOwns, reqRun := s.share.reqRun && v.req }
      shareDue := false
      link := s.link.withBoard .partnerOwns .free s.share.unitA .partnerTook } := by
  have took : partnerTakes (s.sampleShare v) = true := by simp [partnerTakes, State.sampleShare, hf, hc, hv]
  change execPartnerTook v s = _
  simp only [execPartnerTook, took, if_true, setOwnership_eq]
  simp [State.sampleShare, hf]

theorem exec_boardFree {s : State} {v : ShareLevels} (hp : s.share.state = .partnerOwns) (hv : v.own = false)
    (hr : v.req = false) :
    exec (.boardFree v) s = .next { s with
      pins := { s.pins with share := v }
      share := { s.share with
        state := .free, reqRun := false
        claim := if s.options.takeWhenFree then some s.tick else s.share.claim
        takeWait := if s.options.takeWhenFree then none else s.share.takeWait }
      shareDue := false
      link := s.link.withBoard .free .partnerOwns s.share.unitA .free } := by
  have free : boardIsFree (s.sampleShare v) = true := by simp [boardIsFree, State.sampleShare, hp, hv, hr]
  change execBoardFree v s = _
  simp only [execBoardFree, free, if_true, enterFree, setOwnership_eq]
  cases ht : s.options.takeWhenFree <;> simp [State.sampleShare, beginClaim, hp, hr, ht]

theorem exec_claimOnOwnInInactive {s : State} {v : ShareLevels} (ha : s.share.state = .asking ∨ s.share.state = .forcing)
    (hc : s.share.claim = none) (hv : v.own = false) :
    exec (.claimOnOwnInInactive v) s = .next { s with
      pins := { s.pins with share := v }
      share := { s.share with claim := some s.tick, takeWait := none, reqRun := s.share.reqRun && v.req }
      shareDue := false } := by
  have opens : claimOpens (s.sampleShare v) = true := by
    simp [claimOpens, askingOrForcing, State.sampleShare, hc, hv, ha]
  change execClaimOnOwnInInactive v s = _
  simp only [execClaimOnOwnInInactive, opens, if_true]
  rfl

theorem exec_takeWaitExpiry {s : State} {st : Tick} (ha : s.share.state = .asking ∨ s.share.state = .forcing)
    (hc : s.share.claim = none) (ht : s.share.takeWait = some st) (hw : s.tested.takeWait ≤ interval st s.tick) :
    exec .takeWaitExpiry s = .next (failOrForce s) := by
  have expired : takeWaitExpired s = true := by simp [takeWaitExpired, askingOrForcing, hc, ht, hw, ha]
  change execTakeWaitExpiry s = _
  rw [execTakeWaitExpiry, if_pos expired]

theorem failOrForce_forces {s : State} (ha : s.share.state = .asking) (hf : s.share.force = true) :
    failOrForce s = { s with
      share := { s.share with state := .forcing, takeWait := some s.tick }
      link := s.link.withBoard .forcing .asking s.share.unitA .forcing } := by
  simp only [failOrForce, ha, hf, and_self, if_true, setOwnership_eq]

theorem failOrForce_fails {s : State} (h : s.share.state = .forcing ∨ s.share.force = false) (hc : s.share.claim = none) :
    failOrForce s = { s with
      share := { s.share with state := .partnerOwns, takeWait := none }
      link := s.link.withBoard .partnerOwns s.share.state s.share.unitA .takeFailed } := by
  have fails : ¬ (s.share.state = .asking ∧ s.share.force = true) := by rcases h with h | h <;> simp [h]
  simp only [failOrForce, if_neg fails, setOwnership_eq, dropAsk]
  rw [← hc]

/-- Settles O29, command by command. -/
theorem partnerLinesAndAsking : Obligations.PartnerLinesAndAsking := by
  unfold Obligations.PartnerLinesAndAsking
  refine ⟨fun s v => ⟨fun c hc hw hu hv => ?_, fun hf hc hv => ?_, fun hp hv hr => ?_⟩,
    fun s ha hc => ⟨fun v hv => ?_, fun st ht hw => ⟨fun hs hf => ?_, fun h => ?_⟩⟩⟩
  · exact ⟨_, exec_claimWithdrawn hc hw hu hv, rfl, rfl, rfl, changesOnly_share_pins_link s _ _ _ _⟩
  · exact ⟨_, exec_partnerTook hf hc hv, rfl, rfl, rfl, changesOnly_share_pins_link s _ _ _ _⟩
  · exact ⟨_, exec_boardFree hp hv hr, rfl, rfl, rfl, changesOnly_share_pins_link s _ _ _ _⟩
  · exact ⟨_, exec_claimOnOwnInInactive ha hc hv, rfl, rfl, changesOnly_share_pins s _ _ _⟩
  · exact ⟨_, (exec_takeWaitExpiry ha hc ht hw).trans (congrArg _ (failOrForce_forces hs hf)), rfl, rfl,
      changesOnly_share_link s _ _ _⟩
  · exact ⟨_, (exec_takeWaitExpiry ha hc ht hw).trans (congrArg _ (failOrForce_fails h hc)), rfl, rfl,
      changesOnly_share_link s _ _ _⟩

/-! ## An OWNING unit (R144, R154, R155) -/

theorem stopReady_iff (s : State) : stopReady s = true ↔ StopIsDue s := by
  simp [stopReady, StopIsDue, and_assoc]

theorem readsRequest_sample {s : State} {v : ShareLevels} (ho : s.share.state = .owning) (hv : v.req = true)
    (h : ¬ StopIsDue s) : readsRequest (s.sampleShare v) = true := by
  have running : stopReady (s.sampleShare v) = false := Bool.eq_false_iff.mpr fun k => h ((stopReady_iff s).mp k)
  simp only [readsRequest, running]
  simp [State.sampleShare, ho, hv]

theorem exec_reqInActive {s : State} {v : ShareLevels} (ho : s.share.state = .owning) (hv : v.req = true)
    (h : ¬ StopIsDue s) : exec (.reqInActive v) s = .next (onRequest (s.sampleShare v)) := by
  change execReqInActive v s = _
  rw [execReqInActive]
  exact if_pos (readsRequest_sample ho hv h)

theorem exec_boardLost {s : State} {v : ShareLevels} (ho : s.share.state = .owning) (hv : v.force = true)
    (h : ¬ StopIsDue s) :
    exec (.boardLost v) s = .next { s with
      pins := { s.pins with share := v }
      share := { s.share with
        state := .partnerOwns, yieldPending := false, releasePending := false, reqRun := false, reqDue := false }
      shareDue := false, board := s.board.released
      link := (s.link.withAlarm .boardLost none s.tick).withBoard .partnerOwns .owning s.share.unitA .lost } := by
  have running : stopReady (s.sampleShare v) = false := Bool.eq_false_iff.mpr fun k => h ((stopReady_iff s).mp k)
  have lost : forcedOff (s.sampleShare v) = true := by
    simp only [forcedOff, running]
    simp [State.sampleShare, ho, hv]
  change execBoardLost v s = _
  simp only [execBoardLost, lost, if_true, setOwnership_eq, handAlarm_eq]
  simp [State.sampleShare, loseBoard, abandonRow, driveStb, Board.released, ho]

theorem exec_stopFirst {s : State} {v : ShareLevels} {c : Instr} (hc : c = .reqInActive v ∨ c = .boardLost v)
    (h : StopIsDue s) : exec c s = .next (s.sampleShare v) := by
  have ready : stopReady (s.sampleShare v) = true := (stopReady_iff s).mpr h
  rcases hc with rfl | rfl
  · change execReqInActive v s = _
    simp [execReqInActive, readsRequest, ready]
  · change execBoardLost v s = _
    simp [execBoardLost, forcedOff, ready]

theorem exec_stopAfterRow {s : State} (h : StopIsDue s) : exec .stopAfterRow s = .next (leaveByRelease s) := by
  change execStopAfterRow s = _
  rw [execStopAfterRow, if_pos ((stopReady_iff s).mpr h)]

theorem leaveByRelease_yield {s : State} (h : s.share.yieldPending = true) : leaveByRelease s = leaveByYield s := if_pos h

/-- Settles O30, by what the unit reads and what stands pending. -/
theorem owningUnitYieldsAndLeaves : Obligations.OwningUnitYieldsAndLeaves := by
  unfold Obligations.OwningUnitYieldsAndLeaves
  refine ⟨fun s v ho => ⟨fun hv hs hy hp hn => ?_, fun hv hy hn => ?_, fun hv hs hy hr => ?_, fun hv hs hy hr => ?_,
    fun hv hs => ?_, fun c hc hs => ?_⟩, fun s ho hn => ⟨fun hy => ?_, fun hy hr => ?_⟩⟩
  · have yields : onRequest (s.sampleShare v) = leaveByYield { s.sampleShare v with
        share := { (s.sampleShare v).share with reqRun := true, reqDue := false } } := by
      simp [onRequest, State.sampleShare, hy, hp, hn]
    refine ⟨_, (exec_reqInActive ho hv hs).trans (congrArg _ (yields.trans (leaveByYield_eq _))), rfl, rfl, ?_, rfl,
      changesOnly_share_pins_board_link s _ _ _ _ _⟩
    exact congrArg (fun o => s.link.withBoard .partnerOwns o s.share.unitA .yielded) ho
  · have running : ¬ StopIsDue s := fun h => hn h.2.2
    have waits : onRequest (s.sampleShare v) = { s.sampleShare v with
        share := { s.share with yieldPending := true, reqRun := true, reqDue := false } } := by
      cases hp : s.share.yieldPending with
      | false => simp [onRequest, State.sampleShare, hy, hp, hn]
      | true =>
        rw [← hp]
        simp [onRequest, State.sampleShare, hy, hp]
    exact ⟨_, (exec_reqInActive ho hv running).trans (congrArg _ waits), rfl, rfl, changesOnly_share_pins s _ _ _⟩
  · have asks : onRequest (s.sampleShare v) = { s with
        pins := { s.pins with share := v }
        share := { s.share with reqRun := true, reqDue := false }
        link := s.link.withBoard .owning .owning s.share.unitA .asked } := by
      simp [onRequest, State.sampleShare, hy, hr, handBoard_eq, ho]
    exact ⟨_, (exec_reqInActive ho hv hs).trans (congrArg _ asks), rfl, rfl, rfl, changesOnly_share_pins_link s _ _ _ _⟩
  · have asked : onRequest (s.sampleShare v) = { s with
        pins := { s.pins with share := v }, share := { s.share with reqDue := false } } := by
      simp [onRequest, State.sampleShare, hy, hr, hv]
    exact ⟨_, (exec_reqInActive ho hv hs).trans (congrArg _ asked), rfl, rfl, changesOnly_share_pins s _ _ _⟩
  · exact ⟨_, exec_boardLost ho hv hs, rfl, rfl, rfl, rfl, changesOnly_share_pins_board_link s _ _ _ _ _⟩
  · exact ⟨_, exec_stopFirst hc hs, rfl, rfl, sampleShare_touches s v⟩
  · refine ⟨_, (exec_stopAfterRow ⟨ho, .inl hy, hn⟩).trans
      (congrArg _ ((leaveByRelease_yield hy).trans (leaveByYield_eq s))), rfl, rfl, ?_, changesOnly_share_board_link s _ _ _ _⟩
    exact congrArg (fun o => s.link.withBoard .partnerOwns o s.share.unitA .yielded) ho
  · refine ⟨_, (exec_stopAfterRow ⟨ho, .inr hr, hn⟩).trans (congrArg _ (leaveByRelease_eq hy)), rfl, rfl, ?_,
      changesOnly_share_board_link s _ _ _ _⟩
    exact congrArg (fun o => s.link.withBoard (if s.pins.share.own then .partnerOwns else .free) o s.share.unitA .released) ho

/-! ## BOARD_TAKE (R151) -/

/-- A BOARD_TAKE of one byte is taken by its block. -/
theorem exec_boardTake {s : State} {f : Frame} {rest : List Frame} (h : HeadRequest f rest s) (hk : f.kind = 0x20)
    {flag : Byte} (hf : f.payload = [flag]) : exec .boardTake s = .next (actBoardTake f (popRequest s)) :=
  congrArg Host.Outcome.next (takeRequest_head h hk rfl (by simp [hf]))

/-- A BOARD_TAKE that changes nothing but the link. -/
theorem boardTake_answers {s : State} {f : Frame} {rest : List Frame} (h : HeadRequest f rest s) (hk : f.kind = 0x20)
    {flag : Byte} (hf : f.payload = [flag]) {c : ReplyCode}
    (hact : actBoardTake f (popRequest s) = putReply f c (ownershipField s) (popRequest s)) :
    ∃ t, exec .boardTake s = .next t ∧ t.link = s.link.answered f rest c [ownershipCode s.share.state]
      ∧ ChangesOnly [.link] s t :=
  ⟨_, (exec_boardTake h hk hf).trans (congrArg _ (hact.trans (putReply_popRequest h (by simp [hk]) _ _))), rfl,
    changesOnly_link s _⟩

/-- Settles O31, by the payload and the ownership state. -/
theorem boardTakeByOwnershipState : Obligations.BoardTakeByOwnershipState := by
  unfold Obligations.BoardTakeByOwnershipState
  intro s f rest h hk
  have kind : f.kind.toNat < 0x80 := by simp [hk]
  refine ⟨fun hl => ?_, fun flag hf => ?_⟩
  · have refused : exec .boardTake s = .next (putReply f .badLength (ownershipField s) (popRequest s)) :=
      congrArg Host.Outcome.next (takeRequest_badLength h hk rfl (by simp [hl]))
    exact ⟨_, refused.trans (congrArg _ (putReply_popRequest h kind _ _)), rfl, changesOnly_link s _⟩
  have flagByte0 : byteAt f.payload 0 = flag := by simp [hf, byteAt]
  refine ⟨fun hover => boardTake_answers h hk hf ?_, fun hflag hfree hc => ?_, fun hflag hbusy => boardTake_answers h hk hf ?_,
    fun hflag hp => ?_, fun hflag ho => ?_⟩
  · rw [actBoardTake, flagByte0]
    exact if_pos hover
  · have act : actBoardTake f (popRequest s) = putReply f .ok (ownershipField s) (beginClaim (popRequest s)) := by
      simp [actBoardTake, flagByte0, Nat.not_lt.mpr hflag, hfree, hc, ownershipField]
    refine ⟨{ s with share := { s.share with claim := some s.tick, takeWait := none }, link := s.link.answered f rest .ok [0] },
      (exec_boardTake h hk hf).trans (congrArg _ (act.trans ?_)), rfl, rfl, changesOnly_share_link s _ s.shareDue _⟩
    rw [popRequest_head h, putReply_eq kind, ownershipField, hfree]
    rfl
  · rcases hbusy with hs | hs | ⟨hs, hc⟩
    · simp [actBoardTake, flagByte0, Nat.not_lt.mpr hflag, hs, ownershipField]
    · simp [actBoardTake, flagByte0, Nat.not_lt.mpr hflag, hs, ownershipField]
    · simp [actBoardTake, flagByte0, Nat.not_lt.mpr hflag, hs, ownershipField, Option.isSome_iff_ne_none.mpr hc]
  · have act : actBoardTake f (popRequest s)
        = putReply f .ok (ownershipField (beginAsk (decide (flag = 1)) (popRequest s)))
            (beginAsk (decide (flag = 1)) (popRequest s)) := by
      simp [actBoardTake, flagByte0, Nat.not_lt.mpr hflag, hp]
    refine ⟨{ s with
        share := { s.share with state := .asking, force := decide (flag = 1), takeWait := some s.tick }, shareDue := false
        link := ((s.link.taken rest).withBoard .asking .partnerOwns s.share.unitA .asking).replied f .ok [3] },
      (exec_boardTake h hk hf).trans (congrArg _ (act.trans ?_)), rfl, rfl, changesOnly_share_link s _ _ _⟩
    rw [putReply_eq kind, beginAsk, setOwnership_eq, popRequest_head h, ownershipField]
    simp [hp, ownershipCode]
  · obtain ⟨t, taken, link, only⟩ := boardTake_answers h hk hf (c := .ok) (by
      simp [actBoardTake, flagByte0, Nat.not_lt.mpr hflag, ho, ownershipField])
    exact ⟨t, taken, by rw [link, ho]; rfl, only⟩

/-! ## BOARD_RELEASE (R155) -/

theorem exec_boardRelease {s : State} {f : Frame} {rest : List Frame} (h : HeadRequest f rest s) (hk : f.kind = 0x21)
    (hf : f.payload = []) : exec .boardRelease s = .next (actBoardRelease f (popRequest s)) :=
  congrArg Host.Outcome.next (takePlain_head h hk (by simp [hf]))

/-- A BOARD_RELEASE answers with the ownership state that it leaves. -/
theorem exec_boardRelease_of {s t : State} {f : Frame} {rest : List Frame} (h : HeadRequest f rest s) (hk : f.kind = 0x21)
    (hf : f.payload = []) (hact : releaseBoard { s with link := s.link.taken rest } = t) :
    exec .boardRelease s = .next { t with link := t.link.replied f .ok [ownershipCode t.share.state] } := by
  rw [exec_boardRelease h hk hf, actBoardRelease, popRequest_head h, hact]
  exact congrArg Host.Outcome.next (putReply_eq (by simp [hk]) _ _ _)

/-- Settles O32, by the ownership state. -/
theorem boardReleaseByOwnershipState : Obligations.BoardReleaseByOwnershipState := by
  unfold Obligations.BoardReleaseByOwnershipState
  intro s f rest h hk
  refine ⟨fun hf => ?_, fun hf => ⟨fun ho hy hr hn => ?_, fun ho hy hr hn => ?_, fun hs => ?_, fun hfree hc => ?_, fun ha => ?_⟩⟩
  · have refused : exec .boardRelease s = .next (putReply f .badLength [] (popRequest s)) :=
      congrArg Host.Outcome.next (takeRequest_badLength h hk rfl (by simpa using hf))
    exact ⟨_, refused.trans (congrArg _ (putReply_popRequest h (by simp [hk]) _ _)), rfl, changesOnly_link s _⟩
  · have leaves : releaseBoard { s with link := s.link.taken rest } = leaveByRelease { s with link := s.link.taken rest } := by
      simp [releaseBoard, ho, hy, hr, hn]
    rw [leaveByRelease_eq (s := { s with link := s.link.taken rest }) hy] at leaves
    refine ⟨_, exec_boardRelease_of h hk hf leaves, rfl, rfl, ?_, changesOnly_share_board_link s _ _ _ _⟩
    simp [ho]
  · have waits : releaseBoard { s with link := s.link.taken rest }
        = { s with link := s.link.taken rest, share := { s.share with releasePending := true } } := by
      simp [releaseBoard, ho, hy, hr, hn]
    refine ⟨_, exec_boardRelease_of h hk hf waits, rfl, ?_, changesOnly_share_link s _ s.shareDue _⟩
    simp [ho, Link.taken, Link.replied, Link.answered, ownershipCode]
  · have stays : releaseBoard { s with link := s.link.taken rest } = { s with link := s.link.taken rest } := by
      rcases hs with ⟨ho, hy | hr⟩ | ⟨hfree, hc⟩ | hp
      · simp [releaseBoard, ho, hy]
      · simp [releaseBoard, ho, hr]
      · have ends : releaseBoard { s with link := s.link.taken rest }
            = { s with link := s.link.taken rest, share := { s.share with claim := none } } := by simp [releaseBoard, hfree]
        rw [ends, ← hc]
      · simp [releaseBoard, hp]
    exact ⟨_, exec_boardRelease_of h hk hf stays, rfl, changesOnly_link s _⟩
  · have ends : releaseBoard { s with link := s.link.taken rest }
        = { s with link := s.link.taken rest, share := { s.share with claim := none } } := by
      simp [releaseBoard, hfree]
    refine ⟨_, exec_boardRelease_of h hk hf ends, rfl, ?_, changesOnly_share_link s _ s.shareDue _⟩
    simp [hfree, Link.taken, Link.replied, Link.answered, ownershipCode]
  · have ends : releaseBoard { s with link := s.link.taken rest }
        = setOwnership (if s.pins.share.own then .partnerOwns else .free) .released
            (dropAsk { s with link := s.link.taken rest }) := by
      rcases ha with ha | ha <;> simp [releaseBoard, ha]
    rw [setOwnership_eq] at ends
    exact ⟨_, exec_boardRelease_of h hk hf ends, rfl, rfl, changesOnly_share_link s _ _ _⟩

end Sys2Proof.Machine
end

section
/-!
Requests in general (R24, R27, R168): each request command as one row of kind, frames, length and act; which commands complete (R4);
the refusals of ADJUST_LENGTH and DECLARE (R72, R111); WATCH and CANCEL_WATCH (R171, R172).
-/
namespace Sys2Proof.Machine

/-! ## The request commands as rows -/

/-- What distinguishes one request command from another: its kind, the payloads it takes, the lengths allowed, the fields of its
BAD_LENGTH reply and what its block does. -/
structure RequestForm where
  kind : Byte
  mine : List Byte → Bool
  lengthOk : Nat → Bool
  bad : State → List Byte
  act : Frame → State → State

/-- A request all of whose frames are its own. -/
def RequestForm.plain (kind : Byte) (lengthOk : Nat → Bool) (act : Frame → State → State) : RequestForm :=
  { kind, mine := fun _ => true, lengthOk, bad := fun _ => [], act }

/-- The row of a declaration. -/
def RequestForm.declare (d : Byte) (raceOk : RaceState → Bool) (laneOk : Lane → Bool) (effect : Nat → State → State) :
    RequestForm :=
  { kind := 0x1B, mine := declareMine d, lengthOk := fun n => decide (n = 2), bad := fun _ => []
    act := actDeclare raceOk laneOk effect }

/-- The rows of the requests. -/
def requestForm : Instr → Option RequestForm
  | .status => some (.plain 0x01 (fun n => decide (n = 0)) actStatus)
  | .setOptions => some (.plain 0x02 (fun n => decide (n = 50)) actSetOptions)
  | .readOptions => some (.plain 0x03 (fun n => decide (n = 0)) fun f t => putReply f .ok (optionsBytes t.options) t)
  | .lineMask => some (.plain 0x04 (fun n => decide (n = 8)) actLineMask)
  | .lineLevels => some (.plain 0x05 (fun n => decide (n = 0)) fun f t => putReply f .ok (lineLevels t) t)
  | .loadEvent => some (.plain 0x08 (fun n => decide (26 ≤ n)) actLoadEvent)
  | .setLane => some (.plain 0x09 (fun n => decide (2 ≤ n)) actSetLane)
  | .setRecord => some (.plain 0x0A (fun n => decide (n = 8)) actSetRecord)
  | .clearRace => some (.plain 0x0B (fun n => decide (n = 0)) actClearRace)
  | .arm => some (.plain 0x10 (fun n => decide (n = 0)) actArm)
  | .recallRace => some (.plain 0x11 (fun n => decide (n = 0)) actRecall)
  | .stopRace => some (.plain 0x12 (fun n => decide (n = 0)) actStop)
  | .adjustLengthPlusOne => some ⟨0x13, adjustMine 0x01, fun n => decide (n = 2), fun _ => [], actAdjustPlus⟩
  | .adjustLengthMinusOne => some ⟨0x13, adjustMine 0xFF, fun n => decide (n = 2), fun _ => [], actAdjustMinus⟩
  | .adjudicate => some (.plain 0x14 (fun n => decide (n = 6)) actAdjudicate)
  | .declareDns => some (.declare 0 (fun r => decide (r = .loaded ∨ r = .armed ∨ r = .running)) dnsLane declareDnsLane)
  | .declareDnf => some (.declare 1 (fun r => decide (r = .running)) (fun l => decide (l.state = .swimming)) declareDnfLane)
  | .declareDq => some (.declare 2 judgingState dqLane declareDqLane)
  | .declareReinstate => some (.declare 3 judgingState (fun _ => true) declareReinstateLane)
  | .close => some (.plain 0x1A (fun n => decide (n = 0)) actClose)
  | .readLane => some (.plain 0x15 (fun n => decide (n = 1)) actReadLane)
  | .readSplits => some (.plain 0x16 (fun n => decide (n = 2)) actReadSplits)
  | .readRanking => some (.plain 0x17 (fun n => decide (n = 0)) fun f t => putReply f .ok (rankingReply t) t)
  | .watch => some (.plain 0x18 (fun n => decide (n = 11)) actWatch)
  | .cancelWatch => some (.plain 0x19 (fun n => decide (n = 0)) actCancelWatch)
  | .boardTake => some ⟨0x20, fun _ => true, fun n => decide (n = 1), ownershipField, actBoardTake⟩
  | .boardRelease => some (.plain 0x21 (fun n => decide (n = 0)) actBoardRelease)
  | .boardText => some (.plain 0x22 (fun _ => true) actBoardText)
  | .rowMask => some (.plain 0x23 (fun n => decide (n = 3)) actRowMask)
  | .readAlarms => some (.plain 0x28 (fun n => decide (n = 0)) fun f t => putReply f .ok (alarmsReply t) t)
  | .clearAlarms => some (.plain 0x29 (fun n => decide (n = 0)) actClearAlarms)
  | .reset => some (.plain 0x3F (fun n => decide (n = 0)) actReset)
  | _ => none

/-- A request command takes a request by its row. -/
theorem exec_request {c : Instr} {r : RequestForm} (h : requestForm c = some r) (s : State) :
    exec c s = .next (takeRequest r.kind r.mine r.lengthOk r.bad r.act s) := by
  cases c <;> cases h <;> rfl

/-- The row that the opcode table's request `x` has: its kind, its lengths, its frames and its BAD_LENGTH fields. -/
structure FormOf (x : Instr × Byte × (Nat → Bool) × Option Byte) (r : RequestForm) : Prop where
  form : requestForm x.1 = some r
  kind : r.kind = x.2.1
  lengthOk : ∀ n, r.lengthOk n = x.2.2.1 n
  mine : ∀ p, (∀ b, x.2.2.2 = some b → p.length ≠ 2 ∨ byteAt p 1 = b) → r.mine p = true
  low : x.2.1.toNat < 0x80
  bad : ∀ s, r.bad s = if x.1 = .boardTake then [ownershipCode s.share.state] else []
  short : x.2.2.2.isSome = true → ∀ n, x.2.2.1 n = false → n ≠ 2

theorem formOf_plain {c : Instr} {kind : Byte} {table lengthOk : Nat → Bool} {act : Frame → State → State}
    (form : requestForm c = some (.plain kind lengthOk act)) (hl : ∀ n, lengthOk n = table n) (low : kind.toNat < 0x80)
    (hc : c ≠ .boardTake) : FormOf (c, kind, table, none) (.plain kind lengthOk act) where
  form := form
  kind := rfl
  lengthOk := hl
  mine _ _ := rfl
  low := low
  bad _ := (if_neg hc).symm
  short := by simp

theorem formOf_adjust {c : Instr} {d : Byte} {act : Frame → State → State}
    (form : requestForm c = some ⟨0x13, adjustMine d, fun n => decide (n = 2), fun _ => [], act⟩) (hc : c ≠ .boardTake) :
    FormOf (c, 0x13, fun n => n == 2, some d) ⟨0x13, adjustMine d, fun n => decide (n = 2), fun _ => [], act⟩ where
  form := form
  kind := rfl
  lengthOk _ := rfl
  mine p hp := by rcases hp d rfl with h | h <;> simp [adjustMine, h]
  low := (by decide : (0x13 : Byte).toNat < 0x80)
  bad _ := (if_neg hc).symm
  short := by simp

theorem formOf_declare {c : Instr} {d : Byte} {raceOk : RaceState → Bool} {laneOk : Lane → Bool}
    {effect : Nat → State → State} (form : requestForm c = some (.declare d raceOk laneOk effect)) (hc : c ≠ .boardTake) :
    FormOf (c, 0x1B, fun n => n == 2, some d) (.declare d raceOk laneOk effect) where
  form := form
  kind := rfl
  lengthOk _ := rfl
  mine p hp := by
    change declareMine d p = true
    rcases hp d rfl with h | h <;> simp [declareMine, h]
  low := (by decide : (0x1B : Byte).toNat < 0x80)
  bad _ := (if_neg hc).symm
  short := by simp

theorem formOf_boardTake : FormOf (.boardTake, 0x20, fun n => n == 1, none)
    ⟨0x20, fun _ => true, fun n => decide (n = 1), ownershipField, actBoardTake⟩ where
  form := rfl
  kind := rfl
  lengthOk _ := rfl
  mine _ _ := rfl
  low := by decide
  bad _ := rfl
  short := by simp

/-- Every request of the opcode table has its row. -/
theorem exists_formOf : ∀ x ∈ requests, ∃ r, FormOf x r := by
  simp only [requests, List.forall_mem_cons, List.not_mem_nil, false_implies, implies_true, and_true]
  exact ⟨⟨_, formOf_plain rfl (fun _ => rfl) (by decide) (by decide)⟩, ⟨_, formOf_plain rfl (fun _ => rfl) (by decide) (by decide)⟩,
    ⟨_, formOf_plain rfl (fun _ => rfl) (by decide) (by decide)⟩, ⟨_, formOf_plain rfl (fun _ => rfl) (by decide) (by decide)⟩,
    ⟨_, formOf_plain rfl (fun _ => rfl) (by decide) (by decide)⟩, ⟨_, formOf_plain rfl (fun _ => rfl) (by decide) (by decide)⟩,
    ⟨_, formOf_plain rfl (fun _ => rfl) (by decide) (by decide)⟩, ⟨_, formOf_plain rfl (fun _ => rfl) (by decide) (by decide)⟩,
    ⟨_, formOf_plain rfl (fun _ => rfl) (by decide) (by decide)⟩, ⟨_, formOf_plain rfl (fun _ => rfl) (by decide) (by decide)⟩,
    ⟨_, formOf_plain rfl (fun _ => rfl) (by decide) (by decide)⟩, ⟨_, formOf_plain rfl (fun _ => rfl) (by decide) (by decide)⟩,
    ⟨_, formOf_adjust rfl (by decide)⟩, ⟨_, formOf_adjust rfl (by decide)⟩,
    ⟨_, formOf_plain rfl (fun _ => rfl) (by decide) (by decide)⟩, ⟨_, formOf_plain rfl (fun _ => rfl) (by decide) (by decide)⟩,
    ⟨_, formOf_plain rfl (fun _ => rfl) (by decide) (by decide)⟩, ⟨_, formOf_plain rfl (fun _ => rfl) (by decide) (by decide)⟩,
    ⟨_, formOf_plain rfl (fun _ => rfl) (by decide) (by decide)⟩, ⟨_, formOf_plain rfl (fun _ => rfl) (by decide) (by decide)⟩,
    ⟨_, formOf_plain rfl (fun _ => rfl) (by decide) (by decide)⟩, ⟨_, formOf_declare rfl (by decide)⟩,
    ⟨_, formOf_declare rfl (by decide)⟩, ⟨_, formOf_declare rfl (by decide)⟩, ⟨_, formOf_declare rfl (by decide)⟩,
    ⟨_, formOf_boardTake⟩,
    ⟨_, formOf_plain rfl (fun _ => rfl) (by decide) (by decide)⟩, ⟨_, formOf_plain rfl (fun _ => rfl) (by decide) (by decide)⟩,
    ⟨_, formOf_plain rfl (fun _ => rfl) (by decide) (by decide)⟩, ⟨_, formOf_plain rfl (fun _ => rfl) (by decide) (by decide)⟩,
    ⟨_, formOf_plain rfl (fun _ => rfl) (by decide) (by decide)⟩, ⟨_, formOf_plain rfl (fun _ => rfl) (by decide) (by decide)⟩⟩

/-! ## What becomes of a request at the head of the buffer -/

section
variable {c : Instr} {r : RequestForm} {f : Frame} {rest : List Frame} {s : State}

theorem exec_taken (hr : requestForm c = some r) (h : HeadRequest f rest s) (hk : f.kind = r.kind)
    (hm : r.mine f.payload = true) (hl : r.lengthOk f.payload.length = true) :
    exec c s = .next (r.act f (popRequest s)) :=
  (exec_request hr s).trans (congrArg _ (takeRequest_head h hk hm hl))

theorem answersOnly_badLength (hr : requestForm c = some r) (h : HeadRequest f rest s) (hk : f.kind = r.kind)
    (hm : r.mine f.payload = true) (hl : r.lengthOk f.payload.length = false) (low : f.kind.toNat < 0x80) :
    AnswersOnly c f rest .badLength (r.bad s) s :=
  (exec_request hr s).trans (congrArg _ ((takeRequest_badLength h hk hm hl).trans (putReply_popRequest h low _ _)))

/-- A request whose block does nothing but answer it. -/
theorem answersOnly_of_act {code : ReplyCode} {fields : List Byte} (hr : requestForm c = some r) (h : HeadRequest f rest s)
    (hk : f.kind = r.kind) (hm : r.mine f.payload = true) (hl : r.lengthOk f.payload.length = true)
    (low : f.kind.toNat < 0x80) (hact : r.act f (popRequest s) = putReply f code fields (popRequest s)) :
    AnswersOnly c f rest code fields s :=
  (exec_taken hr h hk hm hl).trans (congrArg _ (hact.trans (putReply_popRequest h low _ _)))

theorem requestReady_eq_none
    (h : s.link.buffer = [] ∨ s.link.reply ≠ none ∨ s.link.requestTaken = true ∨ s.link.resetDue = true) :
    s.requestReady = none := by
  rcases h with h | h | h | h
  · simp [State.requestReady, h]
  · simp [State.requestReady, h]
  · simp [State.requestReady, h]
  · simp [State.requestReady, h]

/-- A request of another kind is left where it is (log entry 3). -/
theorem takeRequest_other {kind : Byte} {mine : List Byte → Bool} {lengthOk : Nat → Bool} {bad : State → List Byte}
    {act : Frame → State → State} (h : s.link.buffer = f :: rest) (hk : f.kind ≠ kind) :
    takeRequest kind mine lengthOk bad act s = s := by
  unfold takeRequest
  split
  · rfl
  · next g hg =>
    obtain rfl : g = f := by
      obtain ⟨-, hg⟩ := (Option.ite_none_right_eq_some).mp hg
      simpa [h, eq_comm] using hg
    exact if_neg fun k => hk k.1

theorem exec_unknownKind (h : HeadRequest f rest s) (hk : knownKinds.contains f.kind = false) :
    exec .unknownKind s = .next { s with link := { s.link.taken rest with
      reply := some { kind := replyKind f.kind, tag := f.tag, payload := [0x0C] } } } := by
  change execUnknownKind s = _
  rw [execUnknownKind, requestReady_of_head h]
  simp only [hk, popRequest_head h]
  rfl

end

theorem replyKind_eq (k : Byte) : replyKind k = if k < 0x80 then k + 0x80 else k := rfl

theorem knownKinds_eq_false {k : Byte} (h : ∀ x ∈ requests, k ≠ x.2.1) : knownKinds.contains k = false := by
  have listed : ∀ k ∈ knownKinds, ∃ x ∈ requests, x.2.1 = k := by decide
  refine Bool.eq_false_iff.mpr fun known => ?_
  obtain ⟨x, hx, hk⟩ := listed k (List.contains_iff_mem.mp known)
  exact h x hx hk.symm

/-! ## Refusal by the race state (R24) -/

/-- Each declaration is carried out in the race states that the statements give for it. -/
theorem actDeclare_wrongState {raceOk : RaceState → Bool} {laneOk : Lane → Bool} {effect : Nat → State → State} {f : Frame}
    {s : State} (hd : (byteAt f.payload 1).toNat ≤ 3) (h : raceOk s.race.state = false) :
    actDeclare raceOk laneOk effect f s = putReply f .wrongState [] s := by
  simp [actDeclare, declareCheck, Nat.not_lt.mpr hd, h]

/-- In a race state that does not take it, a request does nothing but answer WRONG_STATE. -/
theorem act_wrongState {c : Instr} {r : RequestForm} (hr : requestForm c = some r) {f : Frame} {s : State}
    (hd : c = .declareDns ∨ c = .declareDnf ∨ c = .declareDq ∨ c = .declareReinstate → (byteAt f.payload 1).toNat ≤ 3)
    (h : ¬ takenIn c s.race.state) : r.act f s = putReply f .wrongState [] s := by
  cases c <;> simp only [takenIn, not_true_eq_false] at h <;> cases hr
  case setOptions =>
    have armed : s.race.state = .armed ∨ s.race.state = .running := by
      revert h
      cases s.race.state <;> simp
    exact if_pos armed
  case loadEvent => exact if_pos (by simpa using h)
  case setLane => exact if_pos h
  case setRecord => exact if_pos h
  case arm => exact if_pos h
  case recallRace =>
    change actRecall f s = _
    unfold actRecall
    split
    · next armed => simp [armed] at h
    · next running => simp [running] at h
    · rfl
  case stopRace => exact if_pos h
  case adjustLengthPlusOne => simp [actAdjustPlus, adjustCheck, h]
  case adjustLengthMinusOne => simp [actAdjustMinus, adjustCheck, h]
  case adjudicate =>
    change actAdjudicate f s = _
    have refused : adjudicateCheck f.payload s = some .wrongState := by
      rw [adjudicateCheck]
      exact if_pos (by simpa using h)
    rw [actAdjudicate, refused]
  case declareDns => exact actDeclare_wrongState (hd (by simp)) (by simpa using h)
  case declareDnf => exact actDeclare_wrongState (hd (by simp)) (by simpa using h)
  case declareDq => exact actDeclare_wrongState (hd (by simp)) (by simpa [judgingState] using h)
  case declareReinstate => exact actDeclare_wrongState (hd (by simp)) (by simpa [judgingState] using h)
  case close => exact if_pos h

/-- The declarations of the opcode table are those of the four rows. -/
theorem declared_le : ∀ x ∈ requests, x.1 = .declareDns ∨ x.1 = .declareDnf ∨ x.1 = .declareDq ∨ x.1 = .declareReinstate →
    ∃ b, x.2.2.2 = some b ∧ b.toNat ≤ 3 := by
  simp [requests]

/-- Settles O35, row by row of the opcode table. -/
theorem requestsAreRefusedInOrder : Obligations.RequestsAreRefusedInOrder := by
  unfold Obligations.RequestsAreRefusedInOrder
  refine ⟨fun s f rest h hk => ?_, fun x hx s f rest h hk => ⟨fun hl => ?_, fun hl hb hs => ?_⟩, fun c s hc hn => ?_,
    fun x hx s f rest hbuf hk => ?_⟩
  · exact (exec_unknownKind h (knownKinds_eq_false hk)).trans (by rw [replyKind_eq])
  · obtain ⟨r, hr⟩ := exists_formOf x hx
    have mine : r.mine f.payload = true :=
      hr.mine _ fun b hb => .inl (hr.short (by simp [hb]) _ hl)
    exact hr.bad s ▸ answersOnly_badLength hr.form h (hk.trans hr.kind.symm) mine ((hr.lengthOk _).trans hl) (hk ▸ hr.low)
  · obtain ⟨r, hr⟩ := exists_formOf x hx
    refine answersOnly_of_act hr.form h (hk.trans hr.kind.symm) (hr.mine _ fun b k => .inr (hb b k))
      ((hr.lengthOk _).trans hl) (hk ▸ hr.low) (act_wrongState hr.form (fun hd => ?_) hs)
    obtain ⟨b, k, low⟩ := declared_le x hx hd
    exact hb b k ▸ low
  · have none := requestReady_eq_none hn
    rcases hc with rfl | ⟨x, hx, rfl⟩
    · change execUnknownKind s = _
      rw [execUnknownKind, none]
    · obtain ⟨r, hr⟩ := exists_formOf x hx
      rw [exec_request hr.form, takeRequest_none none]
  · obtain ⟨r, hr⟩ := exists_formOf x hx
    rw [exec_request hr.form, takeRequest_other hbuf (hr.kind ▸ hk)]

/-! ## The refusals of ADJUST_LENGTH (R72) and DECLARE (R111) -/

section
variable {f : Frame} {rest : List Frame} {s : State}

/-- An ADJUST_LENGTH that its checks refuse is answered by either of the commands that take it. -/
theorem adjust_refused {c : Instr} {b d : Byte} {code : ReplyCode} (h : HeadRequest f rest s) (hk : f.kind = 0x13)
    (hp : f.payload = [b, d]) (hc : (c = .adjustLengthPlusOne ∧ d ≠ 0xFF) ∨ (c = .adjustLengthMinusOne ∧ d ≠ 0x01))
    (hcheck : adjustCheck f.payload s = some code) : AnswersOnly c f rest code [] s := by
  have second : byteAt f.payload 1 = d := by simp [hp, byteAt]
  have check : adjustCheck f.payload (popRequest s) = some code := hcheck
  rcases hc with ⟨rfl, hd⟩ | ⟨rfl, hd⟩
  · have mine : adjustMine 0x01 f.payload = true := by
      simp only [adjustMine, second, decide_eq_true_eq]
      by_cases h1 : d = 0x01
      · exact .inr (.inl h1)
      · exact .inr (.inr ⟨h1, hd⟩)
    refine answersOnly_of_act rfl h hk mine (by simp [hp]) (by simp [hk]) ?_
    simp [actAdjustPlus, check]
  · have mine : adjustMine 0xFF f.payload = true := by
      simp only [adjustMine, second, decide_eq_true_eq]
      by_cases h1 : d = 0xFF
      · exact .inr (.inl h1)
      · exact .inr (.inr ⟨hd, h1⟩)
    refine answersOnly_of_act rfl h hk mine (by simp [hp]) (by simp [hk]) ?_
    simp [actAdjustMinus, check]

/-- A declaration with its race states, lane states and effect, as the row of its command has it. -/
theorem declare_refused {c : Instr} {d b x : Byte} {raceOk : RaceState → Bool} {laneOk : Lane → Bool}
    {effect : Nat → State → State} {code : ReplyCode} (hr : requestForm c = some (.declare d raceOk laneOk effect))
    (h : HeadRequest f rest s) (hk : f.kind = 0x1B) (hp : f.payload = [b, x]) (hx : x = d ∨ 3 < x.toNat)
    (hcheck : declareCheck raceOk laneOk f.payload s = some code) : AnswersOnly c f rest code [] s := by
  have second : byteAt f.payload 1 = x := by simp [hp, byteAt]
  have mine : declareMine d f.payload = true := by
    simp only [declareMine, second, decide_eq_true_eq]
    exact .inr hx
  have check : declareCheck raceOk laneOk f.payload (popRequest s) = some code := hcheck
  refine answersOnly_of_act hr h hk mine (by simp [RequestForm.declare, hp]) (by simp [hk]) ?_
  simp [RequestForm.declare, actDeclare, check]

/-- What a row of DECLARE takes is what the statements give for its command. -/
structure DeclareRow (c : Instr) (d : Byte) (raceOk : RaceState → Bool) (laneOk : Lane → Bool) : Prop where
  low : d.toNat ≤ 3
  race : ∀ r, raceOk r = true ↔ takenIn c r
  lane : ∀ l : Lane, l.state ≠ .vacant → (laneOk l = true ↔ declarable c l)

theorem exists_declareRow {c : Instr} {d : Byte}
    (h : (c, d) ∈ [(.declareDns, 0), (.declareDnf, 1), (.declareDq, 2), ((.declareReinstate : Instr), (3 : Byte))]) :
    ∃ raceOk laneOk effect, requestForm c = some (.declare d raceOk laneOk effect) ∧ DeclareRow c d raceOk laneOk := by
  simp only [List.mem_cons, Prod.mk.injEq, List.not_mem_nil, or_false] at h
  rcases h with ⟨rfl, rfl⟩ | ⟨rfl, rfl⟩ | ⟨rfl, rfl⟩ | ⟨rfl, rfl⟩
  · exact ⟨_, _, _, rfl, by decide, by simp [takenIn], by simp [declarable, dnsLane]⟩
  · exact ⟨_, _, _, rfl, by decide, by simp [takenIn], by simp [declarable]⟩
  · exact ⟨_, _, _, rfl, by decide, by simp [takenIn, judgingState], by simp [declarable, dqLane]⟩
  · exact ⟨_, _, _, rfl, by decide, by simp [takenIn, judgingState], by simp [declarable]⟩

end

/-- Settles O43, by the order of the checks. -/
theorem correctionsAreRefused : Obligations.CorrectionsAreRefused := by
  unfold Obligations.CorrectionsAreRefused
  refine ⟨fun c s f rest b d h hk hp hrun hc => ?_, fun c d s f rest b x h hk hp hrow => ?_⟩
  · have first : byteAt f.payload 0 = b := by simp [hp, byteAt]
    have second : byteAt f.payload 1 = d := by simp [hp, byteAt]
    refine ⟨fun hn => adjust_refused h hk hp hc ?_, fun hn hl => adjust_refused h hk hp hc ?_,
      fun hn hl hd => adjust_refused h hk hp hc ?_⟩
    · simp [adjustCheck, hrun, first, Config.laneCount, hn]
    · simp [adjustCheck, hrun, first, Config.laneCount, Nat.not_le.mpr hn, hl]
    · simp only [adjustCheck, hrun, first, second, Config.laneCount, Nat.not_le.mpr hn, hl]
      rcases hd with ⟨h1, h2⟩ | ⟨rfl, hd⟩ | ⟨rfl, hd⟩
      · have off1 : ¬ d = 1#8 := h1
        have offMinus : ¬ d = 255#8 := h2
        simp [off1, offMinus]
      · simp [hd]
      · simp [hd]
  · obtain ⟨raceOk, laneOk, effect, form, row⟩ := exists_declareRow hrow
    have first : byteAt f.payload 0 = b := by simp [hp, byteAt]
    have second : byteAt f.payload 1 = x := by simp [hp, byteAt]
    refine ⟨fun hx => ?_, fun hx hs => ?_, fun hx hs hb => ?_, fun hx hs hn hv hl => ?_⟩
    · exact declare_refused form h hk hp (.inr hx) (by simp [declareCheck, second, hx])
    all_goals have spelt : ¬ 3 < (byteAt f.payload 1).toNat := Nat.not_lt.mpr (second ▸ hx ▸ row.low)
    · have off : raceOk s.race.state = false := by simpa using mt (row.race _).mp hs
      exact declare_refused form h hk hp (.inl hx) (by simp [declareCheck, spelt, off])
    · have on : raceOk s.race.state = true := (row.race _).mpr hs
      refine declare_refused form h hk hp (.inl hx) ?_
      by_cases hn : 10 ≤ b.toNat
      · simp [declareCheck, spelt, on, first, Config.laneCount, hn]
      · simp [declareCheck, spelt, on, first, Config.laneCount, hn, hb.resolve_left hn]
    · have on : raceOk s.race.state = true := (row.race _).mpr hs
      have off : laneOk (s.lane b.toNat) = false := by simpa using mt (row.lane _ hv).mp hl
      refine declare_refused form h hk hp (.inl hx) ?_
      simp [declareCheck, spelt, on, first, Config.laneCount, Nat.not_le.mpr hn, hv, off]

/-! ## WATCH and CANCEL_WATCH (R171, R172) -/

/-- Settles O48. -/
theorem watchAndCancelWatch : Obligations.WatchAndCancelWatch := by
  unfold Obligations.WatchAndCancelWatch
  refine ⟨fun s f rest h hk hl => ?_, fun s f rest h hk hp => ?_⟩
  · have taken : exec .watch s = .next (actWatch f (popRequest s)) := 
      exec_taken (r := .plain 0x18 (fun n => decide (n = 11)) actWatch) rfl h hk rfl (decide_eq_true hl)
    have vector : (popRequest s).vector = s.vector := rfl
    have reply (c : ReplyCode) (x : List Byte) := putReply_popRequest h (by simp [hk]) c x
    refine ⟨fun busy => ?_, fun ⟨hw, ha⟩ differs => ?_, fun ⟨hw, ha⟩ same => ?_⟩
    · have waits : s.link.watch.isSome = true ∨ s.link.watchAnswer.isSome = true := by
        simpa only [not_and_or, ← ne_eq, ← Option.isSome_iff_ne_none] using busy
      exact taken.trans (congrArg _ ((if_pos waits).trans (reply .busy [])))
    · have answered : actWatch f (popRequest s) = putReply f .ok s.vector (popRequest s) := by
        simp [actWatch, vector, hw, ha, differs]
      exact taken.trans (congrArg _ (answered.trans (reply .ok s.vector)))
    · have held : actWatch f (popRequest s) = holdWatch f (popRequest s) := by simp [actWatch, vector, hw, ha, same]
      rw [taken, held, popRequest_head h]
      rfl
  · have taken : exec .cancelWatch s = .next (actCancelWatch f (popRequest s)) :=
      exec_taken (r := .plain 0x19 (fun n => decide (n = 0)) actCancelWatch) rfl h hk rfl (by simp [RequestForm.plain, hp])
    refine ⟨fun hw => ?_, fun w hw => ?_⟩
    · have alone : actCancelWatch f (popRequest s) = putReply f .ok [] (popRequest s) := by simp [actCancelWatch, hw]
      exact taken.trans (congrArg _ (alone.trans (putReply_popRequest h (by simp [hk]) _ _)))
    · have cancels : actCancelWatch f (popRequest s) = putReply f .ok [] (answerWatch w .cancelled [] (popRequest s)) := by
        simp [actCancelWatch, hw]
      rw [taken, cancels, putReply_eq (by simp [hk]), popRequest_head h]
      rfl

/-! ## Which commands complete (R4) -/

/-- The line or the lane that a command names. -/
def namesLine : Instr → Option Nat
  | .pendingEdge n _ | .pendingEdgeDropped n _ | .edgeConfirmed n _ | .padHoldExpiry n | .lineStuck n => some n
  | _ => none

def namesLane : Instr → Option Nat
  | .backupWindowExpiry n | .splitHoldExpiry n | .pulseExpiry (.startFlash n) | .extendedExpiry (.takeoffAlert n)
  | .offDelayExpiry n => some n
  | _ => none

theorem laneExists_iff (n : Nat) : laneExists n = true ↔ n < 10 := decide_eq_true_iff

theorem lineExists_iff (n : Nat) : lineExists n = true ↔ n < 61 := decide_eq_true_iff

theorem wellFormed_iff {c : Instr} (hp : ∀ p, c ≠ .powerOn p) :
    c.wellFormed = true ↔ (∀ n, namesLine c = some n → n < 61) ∧ (∀ n, namesLane c = some n → n < 10) := by
  cases c with
  | powerOn p => exact absurd rfl (hp p)
  | pulseExpiry f => cases f <;> simp [Instr.wellFormed, namesLine, namesLane, laneExists_iff]
  | extendedExpiry f => cases f <;> simp [Instr.wellFormed, namesLine, namesLane, laneExists_iff]
  | _ => simp [Instr.wellFormed, namesLine, namesLane, lineExists_iff, laneExists_iff]

theorem exec_noSuchLine {c : Instr} {n : Nat} (hc : namesLine c = some n) (hn : 61 ≤ n) (s : State) :
    exec c s = .fault (.noSuchLine n) := by
  cases c <;> cases hc <;> exact if_pos hn

theorem exec_noSuchLane {c : Instr} {n : Nat} (hc : namesLane c = some n) (hn : 10 ≤ n) (s : State) :
    exec c s = .fault (.noSuchLane n) := by
  unfold namesLane at hc
  split at hc <;> cases hc <;> exact if_pos hn

/-- Outcomes that are next states, whichever way a test goes. -/
theorem next_ite {p : Prop} [Decidable p] (a b : State) :
    ∃ t : State, (if p then Host.Outcome.next a else .next b : Host.Outcome State Fault Refusal) = .next t := by
  split <;> exact ⟨_, rfl⟩

/-- A command on a line that exists. -/
theorem exec_completes_line {c : Instr} {n : Nat} (hc : namesLine c = some n) (hn : n < 61) (s : State) :
    ∃ t, exec c s = .next t := by
  have number : ¬ Config.lineCount ≤ n := Nat.not_le.mpr hn
  cases c <;> cases hc
  case pendingEdge high =>
    change ∃ t, execPendingEdge n high s = .next t
    simp only [execPendingEdge, number, if_false]
    exact next_ite _ _
  case pendingEdgeDropped high =>
    change ∃ t, execPendingEdgeDropped n high s = .next t
    simp only [execPendingEdgeDropped, number, if_false]
    exact next_ite _ _
  case edgeConfirmed high =>
    change ∃ t, execEdgeConfirmed n high s = .next t
    simp only [execEdgeConfirmed, number, if_false]
    split <;> exact ⟨_, rfl⟩
  case padHoldExpiry =>
    change ∃ t, execPadHoldExpiry n s = .next t
    simp only [execPadHoldExpiry, number, if_false]
    exact next_ite _ _
  case lineStuck =>
    change ∃ t, execLineStuck n s = .next t
    simp only [execLineStuck, number, if_false]
    split
    · exact next_ite _ _
    · exact ⟨_, rfl⟩

/-- A command on a lane that exists. -/
theorem exec_completes_lane {c : Instr} {n : Nat} (hc : namesLane c = some n) (hn : n < 10) (s : State) :
    ∃ t, exec c s = .next t := by
  have number : ¬ Config.laneCount ≤ n := Nat.not_le.mpr hn
  unfold namesLane at hc
  split at hc <;> cases hc
  · change ∃ t, execBackupWindowExpiry n s = .next t
    simp only [execBackupWindowExpiry, number, if_false]
    exact next_ite _ _
  · change ∃ t, execSplitHoldExpiry n s = .next t
    simp only [execSplitHoldExpiry, number, if_false]
    exact next_ite _ _
  · exact ⟨_, if_neg number⟩
  · exact ⟨_, if_neg number⟩
  · exact ⟨_, if_neg number⟩

/-- A command that names neither a line nor a lane. -/
theorem exec_completes_plain {c : Instr} (hline : namesLine c = none) (hlane : namesLane c = none) (s : State) :
    ∃ t, exec c s = .next t := by
  cases hr : requestForm c with
  | some r => exact ⟨_, exec_request hr s⟩
  | none =>
    cases c with
    | pendingEdge | pendingEdgeDropped | edgeConfirmed | padHoldExpiry | lineStuck => cases hline
    | backupWindowExpiry | splitHoldExpiry | offDelayExpiry => cases hlane
    | pulseExpiry f =>
      cases f with
      | startFlash n => cases hlane
      | bell => exact ⟨_, rfl⟩
    | extendedExpiry f =>
      cases f with
      | takeoffAlert n => cases hlane
      | record => exact ⟨_, rfl⟩
    | powerOn | flagWaitMet => exact ⟨_, rfl⟩
    | resetTakesEffect | clockLimit | headerTenths | runningSeconds | claimWindowEnd | claimWithdrawn | partnerTook
    | boardFree | claimOnOwnInInactive | takeWaitExpiry | reqInActive | stopAfterRow | boardLost | frameTimeout =>
      exact next_ite _ _
    | slotExpiry =>
      change ∃ t, execSlotExpiry s = .next t
      rw [execSlotExpiry]
      split
      · exact next_ite _ _
      · exact ⟨_, rfl⟩
    | rowStart | messageStart | messageEnd =>
      simp only [exec, execRowStart, execMessageStart, execMessageEnd]
      split <;> exact ⟨_, rfl⟩
    | byteReceived b stop | frameComplete b stop | frameFailed b stop =>
      simp only [exec, execByteReceived, execFrameComplete, execFrameFailed]
      split <;> exact ⟨_, rfl⟩
    | rowComplete | boardStall | strobeWidthExpiry | unknownKind =>
      simp only [exec, execRowComplete, execBoardStall, execStrobeWidthExpiry, execUnknownKind]
      split
      · exact ⟨_, rfl⟩
      · exact next_ite _ _
    | settleTimeExpiry =>
      simp only [exec, execSettleTimeExpiry]
      (repeat' split) <;> exact ⟨_, rfl⟩
    | _ => cases hr

/-- Settles O36, by the line and the lane that a command names. -/
theorem everyCommandOnThePartCompletes : Obligations.EveryCommandOnThePartCompletes := by
  unfold Obligations.EveryCommandOnThePartCompletes
  refine fun c s => ⟨fun hc => ?_, fun hc hp => ?_⟩
  · by_cases hp : ∃ p, c = .powerOn p
    · obtain ⟨p, rfl⟩ := hp
      exact ⟨_, rfl⟩
    · obtain ⟨lines, lanes⟩ := (wellFormed_iff (fun p h => hp ⟨p, h⟩)).mp (hc.resolve_right hp)
      cases hline : namesLine c with
      | some n => exact exec_completes_line hline (lines n hline) s
      | none =>
        cases hlane : namesLane c with
        | some n => exact exec_completes_lane hlane (lanes n hlane) s
        | none => exact exec_completes_plain hline hlane s
  · have missing := mt (wellFormed_iff hp).mpr (ne_true_of_eq_false hc)
    rw [not_and_or] at missing
    push Not at missing
    rcases missing with ⟨n, hline, hn⟩ | ⟨n, hlane, hn⟩
    · exact .inl ⟨n, hn, exec_noSuchLine hline hn s⟩
    · exact .inr ⟨n, hn, exec_noSuchLane hlane hn s⟩

end Sys2Proof.Machine
end

section
/-!
The byte layouts of section 11.9: numbers and sets as bytes, the read requests (R20, R107, R122, R175), STATUS and the alarm requests
(R173, R177, R178), and the options and event records (R28, R29, R174).
-/
namespace Sys2Proof.Machine

/-! ## Numbers -/

@[simp] theorem length_bytesOf (n x : Nat) : (bytesOf n x).length = n := by
  induction n with
  | zero => rfl
  | succ n ih => simp [bytesOf, ih]

theorem foldl_numberOf (bs : List Byte) (a : Nat) :
    bs.foldl (fun acc b => acc * 256 + b.toNat) a = a * 256 ^ bs.length + numberOf bs := by
  induction bs generalizing a with
  | nil => simp [numberOf]
  | cons b bs ih =>
    rw [numberOf, List.foldl_cons, List.foldl_cons, ih, ih, List.length_cons, pow_succ]
    ring

theorem numberOf_cons (b : Byte) (bs : List Byte) : numberOf (b :: bs) = b.toNat * 256 ^ bs.length + numberOf bs := by
  rw [numberOf, List.foldl_cons, foldl_numberOf]
  simp

@[simp] theorem numberOf_nil : numberOf [] = 0 := rfl

@[simp] theorem numberOf_bytesOf (n x : Nat) : numberOf (bytesOf n x) = x % 256 ^ n := by
  induction n with
  | zero => simp [bytesOf, Nat.mod_one]
  | succ n ih =>
    rw [bytesOf, numberOf_cons, ih, length_bytesOf, BitVec.toNat_ofNat, Nat.add_comm, Nat.mul_comm]
    exact Nat.mod_pow_succ.symm

/-- One byte of a payload as a number. -/
theorem field_one (p : List Byte) (i : Nat) : field p i 1 = (byteAt p i).toNat := by
  rw [field, byteAt]
  by_cases h : i < p.length
  · rw [List.drop_eq_getElem_cons h, List.take_succ_cons, List.take_zero, numberOf_cons]
    simp [h]
  · simp [List.drop_eq_nil_of_le (Nat.le_of_not_lt h), Nat.le_of_not_lt h]

@[simp] theorem byte_toNat (b : Byte) : byte b.toNat = b := by simp [byte]

theorem toNat_byte {n : Nat} (h : n < 256) : (byte n).toNat = n := by simp [byte, Nat.mod_eq_of_lt h]

/-! ## Sets -/

theorem setBits_lt (f : Nat → Bool) (k : Nat) : setBits f k < 2 ^ k := by
  induction k with
  | zero => simp [setBits]
  | succ k ih =>
    have power : 2 ^ (k + 1) = 2 ^ k + 2 ^ k := by ring
    rw [setBits, power]
    split <;> omega

theorem testBit_setBits (f : Nat → Bool) (k i : Nat) : (setBits f k).testBit i = (decide (i < k) && f i) := by
  induction k with
  | zero => simp [setBits]
  | succ k ih =>
    have small := setBits_lt f k
    rw [setBits]
    rcases Nat.lt_trichotomy i k with h | rfl | h
    · have keep : (setBits f k + if f k = true then 2 ^ k else 0).testBit i = (setBits f k).testBit i := by
        split
        · rw [Nat.add_comm, Nat.testBit_two_pow_add_gt h]
        · rfl
      rw [keep, ih]
      simp [h, Nat.lt_succ_of_lt h]
    · cases hf : f i
      · simp [Nat.testBit_lt_two_pow small]
      · simp [Nat.add_comm (setBits f i), Nat.testBit_two_pow_add_eq, Nat.testBit_lt_two_pow small]
    · have large : setBits f k + (if f k = true then 2 ^ k else 0) < 2 ^ i := by
        have next : setBits f (k + 1) < 2 ^ (k + 1) := setBits_lt f (k + 1)
        exact lt_of_lt_of_le next (Nat.pow_le_pow_right (by omega) h)
      rw [Nat.testBit_lt_two_pow large]
      simp; omega

theorem numberOf_lineSet (f : Nat → Bool) : numberOf (lineSet f) = setBits f 61 := by
  rw [lineSet, numberOf_bytesOf]
  exact Nat.mod_eq_of_lt (lt_trans (setBits_lt f 61) (by norm_num))

/-- A flags byte of four bits, bit by bit. -/
theorem flags_four : ∀ a b c d : Bool,
    let x := byte ((if a then 1 else 0) + (if b then 2 else 0) + (if c then 4 else 0) + (if d then 8 else 0))
    x.toNat.testBit 0 = a ∧ x.toNat.testBit 1 = b ∧ x.toNat.testBit 2 = c ∧ x.toNat.testBit 3 = d ∧ x.toNat < 16 := by
  decide

/-- A flags byte of three bits, bit by bit. -/
theorem flags_three : ∀ a b c : Bool,
    let x := byte ((if a then 1 else 0) + (if b then 2 else 0) + (if c then 4 else 0))
    x.toNat < 8 ∧ x.toNat.testBit 0 = a ∧ x.toNat.testBit 1 = b ∧ x.toNat.testBit 2 = c := by
  decide

/-- A flags byte of six bits, bit by bit. -/
theorem flags_six : ∀ a b c d e f : Bool,
    let x := byte ((if a then 1 else 0) + (if b then 2 else 0) + (if c then 4 else 0) + (if d then 8 else 0)
      + (if e then 16 else 0) + (if f then 32 else 0))
    x.toNat.testBit 0 = a ∧ x.toNat.testBit 1 = b ∧ x.toNat.testBit 2 = c ∧ x.toNat.testBit 3 = d ∧ x.toNat.testBit 4 = e
    ∧ x.toNat.testBit 5 = f ∧ x.toNat < 64 := by
  decide

/-! ## READ_LANE (R175) -/

theorem length_signedBytes (v : Option Int) : (signedBytes v).length = 4 := by cases v <;> rfl

theorem length_timeBytes (t : Option Nat) : (timeBytes t).length = 4 := length_bytesOf 4 _

theorem length_tickBytes (t : Option Tick) : (tickBytes t).length = 4 := length_bytesOf 4 _

/-- Behind the first `k` pieces of a record, `i` bytes in all, the other pieces stand. -/
theorem drop_pieces {pieces : List (List Byte)} {i : Nat} (k : Nat) (hi : ((pieces.map List.length).take k).sum = i) :
    pieces.flatten.drop i = (pieces.drop k).flatten := by
  have before : (pieces.take k).flatten.length = i := by rw [List.length_flatten, List.map_take, hi]
  conv_lhs => rw [← List.take_append_drop k pieces, List.flatten_append]
  exact List.drop_left' before

/-- The piece `k` of a record. -/
theorem piece_at {pieces : List (List Byte)} {c : List Byte} {i n : Nat} (k : Nat) (hk : pieces[k]? = some c)
    (hi : ((pieces.map List.length).take k).sum = i) (hn : c.length = n) : (pieces.flatten.drop i).take n = c := by
  obtain ⟨hlt, hc⟩ := List.getElem?_eq_some_iff.mp hk
  rw [drop_pieces k hi, List.drop_eq_getElem_cons hlt, hc, List.flatten_cons, List.take_left' hn]

theorem byteAt_of_piece {p : List Byte} {i : Nat} {x : Byte} (h : (p.drop i).take 1 = [x]) : byteAt p i = x := by
  have at0 : ((p.drop i).take 1)[0]? = some x := by rw [h]; rfl
  rw [byteAt, List.getD_eq_getElem?_getD]
  simpa [List.getElem?_take] using congrArg (Option.getD · 0) at0

/-- A time stands as its number modulo 2^32, an absent one as 0xFFFFFFFF. -/
theorem numberOf_timeBytes (t : Option Nat) : numberOf (timeBytes t) = t.getD 0xFFFFFFFF % 2 ^ 32 := numberOf_bytesOf 4 _

theorem cell_of_bytes {p : List Byte} {i : Nat} {t : Option Nat} (h : (p.drop i).take 4 = timeBytes t) :
    field p i 4 = t.getD 0xFFFFFFFF % 2 ^ 32 := by rw [field, h, numberOf_timeBytes]

theorem evidenceMark_eq (e : Option Evidence) : evidenceMark e = e.any (·.overMark) := by cases e <;> rfl

theorem finalMark_eq (l : List Split) :
    ((finalEntry l).map (·.overMark)).getD false = (l.find? (fun x => decide (x.kind = .final))).any (·.overMark) := by
  rw [finalEntry]
  cases l.find? (fun x => decide (x.kind = .final)) <;> rfl

theorem laneMarks_bits (l : Lane) :
    (laneMarks l).toNat.testBit 0 = l.pad.any (·.overMark) ∧ (laneMarks l).toNat.testBit 1 = l.press1.any (·.overMark)
    ∧ (laneMarks l).toNat.testBit 2 = l.press2.any (·.overMark) ∧ (laneMarks l).toNat.testBit 3 = l.press3.any (·.overMark)
    ∧ (laneMarks l).toNat.testBit 4 = l.first.any (·.overMark)
    ∧ (laneMarks l).toNat.testBit 5 = (l.splits.find? (fun x => decide (x.kind = .final))).any (·.overMark)
    ∧ (laneMarks l).toNat < 64 := by
  simp only [laneMarks, evidenceMark_eq, finalMark_eq]
  exact flags_six _ _ _ _ _ _

theorem recordBits_bits (r : List Nat) :
    (∀ i < 4, (recordBits r).toNat.testBit i = r.contains i) ∧ (recordBits r).toNat < 16 := by
  have small : setBits (fun i => r.contains i) 4 < 16 := setBits_lt _ 4
  rw [recordBits, toNat_byte (by omega)]
  exact ⟨fun i hi => by simp [testBit_setBits, hi], small⟩

theorem stateAtArmByte_eq (st : Option LaneState) : stateAtArmByte st = (st.map laneCode).getD 0xFF := by cases st <;> rfl

/-- The pieces of a lane record (section 11.9). -/
def lanePieces (n : Nat) (l : Lane) : List (List Byte) :=
  [[byte n, laneCode l.state, stateAtArmByte l.stateAtArm, flagByte l.dq], [laneFlags l],
   [farTimingCode l.farTiming, trackingCode l.tracking, byte l.takeoffs], signedBytes l.reaction,
   tickBytes l.reactionTick, [byte l.done, byte l.misses], timeBytes (l.pad.map (·.time)), timeBytes (l.press1.map (·.time)),
   timeBytes (l.press2.map (·.time)), timeBytes (l.press3.map (·.time)), timeBytes (l.first.map (·.time)), [laneMarks l],
   timeBytes l.consensus, bytesOf 2 l.lagUsed, timeBytes l.candidate,
   [sourceCode l.source, reasonCode l.reason, laneByte l.place], [recordBits l.records], timeBytes l.result,
   timeBytes l.exchange1.takeoff, signedBytes l.exchange1.margin ++ [exchangeCode l.exchange1.status],
   timeBytes l.exchange2.takeoff, signedBytes l.exchange2.margin ++ [exchangeCode l.exchange2.status],
   timeBytes l.exchange3.takeoff, signedBytes l.exchange3.margin ++ [exchangeCode l.exchange3.status],
   byte l.text.length :: padText 16 l.text]

theorem laneBytes_eq (n : Nat) (l : Lane) : laneBytes n l = (lanePieces n l).flatten := by
  unfold laneBytes lanePieces exchangeBytes
  simp only [List.flatten_cons, List.flatten_nil, List.append_assoc, List.cons_append, List.nil_append, List.append_nil]

/-- The lengths of the pieces of a lane record before its text. -/
def laneWidths : List Nat := [4, 1, 3, 4, 4, 2, 4, 4, 4, 4, 4, 1, 4, 2, 4, 3, 1, 4, 4, 5, 4, 5, 4, 5]

section
variable (n : Nat) (l : Lane)

theorem lanePieces_widths :
    (lanePieces n l).map List.length = laneWidths ++ [(byte l.text.length :: padText 16 l.text).length] := by
  unfold lanePieces laneWidths
  simp only [List.map_cons, List.map_nil, List.length_cons, List.length_nil, List.length_append, length_signedBytes,
    length_timeBytes, length_tickBytes, length_bytesOf, List.cons_append, List.nil_append]

theorem length_laneBytes (h : l.text.length ≤ 16) : (laneBytes n l).length = 101 := by
  have text : (byte l.text.length :: padText 16 l.text).length = 17 := by
    simp only [padText, List.length_cons, List.length_append, List.length_replicate]
    omega
  rw [laneBytes_eq, List.length_flatten, lanePieces_widths, text]
  rfl

/-- The piece `k` of a lane record starts at byte `i` and is `m` bytes long. -/
theorem lane_piece (k : Nat) {c : List Byte} {i m : Nat} (hk : (lanePieces n l)[k]? = some c) (hk24 : k ≤ 24)
    (hi : (laneWidths.take k).sum = i) (hm : c.length = m) : ((laneBytes n l).drop i).take m = c := by
  rw [laneBytes_eq]
  refine piece_at k hk ?_ hm
  rw [lanePieces_widths, List.take_append_of_le_length hk24, hi]

theorem lane_byte (k : Nat) {x : Byte} {i : Nat} (hk : (lanePieces n l)[k]? = some [x]) (hk24 : k ≤ 24)
    (hi : (laneWidths.take k).sum = i) : byteAt (laneBytes n l) i = x := byteAt_of_piece (lane_piece n l k hk hk24 hi rfl)

/-- The time in the piece `k` of a lane record. -/
theorem lane_time (k : Nat) {t : Option Nat} {i : Nat} (hk : (lanePieces n l)[k]? = some (timeBytes t)) (hk24 : k ≤ 24)
    (hi : (laneWidths.take k).sum = i) : field (laneBytes n l) i 4 = t.getD 0xFFFFFFFF % 2 ^ 32 :=
  cell_of_bytes (lane_piece n l k hk hk24 hi (length_timeBytes t))

theorem lane_exchange (j : Nat) (h1 : 1 ≤ j) (h3 : j ≤ 3) :
    field (laneBytes n l) (48 + 9 * j) 4 = (l.exchange j).takeoff.getD 0xFFFFFFFF % 2 ^ 32
    ∧ ((laneBytes n l).drop (52 + 9 * j)).take 5
        = signedBytes (l.exchange j).margin ++ [exchangeCode (l.exchange j).status] := by
  have width (x : Exchange) : (signedBytes x.margin ++ [exchangeCode x.status]).length = 5 := by
    rw [List.length_append, length_signedBytes]
    rfl
  obtain rfl | rfl | rfl : j = 1 ∨ j = 2 ∨ j = 3 := by omega
  · exact ⟨lane_time n l 18 rfl (by decide) (by decide), lane_piece n l 19 rfl (by decide) (by decide) (width _)⟩
  · exact ⟨lane_time n l 20 rfl (by decide) (by decide), lane_piece n l 21 rfl (by decide) (by decide) (width _)⟩
  · exact ⟨lane_time n l 22 rfl (by decide) (by decide), lane_piece n l 23 rfl (by decide) (by decide) (width _)⟩

theorem lane_text : (laneBytes n l).drop 84 = byte l.text.length :: padText 16 l.text := by
  have before : (((lanePieces n l).map List.length).take 24).sum = 84 := by
    rw [lanePieces_widths, List.take_append_of_le_length (by decide)]
    decide
  rw [laneBytes_eq, drop_pieces 24 before]
  exact List.append_nil _

end

/-! ## READ_SPLITS (R175) and READ_RANKING (R122) -/

theorem actReadSplits_ok {f : Frame} {s : State} {b k : Byte} (hp : f.payload = [b, k]) (hn : b.toNat < 10)
    (h1 : 1 ≤ k.toNat) (h60 : k.toNat ≤ 60) (hd : (s.lane b.toNat).done = (s.lane b.toNat).splits.length) :
    actReadSplits f s = putReply f .ok
      ([b, byte (s.lane b.toNat).done, k, byte (((s.lane b.toNat).splits.drop (k.toNat - 1)).take 20).length]
        ++ (((s.lane b.toNat).splits.drop (k.toNat - 1)).take 20).flatMap splitBytes) s := by
  have first : byteAt f.payload 0 = b := by simp [hp, byteAt]
  have second : byteAt f.payload 1 = k := by simp [hp, byteAt]
  have legal : ¬ (k.toNat < 1 ∨ 60 < k.toNat) := by omega
  have count : min 20 ((s.lane b.toNat).done + 1 - k.toNat)
      = (((s.lane b.toNat).splits.drop (k.toNat - 1)).take 20).length := by
    rw [List.length_take, List.length_drop, hd]
    omega
  have sent : ((s.lane b.toNat).splits.drop (k.toNat - 1)).take (((s.lane b.toNat).splits.drop (k.toNat - 1)).take 20).length
      = ((s.lane b.toNat).splits.drop (k.toNat - 1)).take 20 := by
    rw [List.length_take, List.take_eq_take_iff]
    omega
  simp only [actReadSplits, first, second, Config.laneCount, Nat.not_le.mpr hn, legal, if_false, count, sent, byte_toNat,
    List.flatMap]

/-- The comparison of a result with the one before, as the reply carries it (R107). -/
def comparisonByte (a b : Option Nat) : Byte :=
  match a, b with
  | some a, some c => if a / 100 < c / 100 then 0 else if a / 100 = c / 100 then 1 else 2
  | _, _ => 3

theorem comparisonCode_compare (a b : Option Nat) :
    comparisonCode (compareTimes (a.map (· / 100)) (b.map (· / 100))) = comparisonByte a b := by
  cases a <;> cases b <;> try rfl
  simp only [compareTimes, comparisonByte, Option.map_some]
  split
  · rfl
  · split <;> rfl

/-- One entry of the READ_RANKING reply: a lane and the result that stands before it. -/
def rankingEntry (s : State) (n : Nat) (before : Option Nat) : List Byte :=
  [byte n, laneByte (s.lane n).place] ++ timeBytes (s.lane n).result
  ++ [flagByte (((finalEntry (s.lane n).splits).map (·.overMark)).getD false),
      comparisonCode (compareTimes (s.lane n).hundredths (before.map (· / 100)))]

/-- The entries of a ranking, each behind the ones already sent. -/
theorem rankingBytes_append (s : State) (sent ns : List Nat) :
    rankingBytes s ((sent.getLast?.bind fun n => (s.lane n).result).map (· / 100)) ns
      = (ns.zipIdx sent.length).flatMap (fun x => rankingEntry s x.1
          ((if x.2 = 0 then none else (sent ++ ns)[x.2 - 1]?).bind fun n => (s.lane n).result)) := by
  induction ns generalizing sent with
  | nil => rfl
  | cons n ns ih =>
    have next := ih (sent ++ [n])
    have last : ((sent ++ [n]).getLast?.bind fun n => (s.lane n).result).map (· / 100) = (s.lane n).hundredths := by
      simp [Lane.hundredths]
    have before : (if sent.length = 0 then none else (sent ++ n :: ns)[sent.length - 1]?) = sent.getLast? := by
      rcases List.eq_nil_or_concat sent with rfl | ⟨as, a, rfl⟩
      · rfl
      · simp
    rw [last, List.length_append, List.append_assoc] at next
    rw [rankingBytes, List.zipIdx_cons, List.flatMap_cons, before]
    exact congrArg (rankingEntry s n (sent.getLast?.bind fun n => (s.lane n).result) ++ ·) next

/-- Settles O46: the record of a lane by its pieces, the other replies as the requests compose them. -/
theorem readsCarryTheRecords : Obligations.ReadsCarryTheRecords := by
  unfold Obligations.ReadsCarryTheRecords
  refine ⟨fun s f rest b h hk hp => ?_, fun s f rest b k h hk hp => ?_, fun s f rest h hk hp => ?_, fun s f rest h hk hp => ?_⟩
  · have first : byteAt f.payload 0 = b := by simp [hp, byteAt]
    have reads {code : ReplyCode} {x : List Byte} (act : actReadLane f (popRequest s) = putReply f code x (popRequest s)) :
        AnswersOnly .readLane f rest code x s :=
      answersOnly_of_act (r := .plain 0x15 (fun n => decide (n = 1)) actReadLane) rfl h hk rfl (by simp [RequestForm.plain, hp])
        (by simp [hk]) act
    refine ⟨fun hn => reads (by simp [actReadLane, first, Config.laneCount, hn]), fun hn ht => ?_⟩
    have answered : actReadLane f (popRequest s)
        = putReply f .ok (laneBytes b.toNat (s.lane b.toNat)) (popRequest s) := by
      simp only [actReadLane, first, Config.laneCount, Nat.not_le.mpr hn, if_false]
      rfl
    refine ⟨laneBytes b.toNat (s.lane b.toNat), reads answered, length_laneBytes _ _ ht, ?_⟩
    generalize s.lane b.toNat = l
    have flags : byteAt (laneBytes b.toNat l) 4 = laneFlags l := lane_byte _ l 1 rfl (by decide) (by decide)
    have marks : byteAt (laneBytes b.toNat l) 38 = laneMarks l := lane_byte _ l 11 rfl (by decide) (by decide)
    have records : byteAt (laneBytes b.toNat l) 52 = recordBits l.records := lane_byte _ l 16 rfl (by decide) (by decide)
    have head : (laneBytes b.toNat l).take 4 = [b, laneCode l.state, (l.stateAtArm.map laneCode).getD 0xFF, flagByte l.dq] := by
      have piece := lane_piece b.toNat l 0 (i := 0) rfl (by decide) (by decide) rfl
      rw [List.drop_zero, stateAtArmByte_eq, byte_toNat] at piece
      exact piece
    have lag : field (laneBytes b.toNat l) 43 2 = l.lagUsed % 65536 := by
      rw [field, lane_piece b.toNat l 13 rfl (by decide) (by decide) (length_bytesOf 2 _), numberOf_bytesOf]
      rfl
    rw [flags, marks, records]
    exact ⟨head, flags_four _ _ _ _, lane_piece _ l 2 rfl (by decide) (by decide) rfl,
      lane_piece _ l 3 rfl (by decide) (by decide) (length_signedBytes _),
      lane_time _ l 4 rfl (by decide) (by decide), lane_piece _ l 5 rfl (by decide) (by decide) rfl,
      lane_time _ l 6 rfl (by decide) (by decide), lane_time _ l 7 rfl (by decide) (by decide),
      lane_time _ l 8 rfl (by decide) (by decide), lane_time _ l 9 rfl (by decide) (by decide),
      lane_time _ l 10 rfl (by decide) (by decide), laneMarks_bits l,
      lane_time _ l 12 rfl (by decide) (by decide), lag, lane_time _ l 14 rfl (by decide) (by decide),
      lane_piece _ l 15 rfl (by decide) (by decide) rfl, (recordBits_bits _).1, (recordBits_bits _).2,
      lane_time _ l 17 rfl (by decide) (by decide), lane_exchange _ l, lane_text _ l⟩
  · have first : byteAt f.payload 0 = b := by simp [hp, byteAt]
    have second : byteAt f.payload 1 = k := by simp [hp, byteAt]
    have reads {code : ReplyCode} {x : List Byte} (act : actReadSplits f (popRequest s) = putReply f code x (popRequest s)) :
        AnswersOnly .readSplits f rest code x s :=
      answersOnly_of_act (r := .plain 0x16 (fun n => decide (n = 2)) actReadSplits) rfl h hk rfl
        (by simp [RequestForm.plain, hp]) (by simp [hk]) act
    refine ⟨fun hn => reads (by simp [actReadSplits, first, Config.laneCount, hn]), fun hn hk0 => reads ?_,
      fun hn h1 h60 hd => reads (actReadSplits_ok hp hn h1 h60 hd)⟩
    have illegal : k.toNat < 1 ∨ 60 < k.toNat := by omega
    simp only [actReadSplits, first, second, Config.laneCount, Nat.not_le.mpr hn, illegal, if_false, if_true]
  · refine answersOnly_of_act (r := .plain 0x17 (fun n => decide (n = 0)) fun f t => putReply f .ok (rankingReply t) t) rfl h hk
      rfl (by simp [RequestForm.plain, hp]) (by simp [hk]) ?_
    have entries := rankingBytes_append (popRequest s) [] s.race.ranking
    refine congrArg (fun x => putReply f .ok
      ([raceCode s.race.state] ++ bytesOf 2 s.event.number ++ tickBytes s.race.startTick
        ++ [flagByte s.race.limitMark, byte s.race.lags.length]
        ++ (s.race.lags.map (fun x => byte x.lane :: bytesOf 2 x.delta)).flatten
        ++ [byte s.race.ranking.length] ++ x) (popRequest s)) (entries.trans ?_)
    refine congrArg (fun g => s.race.ranking.zipIdx.flatMap g) (funext fun x => ?_)
    simp only [rankingEntry, finalMark_eq, List.nil_append]
    refine congrArg (fun c => [byte x.1, laneByte (s.lane x.1).place] ++ timeBytes (s.lane x.1).result
      ++ [flagByte (((s.lane x.1).splits.find? fun y => decide (y.kind = .final)).any (·.overMark)), c])
      ((comparisonCode_compare _ _).trans ?_)
    split <;> rfl
  · refine ⟨lineLevels s, answersOnly_of_act (r := .plain 0x05 (fun n => decide (n = 0)) fun f t => putReply f .ok (lineLevels t) t)
      rfl h hk rfl (by simp [RequestForm.plain, hp]) (by simp [hk]) rfl, ?_, fun m _ => ?_⟩
    · simp only [lineLevels, lineSet, List.length_append, length_bytesOf]
    · have set (g : Nat → Bool) : (lineSet g).length = 8 := length_bytesOf 8 _
      have active : (lineLevels s).take 8 = lineSet fun n => (s.line n).active := by
        rw [lineLevels, List.append_assoc, List.take_left' (set _)]
      have behind : (lineLevels s).drop 8 = lineSet (fun n => (s.line n).stuck) ++ lineSet (fun n => (s.line n).masked) := by
        rw [lineLevels, List.append_assoc, List.drop_left' (set _)]
      have masked : (lineLevels s).drop 16 = lineSet fun n => (s.line n).masked := by
        rw [show 16 = 8 + 8 from rfl, ← List.drop_drop, behind, List.drop_left' (set _)]
      rw [active, behind, List.take_left' (set _), masked]
      simp only [numberOf_lineSet, testBit_setBits, and_self]

end Sys2Proof.Machine
end

section
/-!
STATUS, the alarm requests and RESET (R173, R177, R178), and the options and event records: their checks, their ranges and their
reading back (R28, R29, R174).
-/
namespace Sys2Proof.Machine

/-! ## Fields held to their ranges -/

theorem clamp_mem {lo hi : Nat} (h : lo ≤ hi) (x : Nat) : lo ≤ clamp lo hi x ∧ clamp lo hi x ≤ hi := by
  unfold clamp
  split
  · omega
  · split <;> omega

theorem clamp_of_mem {lo hi x : Nat} (h : lo ≤ x ∧ x ≤ hi) : clamp lo hi x = x := by
  unfold clamp
  rw [if_neg (by omega), if_neg (by omega)]

/-- Whatever bytes it is read from, an options record has its fields in range (R174). -/
theorem optionsOf_inRange (p : List Byte) : (optionsOf p).inRange :=
  ⟨clamp_mem (by decide) _, clamp_mem (by decide) _, clamp_mem (by decide) _, clamp_mem (by decide) _,
    clamp_mem (by decide) _, clamp_mem (by decide) _, clamp_mem (by decide) _, clamp_mem (by decide) _,
    clamp_mem (by decide) _, clamp_mem (by decide) _, (clamp_mem (Nat.zero_le 300000) _).2, clamp_mem (by decide) _,
    clamp_mem (by decide) _, clamp_mem (by decide) _, (clamp_mem (Nat.zero_le 100000) _).2, clamp_mem (by decide) _,
    clamp_mem (by decide) _⟩

/-! ## The check of an options record (R174) -/

/-- An enumerated field is refused where its byte reaches the number of values of its set. -/
theorem optionRefused_iff (p : List Byte) (n : Nat) :
    optionRefused p n ↔ ∃ e ∈ optionEnums, e.1 = n ∧ e.2.2 ≤ (byteAt p e.2.1).toNat := by
  constructor
  · intro h
    unfold optionRefused at h
    split at h
    · exact ⟨(1, 0, 2), by decide, rfl, field_one p 0 ▸ h⟩
    · exact ⟨(2, 1, 2), by decide, rfl, field_one p 1 ▸ h⟩
    · exact ⟨(3, 2, 2), by decide, rfl, field_one p 2 ▸ h⟩
    · exact ⟨(4, 3, 2), by decide, rfl, field_one p 3 ▸ h⟩
    · exact ⟨(5, 4, 2), by decide, rfl, field_one p 4 ▸ h⟩
    · exact ⟨(12, 15, 3), by decide, rfl, field_one p 15 ▸ h⟩
    · exact ⟨(13, 16, 2), by decide, rfl, field_one p 16 ▸ h⟩
    · exact ⟨(14, 17, 2), by decide, rfl, field_one p 17 ▸ h⟩
    · exact ⟨(20, 28, 2), by decide, rfl, field_one p 28 ▸ h⟩
    · exact ⟨(21, 29, 2), by decide, rfl, field_one p 29 ▸ h⟩
    · exact h.elim
  · rintro ⟨e, he, rfl, h⟩
    simp only [optionEnums, List.mem_cons, List.not_mem_nil, or_false] at he
    rcases he with rfl | rfl | rfl | rfl | rfl | rfl | rfl | rfl | rfl | rfl <;>
      (simp only [optionRefused, field_one]; exact h)

theorem badOption_eq_none {p : List Byte} (h : ∀ n, ¬ optionRefused p n) : badOption p = none := by
  have clear : optionEnums.find? (fun e => decide (e.2.2 ≤ (byteAt p e.2.1).toNat)) = none := by
    refine List.find?_eq_none.mpr fun e he refused => h e.1 ((optionRefused_iff p e.1).mpr ⟨e, he, rfl, ?_⟩)
    simpa using refused
  rw [badOption, clear]
  rfl

/-- The fields stand in number order, so that the first found is the first in number. -/
theorem badOption_eq_some {p : List Byte} {n : Nat} (h : FirstRefused (optionRefused p) n) : badOption p = some n := by
  obtain ⟨refused, first⟩ := h
  obtain ⟨e, he, rfl, beyond⟩ := (optionRefused_iff p n).mp refused
  have ordered : optionEnums.Pairwise fun a b => a.1 < b.1 := by decide
  have found : (optionEnums.find? (fun e => decide (e.2.2 ≤ (byteAt p e.2.1).toNat))).isSome = true :=
    List.find?_isSome.mpr ⟨e, he, by simpa using beyond⟩
  obtain ⟨d, hd⟩ := Option.isSome_iff_exists.mp found
  obtain ⟨dBeyond, as, bs, list, before⟩ := List.find?_eq_some_iff_append.mp hd
  have dRefused : optionRefused p d.1 := (optionRefused_iff p d.1).mpr ⟨d, by simp [list], rfl, by simpa using dBeyond⟩
  have notLess : ¬ d.1 < e.1 := fun less => first d.1 less dRefused
  rw [list] at he ordered
  have same : d.1 = e.1 := by
    rcases List.mem_append.mp he with he | he
    · have clear := before e he
      simp [beyond] at clear
    · rcases List.mem_cons.mp he with rfl | he
      · rfl
      · exact absurd ((List.pairwise_cons.mp (List.pairwise_append.mp ordered).2.1).1 e he) notLess
  rw [badOption, hd]
  exact congrArg some same

/-! ## STATUS, the alarms, RESET and the options -/

theorem alarmBytes_eq (a : Alarm) :
    alarmBytes a = [alarmCode a.kind, (a.lane.map byte).getD 0xFF] ++ bytesOf 4 a.first.toNat ++ bytesOf 4 a.last.toNat := by
  unfold alarmBytes
  cases a.lane <;> rfl

theorem mem_polarityChanges (old new : Options) (c : LineClass) :
    c ∈ polarityChanges old new ↔ old.polarity c ≠ new.polarity c := by
  cases c <;> simp [polarityChanges]

theorem mem_storeOptions_reloads (o : Options) (s : State) (c : LineClass) :
    c ∈ (storeOptions o s).reloads ↔ c ∈ s.reloads ∨ s.options.polarity c ≠ o.polarity c := by
  have mem := mem_polarityChanges s.options o c
  by_cases h : c ∈ s.reloads <;> simp [storeOptions, h, mem]

/-- Settles O47. -/
theorem statusOptionsAndAlarms : Obligations.StatusOptionsAndAlarms := by
  unfold Obligations.StatusOptionsAndAlarms
  refine ⟨fun s f rest h hp => ⟨fun hk => ?_, fun hk => ?_, fun hk => ?_, fun hk => ?_⟩,
    fun s f rest h hk hl ht => ⟨fun n hn => ?_, fun hn => ?_⟩, fun s f rest h hk hp => ?_⟩
  · refine ⟨statusFlags s, (flags_three _ _ _).1, (flags_three _ _ _).2.1, (flags_three _ _ _).2.2.1,
      (flags_three _ _ _).2.2.2, ?_⟩
    rw [exec_taken (r := .plain 0x01 (fun n => decide (n = 0)) actStatus) rfl h hk rfl (by simp [RequestForm.plain, hp])]
    refine congrArg Host.Outcome.next ?_
    change actStatus f (popRequest s) = _
    rw [actStatus, putReply_eq (by simp [hk]), popRequest_head h]
    rfl
  · refine answersOnly_of_act (r := .plain 0x28 (fun n => decide (n = 0)) fun f t => putReply f .ok (alarmsReply t) t) rfl h hk
      rfl (by simp [RequestForm.plain, hp]) (by simp [hk]) ?_
    refine congrArg (fun x => putReply f .ok (byte s.link.alarms.length :: x) (popRequest s)) ?_
    exact congrArg (fun g => s.link.alarms.flatMap g) (funext alarmBytes_eq)
  · rw [exec_taken (r := .plain 0x29 (fun n => decide (n = 0)) actClearAlarms) rfl h hk rfl
      (by simp [RequestForm.plain, hp])]
    refine congrArg Host.Outcome.next ?_
    change actClearAlarms f (popRequest s) = _
    rw [actClearAlarms, putReply_eq (by simp [hk]), popRequest_head h]
    rfl
  · rw [exec_taken (r := .plain 0x3F (fun n => decide (n = 0)) actReset) rfl h hk rfl (by simp [RequestForm.plain, hp])]
    refine congrArg Host.Outcome.next ?_
    change actReset f (popRequest s) = _
    rw [actReset, putReply_eq (by simp [hk]), popRequest_head h]
    rfl
  · have idle : ¬ (s.race.state = .armed ∨ s.race.state = .running) := by
      rcases ht with ht | ht | ht | ht <;> simp [ht]
    refine answersOnly_of_act (r := .plain 0x02 (fun n => decide (n = 50)) actSetOptions) rfl h hk rfl
      (by simp [RequestForm.plain, hl]) (by simp [hk]) ?_
    change actSetOptions f (popRequest s) = _
    rw [actSetOptions, badOption_eq_some hn]
    exact if_neg idle
  · have idle : ¬ (s.race.state = .armed ∨ s.race.state = .running) := by
      rcases ht with ht | ht | ht | ht <;> simp [ht]
    have taken := exec_taken (c := .setOptions) (r := .plain 0x02 (fun n => decide (n = 50)) actSetOptions) rfl h hk rfl
      (by simp [RequestForm.plain, hl])
    have stored : actSetOptions f (popRequest s)
        = { storeOptions (optionsOf f.payload) s with
            link := s.link.answered f rest (if optionsBytes (optionsOf f.payload) = f.payload then .ok else .clamped)
              (optionsBytes (optionsOf f.payload)) } := by
      have code : (if optionsClamped f.payload = true then ReplyCode.clamped else .ok)
          = if optionsBytes (optionsOf f.payload) = f.payload then .ok else .clamped := by
        by_cases same : optionsBytes (optionsOf f.payload) = f.payload <;> simp [optionsClamped, same]
      rw [actSetOptions, badOption_eq_none hn]
      refine (if_neg idle).trans ?_
      rw [code, putReply_eq (by simp [hk]), popRequest_head h]
      rfl
    have done : exec .setOptions s = .next _ := taken.trans (congrArg _ stored)
    exact ⟨_, done, rfl, optionsOf_inRange _, mem_storeOptions_reloads _ s, rfl, (exec_touches .setOptions s) _ done⟩
  · exact answersOnly_of_act (r := .plain 0x03 (fun n => decide (n = 0)) fun f t => putReply f .ok (optionsBytes t.options) t) rfl
      h hk rfl (by simp [RequestForm.plain, hp]) (by simp [hk]) rfl

/-! ## The options record read back (R174) -/

/-- A number that its bytes hold is read back. -/
theorem field_of_piece {p : List Byte} {i n x : Nat} (h : (p.drop i).take n = bytesOf n x) (hx : x < 256 ^ n) :
    field p i n = x := by
  rw [field, h, numberOf_bytesOf, Nat.mod_eq_of_lt hx]

/-- The fields of an options record, each as its bytes (section 11.9). -/
def optionPieces (o : Options) : List (List Byte) :=
  [[polarityCode o.polPad], [polarityCode o.polButton], [polarityCode o.polBlock], [polarityCode o.polStart],
   [triggerCode o.trigger], bytesOf 1 o.deglitchPad, bytesOf 1 o.deglitchButton, bytesOf 1 o.deglitchBlock,
   bytesOf 1 o.deglitchStart, bytesOf 2 o.padHold, bytesOf 4 o.stuckTime, [boardModeCode o.boardMode],
   [polarityCode o.flagPolarity], [acceptCode o.accept], bytesOf 1 o.settle, bytesOf 1 o.strobeWidth, bytesOf 2 o.byteTimeout,
   bytesOf 2 o.refresh, bytesOf 4 o.splitHold, [flagByte o.yieldOnRequest], [flagByte o.takeWhenFree], bytesOf 4 o.takeWait,
   bytesOf 2 o.flashWidth, bytesOf 4 o.alertWidth, bytesOf 4 o.offDelay, bytesOf 2 o.bellWidth, bytesOf 4 o.recordWidth]

theorem bytesOf_one (x : Nat) : bytesOf 1 x = [byte x] := by simp [bytesOf, byte]

theorem optionsBytes_eq (o : Options) : optionsBytes o = (optionPieces o).flatten := by
  unfold optionsBytes optionPieces
  simp only [bytesOf_one, List.flatten_cons, List.flatten_nil, List.append_assoc, List.cons_append, List.nil_append,
    List.append_nil]

/-- The widths of the fields of an options record. -/
def optionWidths : List Nat := [1, 1, 1, 1, 1, 1, 1, 1, 1, 2, 4, 1, 1, 1, 1, 1, 2, 2, 4, 1, 1, 4, 2, 4, 4, 2, 4]

theorem optionPieces_widths (o : Options) : (optionPieces o).map List.length = optionWidths := by
  unfold optionPieces optionWidths
  simp only [List.map_cons, List.map_nil, List.length_cons, List.length_nil, length_bytesOf]

section
variable (o : Options)

theorem length_optionsBytes : (optionsBytes o).length = 50 := by
  rw [optionsBytes_eq, List.length_flatten, optionPieces_widths]
  rfl

theorem option_byte (k i : Nat) {x : Byte} (hk : (optionPieces o)[k]? = some [x])
    (hi : (optionWidths.take k).sum = i) : byteAt (optionsBytes o) i = x := by
  rw [optionsBytes_eq]
  exact byteAt_of_piece (piece_at k hk (by rw [optionPieces_widths, hi]) rfl)

theorem option_number (k i : Nat) {x n : Nat} (hk : (optionPieces o)[k]? = some (bytesOf n x))
    (hi : (optionWidths.take k).sum = i) (hx : x < 256 ^ n) : field (optionsBytes o) i n = x := by
  rw [optionsBytes_eq]
  exact field_of_piece (piece_at k hk (by rw [optionPieces_widths, hi]) (length_bytesOf n x)) hx

/-- Each enumerated field of a written record holds one of its values. -/
theorem optionsBytes_accepted (n : Nat) : ¬ optionRefused (optionsBytes o) n := by
  have polarity (x : Polarity) : (polarityCode x).toNat < 2 := by cases x <;> decide
  have flag (x : Bool) : (flagByte x).toNat < 2 := by cases x <;> decide
  have trigger : (triggerCode o.trigger).toNat < 2 := by cases o.trigger <;> decide
  have mode : (boardModeCode o.boardMode).toNat < 3 := by cases o.boardMode <;> decide
  have accept : (acceptCode o.accept).toNat < 2 := by cases o.accept <;> decide
  rw [optionRefused_iff]
  rintro ⟨e, he, -, h⟩
  simp only [optionEnums, List.mem_cons, List.not_mem_nil, or_false] at he
  rcases he with rfl | rfl | rfl | rfl | rfl | rfl | rfl | rfl | rfl | rfl <;> dsimp only at h
  · rw [option_byte o 0 0 rfl rfl] at h; exact absurd (polarity o.polPad) (Nat.not_lt.mpr h)
  · rw [option_byte o 1 1 rfl rfl] at h; exact absurd (polarity o.polButton) (Nat.not_lt.mpr h)
  · rw [option_byte o 2 2 rfl rfl] at h; exact absurd (polarity o.polBlock) (Nat.not_lt.mpr h)
  · rw [option_byte o 3 3 rfl rfl] at h; exact absurd (polarity o.polStart) (Nat.not_lt.mpr h)
  · rw [option_byte o 4 4 rfl rfl] at h; exact absurd trigger (Nat.not_lt.mpr h)
  · rw [option_byte o 11 15 rfl rfl] at h; exact absurd mode (Nat.not_lt.mpr h)
  · rw [option_byte o 12 16 rfl rfl] at h; exact absurd (polarity o.flagPolarity) (Nat.not_lt.mpr h)
  · rw [option_byte o 13 17 rfl rfl] at h; exact absurd accept (Nat.not_lt.mpr h)
  · rw [option_byte o 19 28 rfl rfl] at h; exact absurd (flag o.yieldOnRequest) (Nat.not_lt.mpr h)
  · rw [option_byte o 20 29 rfl rfl] at h; exact absurd (flag o.takeWhenFree) (Nat.not_lt.mpr h)

theorem option_polarity (k i : Nat) {x : Polarity} (hk : (optionPieces o)[k]? = some [polarityCode x])
    (hi : (optionWidths.take k).sum = i) : polarityAt (optionsBytes o) i = x := by
  rw [polarityAt, option_byte o k i hk hi]
  cases x <;> rfl

/-- A numeric field in range is read back as it is. -/
theorem option_clamped (k i lo hi : Nat) {x n : Nat} (hk : (optionPieces o)[k]? = some (bytesOf n x))
    (at0 : (optionWidths.take k).sum = i) (hx : lo ≤ x ∧ x ≤ hi) (fits : hi < 256 ^ n) :
    clamp lo hi (field (optionsBytes o) i n) = x := by
  rw [option_number o k i hk at0 (lt_of_le_of_lt hx.2 fits), clamp_of_mem hx]

theorem option_flag (k i : Nat) {x : Bool} (hk : (optionPieces o)[k]? = some [flagByte x])
    (hi : (optionWidths.take k).sum = i) : decide (byteAt (optionsBytes o) i = 1) = x := by
  rw [option_byte o k i hk hi]
  cases x <;> rfl

/-- The options record is read back field by field. -/
theorem optionsOf_optionsBytes (h : o.inRange) : optionsOf (optionsBytes o) = o := by
  obtain ⟨pad, button, block, start, hold, stuck, settle, strobe, timeout, refresh, split, take, flash, alert, delay, bell,
    record⟩ := h
  have trigger : (if byteAt (optionsBytes o) 4 = 0 then TriggerEdge.onActivate else .onRelease) = o.trigger := by
    rw [option_byte o 4 4 rfl rfl]
    cases o.trigger <;> rfl
  have mode : (if byteAt (optionsBytes o) 15 = 0 then BoardMode.fullMode
      else if byteAt (optionsBytes o) 15 = 1 then .partialMode else .strobeMode) = o.boardMode := by
    rw [option_byte o 11 15 rfl rfl]
    cases o.boardMode <;> rfl
  have accept : (if byteAt (optionsBytes o) 17 = 0 then Accept.readyToBusy else .busyToReady) = o.accept := by
    rw [option_byte o 13 17 rfl rfl]
    cases o.accept <;> rfl
  unfold optionsOf
  rw [option_polarity o 0 0 rfl rfl, option_polarity o 1 1 rfl rfl, option_polarity o 2 2 rfl rfl, option_polarity o 3 3 rfl rfl,
    trigger, option_clamped o 5 5 1 250 rfl rfl pad (by norm_num), option_clamped o 6 6 1 250 rfl rfl button (by norm_num),
    option_clamped o 7 7 1 250 rfl rfl block (by norm_num), option_clamped o 8 8 1 250 rfl rfl start (by norm_num),
    option_clamped o 9 9 100 10000 rfl rfl hold (by norm_num), option_clamped o 10 11 10000 600000 rfl rfl stuck (by norm_num),
    mode, option_polarity o 12 16 rfl rfl, accept, option_clamped o 14 18 1 50 rfl rfl settle (by norm_num),
    option_clamped o 15 19 1 50 rfl rfl strobe (by norm_num), option_clamped o 16 20 10 10000 rfl rfl timeout (by norm_num),
    option_clamped o 17 22 2000 60000 rfl rfl refresh (by norm_num),
    option_clamped o 18 24 0 300000 rfl rfl ⟨Nat.zero_le _, split⟩ (by norm_num), option_flag o 19 28 rfl rfl,
    option_flag o 20 29 rfl rfl, option_clamped o 21 30 1000 100000 rfl rfl take (by norm_num),
    option_clamped o 22 34 500 20000 rfl rfl flash (by norm_num), option_clamped o 23 36 1000 100000 rfl rfl alert (by norm_num),
    option_clamped o 24 40 0 100000 rfl rfl ⟨Nat.zero_le _, delay⟩ (by norm_num),
    option_clamped o 25 44 100 20000 rfl rfl bell (by norm_num),
    option_clamped o 26 46 10000 600000 rfl rfl record (by norm_num)]

end

/-! ## The event record read back (R28, R29) -/

/-- The fields of an event record, each as its bytes, and its title (section 11.9). -/
def eventPieces (e : EventDesc) : List (List Byte) :=
  [bytesOf 2 e.number, bytesOf 1 e.pool, bytesOf 1 e.total, [eventKindCode e.kind], [startKindCode e.start],
   [flagByte (!e.farFitted)], bytesOf 4 e.minLength, bytesOf 1 e.buttons, bytesOf 4 e.window, bytesOf 2 e.disagreement,
   bytesOf 2 e.defaultLag, bytesOf 2 e.tolerance, bytesOf 4 e.recallWindow, e.title]

/-- The widths of the fields of an event record before its title. -/
def eventWidths : List Nat := [2, 1, 1, 1, 1, 1, 4, 1, 4, 2, 2, 2, 4]

section
variable (e : EventDesc)

theorem eventBytes_eq : eventBytes e = (eventPieces e).flatten := by
  unfold eventBytes eventFixedBytes eventPieces
  simp only [bytesOf_one, List.flatten_cons, List.flatten_nil, List.append_assoc, List.cons_append, List.nil_append,
    List.append_nil]

theorem eventPieces_widths : (eventPieces e).map List.length = eventWidths ++ [e.title.length] := by
  unfold eventPieces eventWidths
  simp only [List.map_cons, List.map_nil, List.length_cons, List.length_nil, length_bytesOf, List.cons_append, List.nil_append]

theorem length_eventBytes : (eventBytes e).length = 26 + e.title.length := by
  rw [eventBytes_eq, List.length_flatten, eventPieces_widths, List.sum_append, List.sum_singleton]
  rfl

theorem event_piece (k : Nat) {c : List Byte} {i n : Nat} (hk : (eventPieces e)[k]? = some c) (h13 : k ≤ 13)
    (hi : (eventWidths.take k).sum = i) (hn : c.length = n) : ((eventBytes e).drop i).take n = c := by
  rw [eventBytes_eq]
  refine piece_at k hk ?_ hn
  rw [eventPieces_widths, List.take_append_of_le_length h13, hi]

theorem event_byte (k i : Nat) {x : Byte} (hk : (eventPieces e)[k]? = some [x]) (h13 : k ≤ 13)
    (hi : (eventWidths.take k).sum = i) : byteAt (eventBytes e) i = x := byteAt_of_piece (event_piece e k hk h13 hi rfl)

theorem event_number (k i : Nat) {x n : Nat} (hk : (eventPieces e)[k]? = some (bytesOf n x)) (h13 : k ≤ 13)
    (hi : (eventWidths.take k).sum = i) (hx : x < 256 ^ n) : field (eventBytes e) i n = x :=
  field_of_piece (event_piece e k hk h13 hi (length_bytesOf n x)) hx

theorem event_title : (eventBytes e).drop 26 = e.title := by
  have before : (((eventPieces e).map List.length).take 13).sum = 26 := by
    rw [eventPieces_widths, List.take_append_of_le_length (by decide)]
    decide
  rw [eventBytes_eq, drop_pieces 13 before]
  exact List.append_nil _

/-- A text of printable characters that fits is stored as it is (R32). -/
theorem storedText_of_printable {n : Nat} {bs : List Byte} (hn : bs.length ≤ n) (h : ∀ b ∈ bs, 0x20 ≤ b ∧ b ≤ 0x7E) :
    storedText n bs = bs := by
  rw [storedText_eq, List.take_of_length_le hn]
  refine (List.map_congr_left fun b hb => ?_).trans (List.map_id bs)
  have printable := h b hb
  exact if_neg (by bv_omega)

theorem event_clamped (k i lo hi : Nat) {x n : Nat} (hk : (eventPieces e)[k]? = some (bytesOf n x)) (h13 : k ≤ 13)
    (at0 : (eventWidths.take k).sum = i) (hx : lo ≤ x ∧ x ≤ hi) (fits : hi < 256 ^ n) :
    clamp lo hi (field (eventBytes e) i n) = x := by
  rw [event_number e k i hk h13 at0 (lt_of_le_of_lt hx.2 fits), clamp_of_mem hx]

theorem eventOf_eventBytes (h : e.inRange) : eventOf (eventBytes e) = e := by
  obtain ⟨number, pool, total, -, minLength, buttons, window, disagreement, lag, tolerance, recallWithin, length, printable⟩ := h
  have kind : (if byteAt (eventBytes e) 4 = 0 then EventKind.individual else .relay) = e.kind := by
    rw [event_byte e 3 4 rfl (by decide) rfl]
    cases e.kind <;> rfl
  have start : (if byteAt (eventBytes e) 5 = 0 then StartKind.dive else .water) = e.start := by
    rw [event_byte e 4 5 rfl (by decide) rfl]
    cases e.start <;> rfl
  have fitted : decide (byteAt (eventBytes e) 6 = 0) = e.farFitted := by
    rw [event_byte e 5 6 rfl (by decide) rfl]
    cases e.farFitted <;> rfl
  have limit : clamp 500 10000 (field (eventBytes e) 16 2) = e.disagreement :=
    event_clamped e 9 16 500 10000 rfl (by decide) rfl disagreement (by norm_num)
  have defaultLag : min (clamp 0 10000 (field (eventBytes e) 18 2)) e.disagreement = e.defaultLag := by
    rw [event_clamped e 10 18 0 10000 rfl (by decide) rfl ⟨Nat.zero_le _, by omega⟩ (by norm_num), Nat.min_eq_left lag]
  unfold eventOf
  rw [event_number e 0 0 rfl (by decide) rfl (by norm_num; omega), event_number e 1 2 rfl (by decide) rfl (by norm_num; omega),
    event_number e 2 3 rfl (by decide) rfl (by norm_num; omega), kind, start, fitted,
    event_clamped e 6 7 50000 600000 rfl (by decide) rfl minLength (by norm_num),
    event_number e 7 11 rfl (by decide) rfl (by norm_num; omega),
    event_clamped e 8 12 30000 300000 rfl (by decide) rfl window (by norm_num), limit, defaultLag,
    event_clamped e 11 20 0 1000 rfl (by decide) rfl ⟨Nat.zero_le _, tolerance⟩ (by norm_num),
    event_clamped e 12 22 0 600000 rfl (by decide) rfl ⟨Nat.zero_le _, recallWithin⟩ (by norm_num), event_title,
    storedText_of_printable length printable]

/-- The bytes of a descriptor in range pass every check of R28. -/
theorem eventBytes_accepted (h : e.inRange) (n : Nat) : ¬ eventFieldRefused (eventBytes e) n := by
  obtain ⟨number, pool, total, relay, -, buttons, -⟩ := h
  have numberAt : field (eventBytes e) 0 2 = e.number := event_number e 0 0 rfl (by decide) rfl (by norm_num; omega)
  have poolAt : field (eventBytes e) 2 1 = e.pool := event_number e 1 2 rfl (by decide) rfl (by norm_num; omega)
  have totalAt : field (eventBytes e) 3 1 = e.total := event_number e 2 3 rfl (by decide) rfl (by norm_num; omega)
  have kindAt : field (eventBytes e) 4 1 = (eventKindCode e.kind).toNat := by
    rw [field_one, event_byte e 3 4 rfl (by decide) rfl]
  have startAt : field (eventBytes e) 5 1 = (startKindCode e.start).toNat := by
    rw [field_one, event_byte e 4 5 rfl (by decide) rfl]
  have fittedAt : field (eventBytes e) 6 1 = (flagByte (!e.farFitted)).toNat := by
    rw [field_one, event_byte e 5 6 rfl (by decide) rfl]
  have buttonsAt : field (eventBytes e) 11 1 = e.buttons := event_number e 7 11 rfl (by decide) rfl (by norm_num; omega)
  unfold eventFieldRefused
  split
  · rw [numberAt]; omega
  · rw [poolAt]; omega
  · rw [totalAt]; omega
  · rw [kindAt, totalAt]
    cases hk : e.kind with
    | individual => simp [eventKindCode]
    | relay =>
      have eighths := relay hk
      change ¬ (1 < 1 ∨ 1 = 1 ∧ _)
      omega
  · rw [startAt]
    cases e.start <;> decide
  · rw [fittedAt]
    cases e.farFitted <;> decide
  · rw [buttonsAt]; omega
  · exact id

end

/-- Settles O54: both records by their pieces. -/
theorem recordsAreReadAsWritten : Obligations.RecordsAreReadAsWritten := by
  unfold Obligations.RecordsAreReadAsWritten
  exact ⟨fun o h => ⟨optionsOf_optionsBytes o h, optionsBytes_accepted o, length_optionsBytes o⟩,
    fun e h => ⟨eventOf_eventBytes e h, eventBytes_accepted e h, length_eventBytes e⟩⟩

end Sys2Proof.Machine
end

section
/-!
The receiver and the transmitter: the table of R167, a failed frame examined again byte for byte, a frame sent that is a frame
received, and the order and the times of the messages sent (R166 to R169, R178).
-/
namespace Sys2Proof.Machine

/-! ## The bytes of a frame and its check (R166) -/

theorem frame_bytes_eq (f : Frame) :
    f.bytes = 0xA7 :: byte f.payload.length :: f.tag :: f.kind :: (f.payload ++ bytesOf 2 (crc f.body).toNat) := rfl

theorem length_frame_bytes (f : Frame) : f.bytes.length = f.payload.length + 6 := by
  simp [frame_bytes_eq, length_bytesOf]

theorem frameOf_cons (a₀ a₁ a₂ a₃ : Byte) (rest : List Byte) :
    frameOf (a₀ :: a₁ :: a₂ :: a₃ :: rest) = { kind := a₃, tag := a₂, payload := rest.take (rest.length - 2) } := by
  simp [frameOf, byteAt]

theorem checkMatches_cons (a₀ a₁ a₂ a₃ : Byte) {rest : List Byte} (h : 2 ≤ rest.length) :
    checkMatches (a₀ :: a₁ :: a₂ :: a₃ :: rest)
      = decide (rest.drop (rest.length - 2)
          = bytesOf 2 (crc ([a₁, a₂, a₃] ++ rest.take (rest.length - 2))).toNat) := by
  obtain ⟨p, hp⟩ : ∃ p, rest.length = p + 2 := ⟨rest.length - 2, by omega⟩
  simp [checkMatches, hp]

theorem frameOf_bytes (f : Frame) : frameOf f.bytes = f := by
  rw [frame_bytes_eq, frameOf_cons, List.length_append, length_bytesOf, Nat.add_sub_cancel, List.take_left]

theorem checkMatches_bytes (f : Frame) : checkMatches f.bytes = true := by
  rw [frame_bytes_eq, checkMatches_cons _ _ _ _ (by simp [length_bytesOf]), List.length_append, length_bytesOf,
    Nat.add_sub_cancel, List.take_left, List.drop_left]
  exact decide_eq_true rfl

/-- Held bytes that begin with a lead byte, are as many as their length byte says and meet their check spell a frame. -/
theorem bytes_frameOf {a₁ a₂ a₃ : Byte} {rest : List Byte} (length : rest.length = a₁.toNat + 2)
    (check : checkMatches (0xA7 :: a₁ :: a₂ :: a₃ :: rest) = true) :
    0xA7 :: a₁ :: a₂ :: a₃ :: rest = (frameOf (0xA7 :: a₁ :: a₂ :: a₃ :: rest)).bytes := by
  have payload : (rest.take (rest.length - 2)).length = a₁.toNat := by rw [List.length_take]; omega
  have body : (frameOf (0xA7 :: a₁ :: a₂ :: a₃ :: rest)).body = [a₁, a₂, a₃] ++ rest.take (rest.length - 2) := by
    rw [frameOf_cons, Frame.body]
    simp only [payload, byte_toNat]
  rw [checkMatches_cons _ _ _ _ (by omega), decide_eq_true_iff, ← body] at check
  rw [Frame.bytes, body, ← body, ← check, body]
  simp

/-! ## One byte received (R167) -/

/-- A command that takes its byte receives it. -/
theorem exec_byteReceived_waiting {s : State} {b : Byte} {st : RxState} {held : List Byte}
    (h : s.rxOutcome b = .waiting st held) :
    exec (.byteReceived b true) s = .next { s with link := s.link.receiving st held s.tick } := by
  change execByteReceived b true s = _
  have received : receiveByte b s = { s with link := s.link.receiving st held s.tick } := by
    rw [receiveByte, h]
    rfl
  rw [execByteReceived.eq_def, h, ← received]

theorem exec_frameComplete_complete {s : State} {b : Byte} {f : Frame} (h : s.rxOutcome b = .complete f) :
    exec (.frameComplete b true) s = .next { s with
      link := if s.link.buffer.length < 4 then { s.link.receiving .hunt [] s.tick with buffer := s.link.buffer ++ [f] }
        else (s.link.receiving .hunt [] s.tick).withNotice 0x52 [3, f.kind, f.tag] } := by
  change execFrameComplete b true s = _
  have received : receiveByte b s = joinBuffer f { s with link := s.link.receiving .hunt [] s.tick } := by
    rw [receiveByte, h]
    rfl
  rw [execFrameComplete.eq_def, h]
  refine congrArg Host.Outcome.next (received.trans ?_)
  by_cases room : s.link.buffer.length < 4
  · rw [if_pos room]
    exact if_pos room
  · rw [if_neg room]
    exact (if_neg room).trans (handNotice_eq _ _ _)

theorem exec_frameFailed_failed {s : State} {b : Byte} {reason : LinkError} {again : List Byte}
    (h : s.rxOutcome b = .failed reason again) :
    exec (.frameFailed b true) s = .next (examine (examinations again.length) again
      { s with link := (s.link.receiving .hunt [] s.tick).withNotice 0x52 [linkErrorCode reason, 0, 0] }) := by
  change execFrameFailed b true s = _
  have received : rxEffect (.failed reason again) (stampByte s)
      = { s with link := (s.link.receiving .hunt [] s.tick).withNotice 0x52 [linkErrorCode reason, 0, 0] } :=
    handNotice_eq _ _ _
  rw [execFrameFailed.eq_def, h]
  change Host.Outcome.next (receiveByte b s) = _
  rw [receiveByte, h, received]
  rfl

theorem exec_byteCommand (b : Byte) (s : State) : exec (byteCommand b s) s = .next (receiveByte b s) := by
  unfold byteCommand
  split
  case h_1 h => change execByteReceived b true s = _; rw [execByteReceived.eq_def, h]
  case h_2 h => change execFrameComplete b true s = _; rw [execFrameComplete.eq_def, h]
  case h_3 h => change execFrameFailed b true s = _; rw [execFrameFailed.eq_def, h]

theorem receiveAll_cons (b : Byte) (bs : List Byte) (s : State) :
    receiveAll (b :: bs) s = receiveAll bs (receiveByte b s) := by
  rw [receiveAll, exec_byteCommand]

theorem rxOutcome_hunt {s : State} (h : s.link.receiver.state = .hunt) (b : Byte) :
    s.rxOutcome b = if b = 0xA7 then .waiting .length [b] else .waiting .hunt [] := by
  rw [State.rxOutcome, h]
  rfl

theorem rxOutcome_length {s : State} (h : s.link.receiver.state = .length) {b : Byte} (hb : b.toNat ≤ 240) :
    s.rxOutcome b = .waiting (.body (b.toNat + 4)) (s.link.receiver.held ++ [b]) := by
  rw [State.rxOutcome, h]
  exact if_pos hb

theorem rxOutcome_length_over {s : State} (h : s.link.receiver.state = .length) {b : Byte} (hb : 240 < b.toNat) :
    s.rxOutcome b = .failed .length ((s.link.receiver.held ++ [b]).drop 1) := by
  rw [State.rxOutcome, h]
  exact if_neg (Nat.not_le.mpr hb)

theorem rxOutcome_body {s : State} {n : Nat} (h : s.link.receiver.state = .body n) (hn : 2 ≤ n) (b : Byte) :
    s.rxOutcome b = .waiting (.body (n - 1)) (s.link.receiver.held ++ [b]) := by
  rw [State.rxOutcome, h]
  exact if_pos hn

theorem rxOutcome_last {s : State} (h : s.link.receiver.state = .body 1) (b : Byte) :
    s.rxOutcome b = if checkMatches (s.link.receiver.held ++ [b]) then .complete (frameOf (s.link.receiver.held ++ [b]))
      else .failed .check ((s.link.receiver.held ++ [b]).drop 1) := by
  rw [State.rxOutcome, h]
  rfl

theorem rxOutcome_frame {s : State} (h : s.link.receiver.state = .body 1) {b : Byte} {f : Frame}
    (hf : s.link.receiver.held ++ [b] = f.bytes) : s.rxOutcome b = .complete f := by
  rw [rxOutcome_last h, hf, checkMatches_bytes, if_pos rfl, frameOf_bytes]

/-- Settles O50: by the state of the receiver. -/
theorem receiverTakesBytes : Obligations.ReceiverTakesBytes := by
  unfold Obligations.ReceiverTakesBytes
  refine fun s b => ⟨⟨rfl, rfl, rfl⟩, fun h => ?_, fun h hb => ?_, fun h held hb => ?_, fun n h hn => ?_,
    fun f h _ hf => ?_, fun h late => ?_⟩
  · have hunts := rxOutcome_hunt h b
    by_cases lead : b = 0xA7
    · rw [if_pos lead] at hunts
      rw [exec_byteReceived_waiting hunts, if_pos lead]
    · rw [if_neg lead] at hunts
      rw [exec_byteReceived_waiting hunts, if_neg lead]
  · exact exec_byteReceived_waiting (rxOutcome_length h hb)
  · have noLead : b ≠ 0xA7 := fun lead => by simp [lead] at hb
    have fails := rxOutcome_length_over h hb
    rw [held] at fails
    rw [exec_frameFailed_failed fails]
    refine congrArg Host.Outcome.next ?_
    have hunts (l : Link) (hl : l.receiver = { state := .hunt, held := [], last := s.tick }) :
        examine 2 [b] { s with link := l } = { s with link := l } := by
      have dropped : rxTake l.receiver.state l.receiver.held b = .waiting .hunt [] := by
        rw [hl]
        exact if_neg noLead
      change examine 1 ((rxTake l.receiver.state l.receiver.held b).again ++ [])
        (rxEffect (rxTake l.receiver.state l.receiver.held b) { s with link := l }) = _
      rw [dropped]
      change setReceiver .hunt [] { s with link := l } = _
      simp [setReceiver, hl]
      rw [← hl]
    refine hunts _ ?_
    rw [Link.withNotice]
    split <;> rfl
  · exact exec_byteReceived_waiting (rxOutcome_body h hn b)
  · exact exec_frameComplete_complete (rxOutcome_frame h hf)
  · change execFrameTimeout s = _
    have exceeded : gapExceeded s = true := decide_eq_true ⟨h, late⟩
    rw [execFrameTimeout, if_pos exceeded]
    exact congrArg Host.Outcome.next (handNotice_eq _ _ _)

/-! ## Bytes examined one after another (R167) -/

/-- From `s` the bytes are examined in order, those of a failed frame before the rest, and leave `t`. -/
inductive Examined : List Byte → State → State → Prop
  | nil (s : State) : Examined [] s s
  | cons {b : Byte} {bs : List Byte} {s t : State} :
      Examined ((s.rxOutcome b).again ++ bs) (rxEffect (s.rxOutcome b) s) t → Examined (b :: bs) s t

theorem Examined.unique {bs : List Byte} {s t u : State} (h : Examined bs s t) (h' : Examined bs s u) : t = u := by
  induction h with
  | nil => cases h'; rfl
  | cons _ ih =>
    cases h' with
    | cons h' => exact ih h'

theorem Examined.append {as bs : List Byte} {s t u : State} (h : Examined as s t) (h' : Examined bs t u) :
    Examined (as ++ bs) s u := by
  induction h with
  | nil => exact h'
  | cons _ ih => exact .cons (by simpa using ih h')

/-- The examinations that bytes can still need: a frame that fails gives up its lead byte. -/
def examinationsLeft (s : State) (m : Nat) : Nat := examinations (s.link.receiver.held.length + m) - s.link.receiver.held.length

theorem held_handNotice (k : Byte) (p : List Byte) (s : State) : (handNotice k p s).link.receiver = s.link.receiver := by
  rw [handNotice_eq]
  change (s.link.withNotice k p).receiver = _
  rw [Link.withNotice]
  split <;> rfl

theorem held_joinBuffer (f : Frame) (s : State) : (joinBuffer f s).link.receiver = s.link.receiver := by
  unfold joinBuffer
  split
  · rfl
  · exact held_handNotice _ _ _

/-- What a byte leaves to hold and to examine again: a byte more to hold at most, or the held bytes without the lead byte. -/
theorem again_held (s : State) (b : Byte) :
    ((s.rxOutcome b).again = [] ∧ (rxEffect (s.rxOutcome b) s).link.receiver.held.length ≤ s.link.receiver.held.length + 1)
    ∨ ((s.rxOutcome b).again.length = s.link.receiver.held.length
        ∧ (rxEffect (s.rxOutcome b) s).link.receiver.held = []) := by
  have waits (st : RxState) (held : List Byte) (o : RxOutcome) (ho : o = .waiting st held)
      (hl : held.length ≤ s.link.receiver.held.length + 1) :
      o.again = [] ∧ (rxEffect o s).link.receiver.held.length ≤ s.link.receiver.held.length + 1 := by
    subst ho
    exact ⟨rfl, hl⟩
  have fails (reason : LinkError) (o : RxOutcome) (ho : o = .failed reason ((s.link.receiver.held ++ [b]).drop 1)) :
      o.again.length = s.link.receiver.held.length ∧ (rxEffect o s).link.receiver.held = [] := by
    subst ho
    refine ⟨by simp [RxOutcome.again], ?_⟩
    change (handNotice _ _ _).link.receiver.held = _
    rw [held_handNotice]
    rfl
  cases h : s.link.receiver.state with
  | hunt =>
    left
    have hunts := rxOutcome_hunt h b
    by_cases lead : b = 0xA7
    · exact waits _ _ _ (hunts.trans (if_pos lead)) (by simp)
    · exact waits _ _ _ (hunts.trans (if_neg lead)) (by simp)
  | length =>
    by_cases long : 240 < b.toNat
    · exact .inr (fails _ _ (rxOutcome_length_over h long))
    · exact .inl (waits _ _ _ (rxOutcome_length h (Nat.not_lt.mp long)) (by simp))
  | body n =>
    by_cases more : 2 ≤ n
    · exact .inl (waits _ _ _ (rxOutcome_body h more b) (by simp))
    · have last : s.rxOutcome b = if checkMatches (s.link.receiver.held ++ [b]) then
          .complete (frameOf (s.link.receiver.held ++ [b])) else .failed .check ((s.link.receiver.held ++ [b]).drop 1) := by
        rw [State.rxOutcome, h]
        exact if_neg more
      by_cases check : checkMatches (s.link.receiver.held ++ [b]) = true
      · rw [if_pos check] at last
        refine .inl (last ▸ ⟨rfl, ?_⟩)
        change (joinBuffer _ _).link.receiver.held.length ≤ _
        rw [held_joinBuffer]
        exact Nat.zero_le _
      · exact .inr (fails _ _ (last.trans (if_neg check)))

/-- Every examination leaves fewer to come. -/
theorem examinationsLeft_lt (s : State) (b : Byte) (m : Nat) :
    examinationsLeft (rxEffect (s.rxOutcome b) s) ((s.rxOutcome b).again.length + m) < examinationsLeft s (m + 1) := by
  unfold examinationsLeft examinations
  rcases again_held s b with ⟨none, held⟩ | ⟨again, held⟩
  · rw [none, List.length_nil]
    generalize (rxEffect (s.rxOutcome b) s).link.receiver.held.length = h' at held
    generalize s.link.receiver.held.length = h at held
    have squares : (h' + (0 + m)) * (h' + (0 + m)) ≤ (h + (m + 1)) * (h + (m + 1)) :=
      Nat.mul_self_le_mul_self (by omega)
    omega
  · rw [held, again, List.length_nil]
    generalize s.link.receiver.held.length = h
    have square : (h + (m + 1)) * (h + (m + 1)) = (0 + (h + m)) * (0 + (h + m)) + (h + m) + (h + m) + 1 := by ring
    omega

/-- With as many examinations as the bytes can need, all of them are examined. -/
theorem examined_examine (k : Nat) : ∀ (bs : List Byte) (s : State), examinationsLeft s bs.length ≤ k →
    Examined bs s (examine k bs s) := by
  induction k with
  | zero =>
    intro bs s h
    cases bs with
    | nil => exact .nil s
    | cons b bs =>
      have less := examinationsLeft_lt s b bs.length
      rw [List.length_cons] at h
      omega
  | succ k ih =>
    intro bs s h
    cases bs with
    | nil => exact .nil s
    | cons b bs =>
      refine .cons (ih _ _ ?_)
      have less := examinationsLeft_lt s b bs.length
      rw [List.length_cons] at h
      rw [List.length_append]
      exact Nat.le_of_lt_succ (lt_of_lt_of_le less h)

theorem examined_examinations {s : State} {bs : List Byte} (h : s.link.receiver.held = [] ∨ bs = []) :
    Examined bs s (examine (examinations bs.length) bs s) := by
  rcases h with h | rfl
  · exact examined_examine _ _ _ (by simp [examinationsLeft, h])
  · exact .nil s

/-- A byte received at the tick of the latest one is examined as any held byte is. -/
theorem examined_receiveByte {s : State} (now : s.link.receiver.last = s.tick) (b : Byte) :
    Examined [b] s (receiveByte b s) := by
  have stamped : stampByte s = s := by
    obtain ⟨⟩ := s
    dsimp only at now
    subst now
    rfl
  refine .cons ?_
  rw [List.append_nil, receiveByte, stamped]
  refine examined_examinations ?_
  rcases again_held s b with ⟨none, -⟩ | ⟨-, held⟩
  · exact .inr none
  · exact .inl held

/-- No examination stamps a byte or moves the tick. -/
theorem Examined.now {bs : List Byte} {s t : State} (h : Examined bs s t) (now : s.link.receiver.last = s.tick) :
    t.link.receiver.last = t.tick := by
  induction h with
  | nil => exact now
  | @cons b bs s t _ ih =>
    refine ih ?_
    cases s.rxOutcome b with
    | waiting => exact now
    | complete f =>
      have tick : (joinBuffer f (setReceiver .hunt [] s)).tick = s.tick := by
        unfold joinBuffer
        split
        · rfl
        · change (handNotice _ _ _).tick = _
          rw [handNotice_eq]
          rfl
      exact ((congrArg Receiver.last (held_joinBuffer f (setReceiver .hunt [] s))).trans now).trans tick.symm
    | failed =>
      change (handNotice _ _ _).link.receiver.last = (handNotice _ _ _).tick
      rw [held_handNotice, handNotice_eq]
      exact now

/-- Bytes received at the tick of the latest one are examined in order. -/
theorem receiveAll_examined (bs : List Byte) : ∀ s : State, s.link.receiver.last = s.tick →
    ∃ t, receiveAll bs s = .next t ∧ Examined bs s t := by
  induction bs with
  | nil => exact fun s _ => ⟨s, rfl, .nil s⟩
  | cons b bs ih =>
    intro s now
    have first := examined_receiveByte now b
    obtain ⟨t, done, rest⟩ := ih _ (first.now now)
    exact ⟨t, (receiveAll_cons b bs s).trans done, first.append rest⟩

/-- Settles O51: the examination of the held bytes and their reception are one run. -/
theorem failedFrameIsExaminedAgain : Obligations.FailedFrameIsExaminedAgain := by
  unfold Obligations.FailedFrameIsExaminedAgain
  intro s b last noFrame length lead
  have mismatch : ¬ checkMatches (s.link.receiver.held ++ [b]) = true := by
    intro check
    match held : s.link.receiver.held with
    | [] => simp [held] at length
    | [_] | [_, _] | [_, _, _] => simp [held, byteAt] at length
    | a₀ :: a₁ :: a₂ :: a₃ :: rest =>
      rw [held] at lead length check
      obtain rfl : a₀ = 0xA7 := by simpa using lead
      refine noFrame _ ((congrArg (· ++ [b]) held).trans (bytes_frameOf (rest := rest ++ [b]) ?_ check))
      simp [byteAt] at length
      simp
      omega
  have fails := (rxOutcome_last last b).trans (if_neg mismatch)
  have again : (s.link.receiver.held ++ [b]).drop 1 = s.link.receiver.held.drop 1 ++ [b] :=
    List.drop_append_of_le_length (by omega)
  rw [exec_frameFailed_failed fails, again]
  have receiver : ((s.link.receiving .hunt [] s.tick).withNotice 0x52 [linkErrorCode .check, 0, 0]).receiver
      = { state := .hunt, held := [], last := s.tick } := by
    rw [Link.withNotice]
    split <;> rfl
  obtain ⟨t, done, examined⟩ := receiveAll_examined (s.link.receiver.held.drop 1 ++ [b])
    { s with link := (s.link.receiving .hunt [] s.tick).withNotice 0x52 [linkErrorCode .check, 0, 0] }
    (congrArg Receiver.last receiver)
  have run := examined_examinations (s := { s with
    link := (s.link.receiving .hunt [] s.tick).withNotice 0x52 [linkErrorCode .check, 0, 0] })
    (bs := s.link.receiver.held.drop 1 ++ [b]) (.inl (congrArg Receiver.held receiver))
  exact (congrArg Host.Outcome.next (run.unique examined)).trans done.symm

/-! ## A frame received (R166 to R168) -/

theorem receiveAll_waiting {s : State} {b : Byte} {st : RxState} {held : List Byte} (h : s.rxOutcome b = .waiting st held)
    (bs : List Byte) : receiveAll (b :: bs) s = receiveAll bs { s with link := s.link.receiving st held s.tick } := by
  have received : receiveByte b s = { s with link := s.link.receiving st held s.tick } := by
    rw [receiveByte, h]
    rfl
  rw [receiveAll_cons, received]

/-- The bytes that complete a frame in BODY put it into the buffer. -/
theorem receiveAll_body (f : Frame) (bs : List Byte) : ∀ s : State, bs ≠ [] → s.link.receiver.state = .body bs.length →
    s.link.receiver.held ++ bs = f.bytes → s.link.buffer.length < 4 →
    receiveAll bs s = .next { s with link := { s.link with
      buffer := s.link.buffer ++ [f], receiver := { state := .hunt, held := [], last := s.tick } } } := by
  induction bs with
  | nil => exact fun s h => absurd rfl h
  | cons b bs ih =>
    intro s _ state held room
    match bs with
    | [] =>
      have complete : s.rxOutcome b = .complete f := rxOutcome_frame state held
      rw [receiveAll, byteCommand, complete]
      dsimp only
      rw [exec_frameComplete_complete complete, if_pos room]
      rfl
    | b' :: bs =>
      have waits := rxOutcome_body state (Nat.le_add_left 2 bs.length) b
      have held' : (s.link.receiver.held ++ [b]) ++ (b' :: bs) = f.bytes := by rw [← held]; exact List.append_assoc _ _ _
      rw [receiveAll_waiting waits]
      exact ih { s with link := s.link.receiving (.body (b' :: bs).length) (s.link.receiver.held ++ [b]) s.tick }
        (List.cons_ne_nil _ _) rfl held' room

/-- Settles O53: lead byte, length, and then the body. -/
theorem frameSentIsFrameReceived : Obligations.FrameSentIsFrameReceived := by
  unfold Obligations.FrameSentIsFrameReceived
  intro f s fits hunt room
  have length : (byte f.payload.length).toNat = f.payload.length := toNat_byte (by omega)
  have bytes := frame_bytes_eq f
  generalize rest : f.tag :: f.kind :: (f.payload ++ bytesOf 2 (crc f.body).toNat) = more at bytes
  have count : more.length = f.payload.length + 4 := by simp [← rest, length_bytesOf]
  have short : (byte f.payload.length).toNat ≤ 240 := length.trans_le fits
  rw [bytes, receiveAll_waiting ((rxOutcome_hunt hunt _).trans (if_pos rfl)), receiveAll_waiting (rxOutcome_length rfl short)]
  refine receiveAll_body f more
    { s with link := s.link.receiving (.body ((byte f.payload.length).toNat + 4)) [0xA7, byte f.payload.length] s.tick } ?_
    (congrArg RxState.body (by rw [length, count])) bytes.symm room
  intro none
  simp [none] at count

/-! ## The transmitter (R166, R169, R178) -/

theorem bitRate_eq (rate1 rate0 : Bool) : bitRate rate1 rate0 = 57600 * 2 ^ (2 * rate1.toNat + rate0.toNat) := by
  cases rate1 <;> cases rate0 <;> rfl

/-- The smallest whole number of ticks that is not less than 100,000 L / r (R166). -/
theorem sendTicks_least (len : Nat) {rate : Nat} (h : 0 < rate) :
    100000 * len ≤ sendTicks len rate * rate ∧ sendTicks len rate * rate < 100000 * len + rate := by
  unfold sendTicks
  generalize 100000 * len = x
  have below := Nat.div_mul_le_self (x + rate - 1) rate
  have above := Nat.lt_div_mul_add (a := x + rate - 1) h
  omega

/-- The message of a frame that starts at this tick (R166). -/
def State.sentOf (s : State) (src : TxSource) (f : Frame) : Sent where
  source := src
  bytes := f.bytes
  timer := { start := s.tick, width := sendTicks f.bytes.length (bitRate s.link.rate1 s.link.rate0) }

/-- The message that starts holds the bytes of its frame for as long as they take. -/
theorem exec_messageStart {s : State} {src : TxSource} {f : Frame} (free : s.link.sent = none) (noReset : s.link.resetDue = false)
    (h : s.nextMessage = some (src, f)) :
    exec .messageStart s = .next { s with link := { s.link with
      sent := some (s.sentOf src f), notices := if src = .notice then s.link.notices.tail else s.link.notices } } := by
  have starts : s.messageToStart = some (src, f) := by
    rw [State.messageToStart, if_pos ⟨by simp [free], noReset⟩, h]
  change execMessageStart s = _
  rw [execMessageStart, starts]
  rfl

theorem exec_messageEnd {s : State} {m : Sent} (h : s.link.sent = some m) (late : m.timer.width ≤ interval m.timer.start s.tick) :
    exec .messageEnd s = .next (endMessage m.source s) := by
  have done : s.messageDone = some m.source := by
    rw [State.messageDone, h]
    exact if_pos late
  change execMessageEnd s = _
  rw [execMessageEnd, done]

/-- Settles O52. -/
theorem transmitterSendsInOrder : Obligations.TransmitterSendsInOrder := by
  unfold Obligations.TransmitterSendsInOrder
  refine ⟨fun s free noReset => ?_, fun s m h late => ⟨fun src => ?_, fun src => ?_, fun src => ?_⟩⟩
  · have times (f : Frame) := sendTicks_least f.bytes.length
      (rate := 57600 * 2 ^ (2 * s.link.rate1.toNat + s.link.rate0.toNat)) (Nat.mul_pos (by decide) (Nat.two_pow_pos _))
    simp only [← bitRate_eq] at times ⊢
    refine ⟨fun f answer => ?_, fun f none reply => ?_, fun f rest none none' notices => ?_⟩
    · exact ⟨s.sentOf .watchAnswer f, ⟨rfl, rfl, length_frame_bytes f, rfl, times f⟩,
        exec_messageStart free noReset (src := .watchAnswer) (f := f) (by rw [State.nextMessage, answer])⟩
    · exact ⟨s.sentOf .reply f, ⟨rfl, rfl, length_frame_bytes f, rfl, times f⟩,
        exec_messageStart free noReset (src := .reply) (f := f) (by rw [State.nextMessage, none, reply])⟩
    · refine ⟨s.sentOf .notice f, ⟨rfl, rfl, length_frame_bytes f, rfl, times f⟩,
        (exec_messageStart free noReset (src := .notice) (f := f) (by rw [State.nextMessage, none, none', notices])).trans ?_⟩
      rw [notices]
      rfl
  · rw [exec_messageEnd h late, src]
    simp [endMessage]
  · rw [exec_messageEnd h late, src]
    simp [endMessage]
  · rw [exec_messageEnd h late, src]
    simp [endMessage]

end Sys2Proof.Machine
end

section
/-!
The step on an empty queue: what the samples, the timers, the links and the requests make due at a tick, the choice among what is
due, and the passing of a tick (R1, R5 to R7, R55, R130, R135, R154, R168; log entries 1, 2, 11, 18 and 27).
-/
namespace Sys2Proof.Machine

theorem mem_whenDue {b : Bool} {c i : Instr} : c ∈ whenDue b i ↔ b = true ∧ c = i := by
  cases b <;> simp [whenDue]

theorem mem_ite_singleton {p : Prop} [Decidable p] {c i : Instr} : (c ∈ if p then [i] else []) ↔ p ∧ c = i := by
  by_cases h : p <;> simp [h]

/-! ## The request that can be taken -/

theorem requestReady_eq_some {s : State} {f : Frame} : s.requestReady = some f ↔ ∃ rest, HeadRequest f rest s := by
  constructor
  · intro h
    unfold State.requestReady at h
    split at h
    · rename_i free
      obtain ⟨noReply, notTaken, noReset⟩ := free
      cases buffer : s.link.buffer with
      | nil => simp [buffer] at h
      | cons g rest =>
        obtain rfl : g = f := by simpa [buffer] using h
        exact ⟨rest, buffer, Option.isNone_iff_eq_none.mp noReply, notTaken, noReset⟩
    · cases h
  · rintro ⟨rest, buffer, noReply, notTaken, noReset⟩
    simp [State.requestReady, buffer, noReply, notTaken, noReset]

/-- The request `n` of the table takes a frame of its kind, whatever its second byte. -/
theorem takesFrame_plain (n : Nat) {x : Instr × Byte × (Nat → Bool) × Option Byte} {f : Frame} (hx : requests[n]? = some x)
    (none : x.2.2.2 = none) (hk : f.kind = x.2.1) : TakesFrame x.1 f :=
  ⟨x, List.mem_of_getElem? hx, rfl, hk, fun b hb => by simp [none] at hb⟩

/-- The request `n` of the table takes a frame of its kind whose second byte spells it. -/
theorem takesFrame_spelled (n : Nat) {x : Instr × Byte × (Nat → Bool) × Option Byte} {f : Frame} {d : Byte}
    (hx : requests[n]? = some x) (spells : x.2.2.2 = some d) (hk : f.kind = x.2.1) (hd : byteAt f.payload 1 = d) :
    TakesFrame x.1 f :=
  ⟨x, List.mem_of_getElem? hx, rfl, hk, fun b hb => .inl (by rw [spells] at hb; rw [hd]; exact Option.some.inj hb)⟩

theorem takesFrame_adjustPlus {f : Frame} (hk : f.kind = 0x13) (hd : ¬ byteAt f.payload 1 = 0xFF) :
    TakesFrame .adjustLengthPlusOne f := by
  by_cases one : byteAt f.payload 1 = 0x01
  · exact takesFrame_spelled 12 rfl rfl hk one
  · refine ⟨_, List.mem_of_getElem? (i := 12) rfl, rfl, hk, fun b _ => .inr ⟨.inl rfl, fun y hy hyk spelled => ?_⟩⟩
    rw [hk] at hyk
    have rows : ∀ y ∈ requests, y.2.1 = 0x13 → y.2.2.2 = some 0x01 ∨ y.2.2.2 = some 0xFF := by decide
    rcases rows y hy hyk with h | h
    · exact one (Option.some.inj (spelled.symm.trans h))
    · exact hd (Option.some.inj (spelled.symm.trans h))

theorem takesFrame_dns {f : Frame} (hk : f.kind = 0x1B) (h₁ : ¬ byteAt f.payload 1 = 1) (h₂ : ¬ byteAt f.payload 1 = 2)
    (h₃ : ¬ byteAt f.payload 1 = 3) : TakesFrame .declareDns f := by
  by_cases zero : byteAt f.payload 1 = 0
  · exact takesFrame_spelled 21 rfl rfl hk zero
  · refine ⟨_, List.mem_of_getElem? (i := 21) rfl, rfl, hk, fun b _ => .inr ⟨.inr rfl, fun y hy hyk spelled => ?_⟩⟩
    rw [hk] at hyk
    have rows : ∀ y ∈ requests, y.2.1 = 0x1B →
        y.2.2.2 = some 0 ∨ y.2.2.2 = some 1 ∨ y.2.2.2 = some 2 ∨ y.2.2.2 = some 3 := by decide
    rcases rows y hy hyk with h | h | h | h
    · exact zero (Option.some.inj (spelled.symm.trans h))
    · exact h₁ (Option.some.inj (spelled.symm.trans h))
    · exact h₂ (Option.some.inj (spelled.symm.trans h))
    · exact h₃ (Option.some.inj (spelled.symm.trans h))

/-- The command takes the frame, or it is UNKNOWN_KIND and the request table lacks the frame's kind. -/
def Suits (f : Frame) (c : Instr) : Prop := TakesFrame c f ∨ (c = .unknownKind ∧ ∀ x ∈ requests, f.kind ≠ x.2.1)

theorem Suits.ite {f : Frame} {p : Prop} [Decidable p] {c d : Instr} (h : p → Suits f c) (h' : ¬ p → Suits f d) :
    Suits f (if p then c else d) := by
  by_cases hp : p
  · rw [if_pos hp]; exact h hp
  · rw [if_neg hp]; exact h' hp

theorem suits_adjust {f : Frame} (hk : f.kind = 0x13) :
    Suits f (if byteAt f.payload 1 = 0xFF then .adjustLengthMinusOne else .adjustLengthPlusOne) :=
  .ite (fun hd => .inl (takesFrame_spelled 13 rfl rfl hk hd)) fun hd => .inl (takesFrame_adjustPlus hk hd)

theorem suits_declare {f : Frame} (hk : f.kind = 0x1B) :
    Suits f (if byteAt f.payload 1 = 1 then .declareDnf else if byteAt f.payload 1 = 2 then .declareDq
      else if byteAt f.payload 1 = 3 then .declareReinstate else .declareDns) :=
  .ite (fun hd => .inl (takesFrame_spelled 22 rfl rfl hk hd)) fun h₁ =>
    .ite (fun hd => .inl (takesFrame_spelled 23 rfl rfl hk hd)) fun h₂ =>
    .ite (fun hd => .inl (takesFrame_spelled 24 rfl rfl hk hd)) fun h₃ => .inl (takesFrame_dns hk h₁ h₂ h₃)

theorem requestCommand_suits (f : Frame) : Suits f (requestCommand f) := by
  unfold requestCommand
  exact
    .ite (fun hk => .inl (takesFrame_plain 0 rfl rfl hk)) fun h0 =>
    .ite (fun hk => .inl (takesFrame_plain 1 rfl rfl hk)) fun h1 =>
    .ite (fun hk => .inl (takesFrame_plain 2 rfl rfl hk)) fun h2 =>
    .ite (fun hk => .inl (takesFrame_plain 3 rfl rfl hk)) fun h3 =>
    .ite (fun hk => .inl (takesFrame_plain 4 rfl rfl hk)) fun h4 =>
    .ite (fun hk => .inl (takesFrame_plain 5 rfl rfl hk)) fun h5 =>
    .ite (fun hk => .inl (takesFrame_plain 6 rfl rfl hk)) fun h6 =>
    .ite (fun hk => .inl (takesFrame_plain 7 rfl rfl hk)) fun h7 =>
    .ite (fun hk => .inl (takesFrame_plain 8 rfl rfl hk)) fun h8 =>
    .ite (fun hk => .inl (takesFrame_plain 9 rfl rfl hk)) fun h9 =>
    .ite (fun hk => .inl (takesFrame_plain 10 rfl rfl hk)) fun h10 =>
    .ite (fun hk => .inl (takesFrame_plain 11 rfl rfl hk)) fun h11 =>
    .ite (fun hk => suits_adjust hk) fun h12 =>
    .ite (fun hk => .inl (takesFrame_plain 14 rfl rfl hk)) fun h13 =>
    .ite (fun hk => .inl (takesFrame_plain 15 rfl rfl hk)) fun h14 =>
    .ite (fun hk => .inl (takesFrame_plain 16 rfl rfl hk)) fun h15 =>
    .ite (fun hk => .inl (takesFrame_plain 17 rfl rfl hk)) fun h16 =>
    .ite (fun hk => .inl (takesFrame_plain 18 rfl rfl hk)) fun h17 =>
    .ite (fun hk => .inl (takesFrame_plain 19 rfl rfl hk)) fun h18 =>
    .ite (fun hk => .inl (takesFrame_plain 20 rfl rfl hk)) fun h19 =>
    .ite (fun hk => suits_declare hk) fun h20 =>
    .ite (fun hk => .inl (takesFrame_plain 25 rfl rfl hk)) fun h21 =>
    .ite (fun hk => .inl (takesFrame_plain 26 rfl rfl hk)) fun h22 =>
    .ite (fun hk => .inl (takesFrame_plain 27 rfl rfl hk)) fun h23 =>
    .ite (fun hk => .inl (takesFrame_plain 28 rfl rfl hk)) fun h24 =>
    .ite (fun hk => .inl (takesFrame_plain 29 rfl rfl hk)) fun h25 =>
    .ite (fun hk => .inl (takesFrame_plain 30 rfl rfl hk)) fun h26 =>
    .ite (fun hk => .inl (takesFrame_plain 31 rfl rfl hk)) fun h27 =>
    .inr ⟨rfl, by
      simp only [requests, List.forall_mem_cons, List.not_mem_nil, false_implies, implies_true, and_true]
      exact ⟨h0, h1, h2, h3, h4, h5, h6, h7, h8, h9, h10, h11, h12, h12, h13, h14, h15, h16, h17, h18, h19, h20, h20, h20, h20, h21, h22, h23, h24, h25, h26, h27⟩⟩

/-- Two requests of one kind differ in the byte that spells them, and one at most also takes what spells neither (log entry 4). -/
theorem requests_spelled : ∀ x ∈ requests, ∀ y ∈ requests, x.2.1 = y.2.1 → x.1 ≠ y.1 →
    x.2.2.2.isSome = true ∧ y.2.2.2.isSome = true ∧ x.2.2.2 ≠ y.2.2.2
    ∧ ¬ ((x.1 = .adjustLengthPlusOne ∨ x.1 = .declareDns) ∧ (y.1 = .adjustLengthPlusOne ∨ y.1 = .declareDns)) := by
  decide

/-- No frame is taken by two commands. -/
theorem takesFrame_unique {c d : Instr} {f : Frame} (hc : TakesFrame c f) (hd : TakesFrame d f) : c = d := by
  obtain ⟨x, hx, rfl, hxk, hxs⟩ := hc
  obtain ⟨y, hy, rfl, hyk, hys⟩ := hd
  by_contra differ
  obtain ⟨someX, someY, unlike, both⟩ := requests_spelled x hx y hy (hxk.symm.trans hyk) differ
  obtain ⟨a, ha⟩ := Option.isSome_iff_exists.mp someX
  obtain ⟨b, hb⟩ := Option.isSome_iff_exists.mp someY
  rcases hxs a ha with isA | ⟨openX, noneX⟩
  · rcases hys b hb with isB | ⟨-, noneY⟩
    · exact unlike (by rw [ha, hb, ← isA, ← isB])
    · exact noneY x hx hxk.symm (isA ▸ ha)
  · rcases hys b hb with isB | ⟨openY, -⟩
    · exact noneX y hy hyk.symm (isB ▸ hb)
    · exact both ⟨openX, openY⟩

theorem requestCommand_eq_iff {f : Frame} {c : Instr} (hc : c ≠ .unknownKind) : requestCommand f = c ↔ TakesFrame c f := by
  constructor
  · rintro rfl
    exact (requestCommand_suits f).resolve_right fun h => hc h.1
  · intro h
    rcases requestCommand_suits f with takes | ⟨-, lacks⟩
    · exact takesFrame_unique takes h
    · obtain ⟨x, hx, -, hk, -⟩ := h
      exact absurd hk (lacks x hx)

theorem requestCommand_unknown_iff {f : Frame} : requestCommand f = .unknownKind ↔ ∀ x ∈ requests, f.kind ≠ x.2.1 := by
  have noRow : ∀ x ∈ requests, x.1 ≠ .unknownKind := by decide
  constructor
  · intro h
    rcases requestCommand_suits f with ⟨x, hx, hc, -⟩ | ⟨-, lacks⟩
    · exact absurd (hc.symm.trans h) (noRow x hx)
    · exact lacks
  · intro lacks
    rcases requestCommand_suits f with ⟨x, hx, -, hk, -⟩ | ⟨unknown, -⟩
    · exact absurd hk (lacks x hx)
    · exact unknown

/-! ## What the sample of the ownership inputs calls for (R149, R150, R153, R154) -/

theorem withdraws_iff (s : State) : withdraws s = true ↔ s.pins.share.own = true ∧ s.share.unitA = false
    ∧ ∃ c, s.share.claim = some c ∧ 1 ≤ interval c s.tick := by
  unfold withdraws
  cases s.share.claim <;> simp
  tauto

theorem partnerTakes_iff (s : State) :
    partnerTakes s = true ↔ s.pins.share.own = true ∧ s.share.state = .free ∧ s.share.claim = none := by
  simp [partnerTakes]
  tauto

theorem boardIsFree_iff (s : State) :
    boardIsFree s = true ↔ s.pins.share.own = false ∧ s.pins.share.req = false ∧ s.share.state = .partnerOwns := by
  simp [boardIsFree]
  tauto

theorem claimOpens_iff (s : State) : claimOpens s = true
    ↔ s.pins.share.own = false ∧ (s.share.state = .asking ∨ s.share.state = .forcing) ∧ s.share.claim = none := by
  simp [claimOpens, askingOrForcing]
  tauto

theorem readsRequest_iff (s : State) :
    readsRequest s = true ↔ s.pins.share.req = true ∧ s.share.state = .owning ∧ ¬ StopIsDue s := by
  rw [← stopReady_iff]
  simp [readsRequest]
  tauto

theorem forcedOff_iff (s : State) :
    forcedOff s = true ↔ s.pins.share.force = true ∧ s.share.state = .owning ∧ ¬ StopIsDue s := by
  rw [← stopReady_iff]
  simp [forcedOff]
  tauto

/-- A command that reads levels is called for with the levels of the sample. -/
theorem and_eq_comm_levels {p : ShareLevels → Prop} {v w : ShareLevels} : p w ∧ v = w ↔ v = w ∧ p v :=
  ⟨fun ⟨h, e⟩ => ⟨e, e ▸ h⟩, fun ⟨e, h⟩ => ⟨e ▸ h, e⟩⟩

theorem mem_shareSample (c : Instr) (s : State) : c ∈ shareSample s ↔ ShareSampleCalls c s := by
  simp only [shareSample, List.mem_append, mem_ite_singleton, Bool.and_eq_true, withdraws_iff, partnerTakes_iff, boardIsFree_iff,
    claimOpens_iff, readsRequest_iff, forcedOff_iff]
  cases c with
  | claimWithdrawn v =>
    simp [ShareSampleCalls]
    exact and_eq_comm_levels (p := fun v => v.own = true ∧ _)
  | partnerTook v =>
    simp [ShareSampleCalls]
    exact and_eq_comm_levels (p := fun v => v.own = true ∧ _)
  | boardFree v =>
    simp [ShareSampleCalls]
    exact and_eq_comm_levels (p := fun v => v.own = false ∧ v.req = false ∧ _)
  | claimOnOwnInInactive v =>
    simp [ShareSampleCalls]
    exact and_eq_comm_levels (p := fun v => v.own = false ∧ _)
  | reqInActive v =>
    simp [ShareSampleCalls]
    refine Iff.trans ?_ (and_eq_comm_levels (p := fun v => v.req = true ∧ _))
    tauto
  | boardLost v =>
    simp [ShareSampleCalls]
    exact and_eq_comm_levels (p := fun v => v.force = true ∧ _)
  | _ => simp [ShareSampleCalls]

/-! ## What the samples of a tick make due (R6, R7, R130) -/

theorem mem_lineSample (n : Nat) (c : Instr) (s : State) : c ∈ lineSample n s ↔
    ((s.line n).startsEdge (s.level n (s.pins.lines.getD n false)) = true ∧ c = .pendingEdge n (s.pins.lines.getD n false))
    ∨ ((s.line n).dropsEdge (s.level n (s.pins.lines.getD n false)) = true
        ∧ c = .pendingEdgeDropped n (s.pins.lines.getD n false))
    ∨ ((s.line n).startsEdge (s.level n (s.pins.lines.getD n false)) = false
        ∧ (s.line n).dropsEdge (s.level n (s.pins.lines.getD n false)) = false
        ∧ ((s.line n).confirms (s.level n (s.pins.lines.getD n false)) (s.tested.deglitch (lineClass n)) s.tick).isSome = true
        ∧ c = .edgeConfirmed n (s.pins.lines.getD n false)) := by
  have apart (level : Bool) (h : (s.line n).startsEdge level = true) : (s.line n).dropsEdge level = false := by
    unfold Line.startsEdge at h
    unfold Line.dropsEdge
    cases hp : (s.line n).pendingEdge <;> simp_all
  unfold lineSample
  dsimp only
  generalize s.pins.lines.getD n false = high at *
  by_cases starts : (s.line n).startsEdge (s.level n high) = true
  · simp [starts, apart _ starts]
  · rw [Bool.not_eq_true] at starts
    by_cases drops : (s.line n).dropsEdge (s.level n high) = true
    · simp [starts, drops]
    · rw [Bool.not_eq_true] at drops
      simp [starts, drops]

theorem clockMultiple_iff (n : Nat) (s : State) :
    clockMultiple n s = true ↔ s.race.state = .running ∧ s.raceClock < 59999999 ∧ s.raceClock % n = 0 := decide_eq_true_iff

theorem mem_samplesDue (c : Instr) (s : State) : c ∈ samplesDue s ↔ SampleMakesDue c s := by
  have lines : c ∈ samplesDue s ↔ (∃ n < 61, c ∈ lineSample n s)
      ∨ (clockMultiple 1000 s = true ∧ c = .headerTenths) ∨ (clockMultiple 10000 s = true ∧ c = .runningSeconds) := by
    simp [samplesDue, clockMarks, Config.lineCount]
  rw [lines]
  simp only [mem_lineSample]
  cases c with
  | pendingEdge n high =>
    simp only [SampleMakesDue, reduceCtorEq, and_false, or_false, Instr.pendingEdge.injEq, Line.startsEdge, Bool.and_eq_true,
      Option.isNone_iff_eq_none, bne_iff_ne]
    constructor
    · rintro ⟨m, hm, ⟨none, differs⟩, rfl, rfl⟩
      exact ⟨hm, rfl, none, differs⟩
    · rintro ⟨hm, rfl, none, differs⟩
      exact ⟨n, hm, ⟨none, differs⟩, rfl, rfl⟩
  | pendingEdgeDropped n high =>
    simp only [SampleMakesDue, reduceCtorEq, and_false, or_false, false_or, Instr.pendingEdgeDropped.injEq, Line.dropsEdge,
      Bool.and_eq_true, Option.isSome_iff_ne_none, beq_iff_eq]
    constructor
    · rintro ⟨m, hm, ⟨pending, same⟩, rfl, rfl⟩
      exact ⟨hm, rfl, pending, same⟩
    · rintro ⟨hm, rfl, pending, same⟩
      exact ⟨n, hm, ⟨pending, same⟩, rfl, rfl⟩
  | edgeConfirmed n high =>
    have confirmed (m : Nat) : ((s.line m).dropsEdge (s.level m (s.pins.lines.getD m false)) = false
        ∧ ((s.line m).confirms (s.level m (s.pins.lines.getD m false)) (s.tested.deglitch (lineClass m)) s.tick).isSome = true)
        ↔ ∃ e, (s.line m).pendingEdge = some e ∧ s.level m (s.pins.lines.getD m false) ≠ (s.line m).active
          ∧ s.level m (s.pins.lines.getD m false) = e.active ∧ s.tested.deglitch (lineClass m) ≤ interval e.lead s.tick := by
      unfold Line.dropsEdge Line.confirms
      cases (s.line m).pendingEdge with
      | none => simp
      | some e => by_cases h : s.level m (s.pins.lines.getD m false) = e.active
            ∧ s.tested.deglitch (lineClass m) ≤ interval e.lead s.tick <;> simp [h]
    have started (m : Nat) (e : PendingEdge) (he : (s.line m).pendingEdge = some e) (level : Bool) :
        (s.line m).startsEdge level = false := by simp [Line.startsEdge, he]
    simp only [SampleMakesDue, reduceCtorEq, and_false, or_false, false_or, Instr.edgeConfirmed.injEq]
    constructor
    · rintro ⟨m, hm, -, drops, some, rfl, rfl⟩
      exact ⟨hm, rfl, (confirmed n).mp ⟨drops, some⟩⟩
    · rintro ⟨hm, rfl, e, he, conf⟩
      obtain ⟨drops, some⟩ := (confirmed n).mpr ⟨e, he, conf⟩
      exact ⟨n, hm, started n e he _, drops, some, rfl, rfl⟩
  | headerTenths => simp [SampleMakesDue, clockMultiple_iff]
  | runningSeconds => simp [SampleMakesDue, clockMultiple_iff]
  | _ => simp [SampleMakesDue]

/-! ## The timers that have run out -/

theorem padHoldExpired_iff (n : Nat) (s : State) :
    padHoldExpired n s = true ↔ ∃ h, (s.line n).rearm = .hold h ∧ s.tested.padHold ≤ interval h s.tick := by
  unfold padHoldExpired
  cases (s.line n).rearm <;> simp

theorem stuckDue_iff (n : Nat) (s : State) : stuckDue n s = true ↔ lineClass n ≠ .block ∧ (s.line n).stuck = false
    ∧ (s.line n).active = true ∧ s.tested.stuckTime < interval (s.line n).activeSince s.tick := by
  have alarmed : (stuckAlarm n).isSome = true ↔ lineClass n ≠ .block := by
    unfold stuckAlarm
    cases lineClass n <;> simp
  simp [stuckDue, alarmed, and_assoc]

theorem windowExpired_iff (n : Nat) (s : State) : windowExpired n s = true
    ↔ (s.lane n).state = .finishing ∧ ∃ w, (s.lane n).window = some w ∧ w.width ≤ interval w.start s.tick := by
  unfold windowExpired
  cases (s.lane n).window <;> simp

theorem holdExpired_iff (n : Nat) (s : State) :
    holdExpired n s = true ↔ ∃ h, s.hold n = some h ∧ h.width ≤ interval h.start s.tick := by
  unfold holdExpired
  cases s.hold n <;> simp

theorem slotExpired_iff (s : State) :
    slotExpired s = true ↔ ∃ st, s.board.slot = some st ∧ s.board.slotPeriod ≤ interval st s.tick := by
  unfold slotExpired
  cases s.board.slot <;> simp

theorem limitReached_iff (s : State) : limitReached s = true ↔ s.race.state = .running ∧ s.race.limitMark = false
    ∧ ∃ st, s.race.startTick = some st ∧ s.tick = st + 59999999 := by
  unfold limitReached
  cases s.race.startTick with
  | none => simp
  | some st =>
    rw [decide_eq_true_iff]
    simp [later, Config.clockLimit]

theorem claimWon_iff (s : State) : claimWon s = true
    ↔ ∃ c, s.share.claim = some c ∧ 10 ≤ interval c s.tick ∧ (s.share.unitA = true ∨ s.pins.share.own = false) := by
  unfold claimWon
  cases s.share.claim with
  | none => simp
  | some c =>
    dsimp only
    rw [Bool.and_eq_true, decide_eq_true_iff]
    simp [Config.claimWindow]

theorem takeWaitExpired_iff (s : State) : takeWaitExpired s = true
    ↔ (s.share.state = .asking ∨ s.share.state = .forcing) ∧ s.share.claim = none
      ∧ ∃ st, s.share.takeWait = some st ∧ s.tested.takeWait ≤ interval st s.tick := by
  unfold takeWaitExpired askingOrForcing
  cases s.share.takeWait <;> simp [and_assoc]

theorem expired_iff (x : LampTimer) (now : Tick) : x.expired now = true ↔ LampRunOut (some x) now := by
  unfold LampTimer.expired LampRunOut
  cases h : x.run <;> simp [h]

/-- A function the unit does not have never expires. -/
theorem expired_getD_iff (xs : List LampTimer) (n : Nat) (k : LampKind) (now : Tick) :
    (xs.getD n (LampTimer.stopped k)).expired now = true ↔ LampRunOut xs[n]? now := by
  cases h : xs[n]? with
  | some x => rw [List.getD_eq_getElem?_getD, h]; exact expired_iff x now
  | none =>
    rw [List.getD_eq_getElem?_getD, h]
    simp [LampRunOut, LampTimer.expired, LampTimer.stopped]

theorem gapExceeded_iff (s : State) :
    gapExceeded s = true ↔ s.link.receiver.state ≠ .hunt ∧ 200 < interval s.link.receiver.last s.tick := decide_eq_true_iff

theorem messageDone_isSome_iff (s : State) :
    s.messageDone.isSome = true ↔ ∃ m, s.link.sent = some m ∧ m.timer.width ≤ interval m.timer.start s.tick := by
  unfold State.messageDone
  cases s.link.sent with
  | none => simp
  | some m => by_cases h : m.timer.width ≤ interval m.timer.start s.tick <;> simp [h]

theorem messageToStart_isSome_iff (s : State) : s.messageToStart.isSome = true ↔ s.link.sent = none ∧ s.link.resetDue = false
    ∧ (s.link.watchAnswer ≠ none ∨ s.link.reply ≠ none ∨ s.link.notices ≠ []) := by
  have next : s.nextMessage.isSome = true ↔ s.link.watchAnswer ≠ none ∨ s.link.reply ≠ none ∨ s.link.notices ≠ [] := by
    unfold State.nextMessage
    cases s.link.watchAnswer <;> cases s.link.reply <;> cases s.link.notices <;> simp
  unfold State.messageToStart
  by_cases free : s.link.sent.isNone = true ∧ s.link.resetDue = false
  · rw [if_pos free, next]
    simp [Option.isNone_iff_eq_none.mp free.1, free.2]
  · rw [if_neg free]
    simp [Option.isNone_iff_eq_none] at free ⊢
    exact fun h h' => absurd h' (by simp [free h])

/-! ## The row that can start, and the row in transmission (R137 to R143) -/

theorem unmaskedRows_pos_iff {s : State} (hm : s.board.mask.length = 22) :
    0 < unmaskedRows s.board.mask ↔ ∃ r < 22, s.rowMasked r = false := by
  constructor
  · intro h
    obtain ⟨r, hr, clear⟩ := exists_unmasked h
    exact ⟨r, hm ▸ hr, clear⟩
  · rintro ⟨r, hr, clear⟩
    rw [← hm] at hr
    refine List.countP_pos_iff.mpr ⟨s.board.mask[r], List.getElem_mem hr, ?_⟩
    have at_r : s.board.mask[r] = false := by simpa [State.rowMasked, hr] using clear
    simp [at_r]

/-- Wherever the pointer stands, the search finds an unmasked row. -/
theorem roundRobinRow_isSome {s : State} (h : ∃ r < 22, s.rowMasked r = false) : (roundRobinRow s).isSome = true := by
  obtain ⟨q, hq, clear⟩ := h
  refine List.find?_isSome.mpr ⟨q, List.mem_map.mpr ⟨(q + 22 - s.board.pointer % 22) % 22, ?_, ?_⟩, by simp [clear]⟩
  · exact List.mem_range.mpr (Nat.mod_lt _ (by decide))
  · change (s.board.pointer + (q + 22 - s.board.pointer % 22) % 22) % 22 = q
    omega

theorem rowChoice_isSome_iff {s : State} (hm : s.board.mask.length = 22) : (rowChoice s).isSome = true
    ↔ s.board.queue ≠ [] ∨ (s.board.balance < 8 ∧ ∃ r < 22, s.rowMasked r = false) := by
  have low : -Config.balanceBound = -8 := rfl
  have high : Config.balanceBound = 8 := rfl
  have found (h : 0 < unmaskedRows s.board.mask) := roundRobinRow_isSome ((unmaskedRows_pos_iff hm).mp h)
  unfold rowChoice
  rw [← unmaskedRows_pos_iff hm]
  by_cases first : s.board.balance = -Config.balanceBound ∧ 0 < unmaskedRows s.board.mask
  · rw [if_pos first, Option.isSome_map]
    simp only [found first.2, true_iff]
    exact .inr ⟨by omega, first.2⟩
  · rw [if_neg first]
    cases queue : s.board.queue with
    | cons r rs => simp
    | nil =>
      by_cases below : s.board.balance < Config.balanceBound ∧ 0 < unmaskedRows s.board.mask
      · simp only [if_pos below, Option.isSome_map, found below.2, true_iff]
        exact .inr below
      · rw [if_neg below]
        rw [high] at below
        simpa using fun less => not_lt.mp fun pos => below ⟨less, pos⟩

theorem rowToStart_isSome_iff {s : State} (hm : s.board.mask.length = 22) : (rowToStart s).isSome = true
    ↔ s.share.state = .owning ∧ s.board.sending = none ∧ s.share.yieldPending = false ∧ s.share.releasePending = false
      ∧ (s.board.queue ≠ [] ∨ (s.board.balance < 8 ∧ ∃ r < 22, s.rowMasked r = false)) := by
  have free : linkFree s = true ↔ s.share.state = .owning ∧ s.board.sending = none ∧ s.share.yieldPending = false
      ∧ s.share.releasePending = false := by simp [linkFree, and_assoc]
  unfold rowToStart
  by_cases h : linkFree s = true
  · obtain ⟨owning, idle, noYield, noRelease⟩ := free.mp h
    rw [if_pos h, rowChoice_isSome_iff hm]
    simp [owning, idle, noYield, noRelease]
  · rw [if_neg h]
    rw [free] at h
    simp
    tauto

theorem lastByte_iff (x : Sending) : x.lastByte = true ↔ x.bytes.length ≤ 1 := decide_eq_true_iff

/-- A FLAG wait is met as READY before the byte, or as its acceptance. -/
theorem waitMet_iff (x : Sending) (high : Bool) (s : State) : waitMet x s.flagBefore high s.tick = true ↔
    (x.phase = .waitReady ∧ flagReady x.flagPolarity high = true ∧ interval x.since s.tick ≤ x.byteTimeout)
    ∨ Accepted x high s := by
  unfold waitMet Accepted
  cases hp : x.phase <;> cases hm : x.mode <;> cases ha : x.accept <;> simp [*] <;> tauto

theorem rowEnds_iff (x : Sending) (high : Bool) (s : State) : rowEnds x s.flagBefore high s.tick = true ↔
    x.bytes.length ≤ 1 ∧ (Accepted x high s ∨ (x.phase = .settleAfter ∧ x.settle ≤ interval x.since s.tick)) := by
  have phase (h : Accepted x high s) : x.phase = .waitAccept := h.1
  unfold rowEnds
  rw [Bool.and_eq_true, lastByte_iff]
  refine and_congr_right fun _ => ?_
  have met := waitMet_iff x high s
  cases hp : x.phase with
  | waitAccept => simpa [hp] using met
  | settleAfter => simp [show ¬ Accepted x high s from fun h => by simp [phase h] at hp]
  | _ => simp [show ¬ Accepted x high s from fun h => by simp [phase h] at hp]

/-- A FLAG wait other than the one that ends the row. -/
theorem waitNotLast_iff (x : Sending) (high : Bool) (s : State) :
    (waitMet x s.flagBefore high s.tick = true ∧ rowEnds x s.flagBefore high s.tick = false) ↔
      (x.phase = .waitReady ∧ flagReady x.flagPolarity high = true ∧ interval x.since s.tick ≤ x.byteTimeout)
      ∨ (Accepted x high s ∧ 2 ≤ x.bytes.length) := by
  rw [← Bool.not_eq_true, rowEnds_iff, waitMet_iff]
  constructor
  · rintro ⟨ready | accepted, notLast⟩
    · exact .inl ready
    · exact .inr ⟨accepted, Nat.lt_of_not_le fun last => notLast ⟨last, .inl accepted⟩⟩
  · rintro (ready | ⟨accepted, more⟩)
    · refine ⟨.inl ready, fun ⟨_, ends⟩ => ?_⟩
      rcases ends with accepted | ⟨after, -⟩
      · exact absurd (ready.1.symm.trans accepted.1) (by simp)
      · exact absurd (ready.1.symm.trans after) (by simp)
    · exact ⟨.inr accepted, fun ⟨last, _⟩ => absurd more (by omega)⟩

theorem settleExpired_iff (x : Sending) (now : Tick) : settleExpired x now = true ↔
    x.settle ≤ interval x.since now ∧ (x.phase = .settle ∨ (x.phase = .settleAfter ∧ 2 ≤ x.bytes.length)) := by
  unfold settleExpired Sending.lastByte
  cases hp : x.phase <;> (simp; try omega)

theorem strobeExpired_iff (x : Sending) (now : Tick) :
    strobeExpired x now = true ↔ x.phase = .strobe ∧ x.strobeWidth ≤ interval x.since now := decide_eq_true_iff

theorem waitFailed_iff (x : Sending) (now : Tick) : waitFailed x now = true
    ↔ (x.phase = .waitReady ∨ x.phase = .waitAccept) ∧ x.byteTimeout < interval x.since now := decide_eq_true_iff

/-! ## What the state makes due -/

/-- The frame that the CLC can take calls for the command `c` (R168). -/
def RequestIs (c : Instr) (s : State) : Prop := ∃ f rest, HeadRequest f rest s ∧ requestCommand f = c

theorem requestIs_iff {c : Instr} (h : c ≠ .unknownKind) (s : State) :
    RequestIs c s ↔ ∃ f rest, HeadRequest f rest s ∧ TakesFrame c f := by simp only [RequestIs, requestCommand_eq_iff h]

theorem requestIs_unknown_iff (s : State) :
    RequestIs .unknownKind s ↔ ∃ f rest, HeadRequest f rest s ∧ ∀ x ∈ requests, f.kind ≠ x.2.1 := by
  simp only [RequestIs, requestCommand_unknown_iff]

/-- A command that is no request takes no frame. -/
theorem not_requestIs {c : Instr} (h : requestForm c = none) (hc : c ≠ .unknownKind) (s : State) : ¬ RequestIs c s := by
  rintro ⟨f, -, -, rfl⟩
  rcases requestCommand_suits f with ⟨x, hx, same, -⟩ | ⟨unknown, -⟩
  · obtain ⟨r, form⟩ := exists_formOf x hx
    rw [same, form.form] at h
    cases h
  · exact hc unknown

theorem mem_linesDue (c : Instr) (s : State) : c ∈ linesDue s
    ↔ ∃ n < 61, (padHoldExpired n s = true ∧ c = .padHoldExpiry n) ∨ (stuckDue n s = true ∧ c = .lineStuck n) := by
  simp only [linesDue, List.mem_flatten, List.mem_map, List.mem_range, exists_exists_and_eq_and, List.mem_append, mem_whenDue]
  rfl

theorem mem_lanesDue (c : Instr) (s : State) : c ∈ lanesDue s ↔ ∃ n < 10,
    (windowExpired n s = true ∧ c = .backupWindowExpiry n) ∨ (holdExpired n s = true ∧ c = .splitHoldExpiry n)
    ∨ (LampRunOut s.lamps.startFlash[n]? s.tick ∧ c = .pulseExpiry (.startFlash n))
    ∨ (LampRunOut s.lamps.takeoffAlert[n]? s.tick ∧ c = .extendedExpiry (.takeoffAlert n))
    ∨ (LampRunOut s.lamps.finalLength[n]? s.tick ∧ c = .offDelayExpiry n) := by
  simp only [lanesDue, laneNumbers, List.mem_flatten, List.mem_map, List.mem_range, exists_exists_and_eq_and, List.mem_append,
    mem_whenDue, expired_getD_iff, or_assoc]
  rfl

theorem mem_boardDue (c : Instr) (s : State) : c ∈ boardDue s ↔
    (slotExpired s = true ∧ c = .slotExpiry) ∨ ((rowToStart s).isSome = true ∧ c = .rowStart)
    ∨ (∃ x, s.board.sending = some x ∧
        ((rowEnds x s.flagBefore s.pins.flag s.tick = true ∧ c = .rowComplete s.pins.flag)
        ∨ ((waitMet x s.flagBefore s.pins.flag s.tick = true ∧ rowEnds x s.flagBefore s.pins.flag s.tick = false)
            ∧ c = .flagWaitMet s.pins.flag)
        ∨ (settleExpired x s.tick = true ∧ c = .settleTimeExpiry) ∨ (strobeExpired x s.tick = true ∧ c = .strobeWidthExpiry)
        ∨ (waitFailed x s.tick = true ∧ c = .boardStall)))
    ∨ (StopIsDue s ∧ c = .stopAfterRow) := by
  unfold boardDue
  cases s.board.sending <;> simp [mem_whenDue, ← stopReady_iff, or_assoc]

theorem mem_blocksDue (c : Instr) (s : State) : c ∈ blocksDue s ↔
    (limitReached s = true ∧ c = .clockLimit) ∨ (claimWon s = true ∧ c = .claimWindowEnd)
    ∨ (takeWaitExpired s = true ∧ c = .takeWaitExpiry)
    ∨ (LampRunOut (some s.lamps.bell) s.tick ∧ c = .pulseExpiry .bell)
    ∨ (LampRunOut (some s.lamps.record) s.tick ∧ c = .extendedExpiry .record)
    ∨ (gapExceeded s = true ∧ c = .frameTimeout)
    ∨ RequestIs c s
    ∨ (s.messageToStart.isSome = true ∧ c = .messageStart) ∨ (s.messageDone.isSome = true ∧ c = .messageEnd)
    ∨ (resetReady s = true ∧ c = .resetTakesEffect) := by
  have request : c ∈ (s.requestReady.map requestCommand).toList ↔ RequestIs c s := by
    simp [requestReady_eq_some, RequestIs]
  simp only [blocksDue, List.mem_append, mem_whenDue, request, expired_iff, or_assoc]

theorem mem_stateDue (c : Instr) (s : State) : c ∈ stateDue s ↔ (s.shareDue = true ∧ ShareSampleCalls c s) ∨ c ∈ linesDue s
    ∨ c ∈ lanesDue s ∨ c ∈ boardDue s ∨ c ∈ blocksDue s := by
  have share : (c ∈ if s.shareDue = true then shareSample s else []) ↔ s.shareDue = true ∧ ShareSampleCalls c s := by
    cases s.shareDue <;> simp [mem_shareSample]
  simp only [stateDue, List.mem_append, share, or_assoc]

/-- The state makes a command due as the spec lists it: by a timer, a link, a lamp, the sample of the ownership inputs or a
request. -/
theorem mem_stateDue_iff {s : State} (hm : s.board.mask.length = 22) (c : Instr) : c ∈ stateDue s ↔ StateMakesDue c s := by
  rw [mem_stateDue]
  simp only [mem_linesDue, mem_lanesDue, mem_boardDue, mem_blocksDue]
  have idle (h : requestForm c = none) (hc : c ≠ .unknownKind) := not_requestIs h hc s
  cases c with
  | padHoldExpiry n => simp [StateMakesDue, ShareSampleCalls, padHoldExpired_iff, idle rfl nofun]
  | lineStuck n => simp [StateMakesDue, ShareSampleCalls, stuckDue_iff, idle rfl nofun]
  | backupWindowExpiry n => simp [StateMakesDue, ShareSampleCalls, windowExpired_iff, idle rfl nofun]
  | splitHoldExpiry n => simp [StateMakesDue, ShareSampleCalls, holdExpired_iff, idle rfl nofun]
  | clockLimit => simp [StateMakesDue, ShareSampleCalls, limitReached_iff, idle rfl nofun]
  | slotExpiry => simp [StateMakesDue, ShareSampleCalls, slotExpired_iff, idle rfl nofun]
  | rowStart => simp [StateMakesDue, ShareSampleCalls, rowToStart_isSome_iff hm, idle rfl nofun]
  | rowComplete high =>
    simp [StateMakesDue, ShareSampleCalls, rowEnds_iff, idle rfl nofun]
    constructor
    · rintro ⟨x, hx, ends, rfl⟩
      exact ⟨rfl, x, hx, ends⟩
    · rintro ⟨rfl, x, hx, ends⟩
      exact ⟨x, hx, ends, rfl⟩
  | flagWaitMet high =>
    simp only [StateMakesDue, ShareSampleCalls, ← waitNotLast_iff]
    simp [idle rfl nofun]
    constructor
    · rintro ⟨x, hx, met, rfl⟩
      exact ⟨rfl, x, hx, met⟩
    · rintro ⟨rfl, x, hx, met⟩
      exact ⟨x, hx, met, rfl⟩
  | settleTimeExpiry => simp [StateMakesDue, ShareSampleCalls, settleExpired_iff, idle rfl nofun]
  | strobeWidthExpiry => simp [StateMakesDue, ShareSampleCalls, strobeExpired_iff, idle rfl nofun]
  | boardStall => simp [StateMakesDue, ShareSampleCalls, waitFailed_iff, idle rfl nofun]
  | stopAfterRow => simp [StateMakesDue, ShareSampleCalls, idle rfl nofun]
  | claimWindowEnd => simp [StateMakesDue, ShareSampleCalls, claimWon_iff, idle rfl nofun]
  | takeWaitExpiry => simp [StateMakesDue, ShareSampleCalls, takeWaitExpired_iff, idle rfl nofun]
  | pulseExpiry f => cases f <;> simp [StateMakesDue, ShareSampleCalls, idle rfl nofun]
  | extendedExpiry f => cases f <;> simp [StateMakesDue, ShareSampleCalls, idle rfl nofun]
  | offDelayExpiry n => simp [StateMakesDue, ShareSampleCalls, idle rfl nofun]
  | frameTimeout => simp [StateMakesDue, ShareSampleCalls, gapExceeded_iff, idle rfl nofun]
  | messageStart => simp [StateMakesDue, ShareSampleCalls, messageToStart_isSome_iff, idle rfl nofun]
  | messageEnd => simp [StateMakesDue, ShareSampleCalls, messageDone_isSome_iff, idle rfl nofun]
  | resetTakesEffect => simp [StateMakesDue, ShareSampleCalls, resetReady_iff, idle rfl nofun]
  | unknownKind => simp [StateMakesDue, ShareSampleCalls, requestIs_unknown_iff]
  | _ => simp [StateMakesDue, requestIs_iff]

/-! ## The step on an empty queue -/

theorem step_chosen {s : State} {c : Instr} (h : s.pending = []) (chosen : chooseDue s = some c) :
    step s = exec c (takeDue c s) := by
  rw [step, h]
  dsimp only
  rw [chosen]

theorem step_only {s : State} {c : Instr} (h : s.pending = []) (only : allDue s = [c]) :
    step s = exec c { s with due := s.due.erase c } := by
  have chosen : chooseDue s = some c := by rw [chooseDue, only]
  have taken : takeDue c s = { s with due := s.due.erase c } := by
    rw [takeDue, only]
    rfl
  rw [step_chosen h chosen, taken]

theorem step_several {s : State} (h : s.pending = []) (several : 2 ≤ (allDue s).length) :
    ∃ c ∈ allDue s, step s = exec c { s with due := s.due.erase c, picks := s.picks + 1 } := by
  match due : allDue s with
  | [] | [_] => simp [due] at several
  | i :: j :: is =>
    have inRange : Config.pick s.picks % (is.length + 2) < (i :: j :: is).length := Nat.mod_lt _ (Nat.succ_pos _)
    refine ⟨(i :: j :: is).getD (Config.pick s.picks % (is.length + 2)) i, ?_, ?_⟩
    · rw [List.getD_eq_getElem _ _ inRange]
      exact List.getElem_mem inRange
    · generalize chosen : (i :: j :: is).getD (Config.pick s.picks % (is.length + 2)) i = c
      have choice : chooseDue s = some c := by rw [chooseDue, due, ← chosen]
      have taken : takeDue c s = { s with due := s.due.erase c, picks := s.picks + 1 } := by
        simp [takeDue, due]
      rw [step_chosen h choice, taken]

theorem step_tick {s : State} (h : s.pending = []) (idle : allDue s = []) : step s = .next (advanceTick s) := by
  have none : chooseDue s = none := by rw [chooseDue, idle]
  rw [step, h]
  dsimp only
  rw [none]

/-! ## The passing of a tick (R1, R5, R55) -/

/-- The latch of R55 is set once more than 250 ticks have passed since the limit tick of a RUNNING race with its mark set. -/
theorem pastTheLimit_iff (s : State) : pastTheLimit s = true ↔ s.race.state = .running ∧ s.race.limitMark = true
    ∧ ∃ st, s.race.startTick = some st ∧ 250 < interval (st + 59999999) s.tick := by
  unfold pastTheLimit
  cases s.race.startTick with
  | none => simp
  | some st =>
    rw [decide_eq_true_iff]
    simp [later, Config.clockLimit, Config.maxDeglitch]

theorem line_reloadLines {s : State} {n : Nat} (hn : n < s.lines.length) : (reloadLines s).line n =
    if s.reloads.contains (lineClass n) then
      Line.load (lineClass n) (s.level n (s.pins.lines.getD n false)) s.tick (s.line n)
    else s.line n := by
  simp [State.line, reloadLines, List.getD_eq_getElem?_getD, hn]

/-- A line is loaded with its level as at power-on, its mask kept (R5, R21). -/
theorem line_load (c : LineClass) (active : Bool) (now : Tick) (l : Line) :
    (l.load c active now).active = active ∧ (l.load c active now).pendingEdge = none ∧ (l.load c active now).stuck = false
    ∧ (l.load c active now).masked = l.masked ∧ (active = true → (l.load c active now).activeSince = now)
    ∧ ((c = .pad ∨ c = .button) → (l.load c active now).rearm = if active then .waitRelease else .ready)
    ∧ (c = .start → (l.load c active now).rearm = if active then .held else .ready) := by
  refine ⟨rfl, rfl, rfl, rfl, fun h => if_pos h, ?_, ?_⟩
  · rintro (rfl | rfl) <;> rfl
  · rintro rfl
    rfl

/-- Settles O2: the choice among what is due, the tick field by field, and what the state makes due. -/
theorem emptyQueueTakesWhatIsDueOrATickPasses : Obligations.EmptyQueueTakesWhatIsDueOrATickPasses := by
  unfold Obligations.EmptyQueueTakesWhatIsDueOrATickPasses
  refine ⟨fun s h => ⟨fun c only => step_only h only, fun several => step_several h several⟩, fun s h idle => ?_,
    fun s shape c => ?_⟩
  · have past := pastTheLimit_iff { s with tick := s.tick + 1 }
    have latch : (advanceTick s).race.pastLimit = (s.race.pastLimit || pastTheLimit { s with tick := s.tick + 1 }) := rfl
    refine ⟨advanceTick s, step_tick h idle, rfl, rfl, rfl, rfl, rfl, rfl, rfl, rfl, rfl, rfl, rfl, ⟨fun due => ?_, fun early => ?_⟩,
      rfl, rfl, rfl, rfl, rfl, fun c => mem_samplesDue c (reloadLines (beginTick s)), ?_, rfl, fun n hn => ⟨fun kept => ?_, fun loaded => ?_⟩⟩
    · rw [latch, past.mpr due, Bool.or_true]
    · rw [latch, Bool.eq_false_iff.mpr fun k => early (past.mp k), Bool.or_false]
    · have calls : (advanceTick s).shareDue = !(shareSample (reloadLines (beginTick s))).isEmpty := rfl
      rw [calls, Bool.not_eq_true', List.isEmpty_eq_false_iff_exists_mem]
      exact exists_congr fun c => mem_shareSample c (reloadLines (beginTick s))
    · have same := line_reloadLines (s := beginTick s) hn
      rw [if_neg (by simpa [beginTick] using kept)] at same
      exact same
    · have same := line_reloadLines (s := beginTick s) hn
      rw [if_pos (by simpa [beginTick] using loaded)] at same
      have line : (advanceTick s).line n = _ := same
      rw [line]
      exact line_load _ _ _ _
  · rw [allDue, List.mem_append, mem_stateDue_iff shape.mask]

end Sys2Proof.Machine
end

section
/-!
The rows of the scoreboard: their widths, and the numbers, times, texts and markers they show (R124 to R129, R131).
-/
namespace Sys2Proof.Machine

/-! ## Numbers and times as text (R125) -/

theorem length_rightAligned (k n : Nat) : (rightAligned k n).length = k := by
  induction k with
  | zero => rfl
  | succ k ih => simp [rightAligned, ih]

theorem digit_eq (n : Nat) : digit n = numeral n := rfl

theorem digit_congr {m n : Nat} (h : m % 10 = n % 10) : digit m = numeral n := by
  rw [digit, numeral, h]

theorem rightAligned_two (n : Nat) : rightAligned 2 n = rightIn 2 n := by
  by_cases small : n < 10
  · have none : n / 10 = 0 := by omega
    simp [rightAligned, rightIn, numeralsBefore, small, none, space, digit_eq]
  · have some : n / 10 ≠ 0 := by omega
    simp [rightAligned, rightIn, numeralsBefore, small, some, digit_eq]

theorem rightAligned_four {n : Nat} (h : n ≤ 9999) : rightAligned 4 n = rightIn 4 n := by
  have tens : n / 10 / 10 = n / 100 := by omega
  have hundreds : n / 100 / 10 = n / 1000 := by omega
  by_cases h₁ : n < 10
  · have : n / 10 = 0 := by omega
    simp [rightAligned, rightIn, numeralsBefore, digit_eq, space, *, show n < 1000 by omega, show n < 100 by omega]
  · by_cases h₂ : n < 100
    · have : n / 10 ≠ 0 := by omega
      have : n / 100 = 0 := by omega
      simp [rightAligned, rightIn, numeralsBefore, digit_eq, space, *, show n < 1000 by omega]
    · have : n / 10 ≠ 0 := by omega
      have : n / 100 ≠ 0 := by omega
      by_cases h₃ : n < 1000
      · have : n / 1000 = 0 := by omega
        simp [rightAligned, rightIn, numeralsBefore, digit_eq, space, *]
      · have : n / 1000 ≠ 0 := by omega
        simp [rightAligned, rightIn, numeralsBefore, digit_eq, *]

/-- Minutes and seconds of `v` whole seconds. -/
theorem minutesSeconds_eq (v : Nat) : minutesSeconds (v / 60) (v % 60) = clockText v := by
  unfold minutesSeconds clockText
  by_cases short : v < 60
  · have zero : v / 60 = 0 := by omega
    have same : v % 60 = v := by omega
    rw [if_pos zero, if_pos short, same, rightAligned_two]
    rfl
  · have pos : v / 60 ≠ 0 := by omega
    rw [if_neg pos, if_neg short, rightAligned_two, digit_eq, digit_congr (show v % 60 % 10 = v % 10 by omega)]

theorem length_minutesSeconds (m sec : Nat) : (minutesSeconds m sec).length = 5 := by
  unfold minutesSeconds
  split <;> simp [spaces, length_rightAligned]

theorem showHundredths_eq (t : Nat) : showHundredths t = hundredthsText t := by
  have minutes : t / 100 / 6000 = t / 10000 / 60 := by omega
  have seconds : t / 100 / 100 % 60 = t / 10000 % 60 := by omega
  rw [showHundredths, hundredthsText, ← minutesSeconds_eq]
  rw [minutes, seconds, digit_eq (t / 100), digit_congr (show t / 100 % 100 / 10 % 10 = t / 1000 % 10 by omega)]

theorem showTenths_eq (t : Nat) : showTenths t = tenthsText t := by
  have minutes : t / 1000 / 600 = t / 10000 / 60 := by omega
  have seconds : t / 1000 / 10 % 60 = t / 10000 % 60 := by omega
  rw [showTenths, tenthsText, ← minutesSeconds_eq]
  rw [minutes, seconds, digit_eq]

theorem showSeconds_eq (t : Nat) : showSeconds t = secondsText t := by
  rw [showSeconds, secondsText, ← minutesSeconds_eq]
  rfl

theorem length_showHundredths (t : Nat) : (showHundredths t).length = 8 := by simp [showHundredths, length_minutesSeconds]

theorem length_showTenths (t : Nat) : (showTenths t).length = 7 := by simp [showTenths, length_minutesSeconds]

theorem length_showSeconds (t : Nat) : (showSeconds t).length = 8 := by simp [showSeconds, length_minutesSeconds, spaces]

theorem length_filled (n : Nat) (t : List Byte) : (filled n t).length = n := by
  simp [filled, spaces]

/-- A text that fits is shown with spaces behind it (R124). -/
theorem filled_eq {n : Nat} {t : List Byte} (h : t.length ≤ n) : filled n t = t ++ List.replicate (n - t.length) 0x20 := by
  rw [filled, List.take_append, List.take_of_length_le h, spaces, List.take_replicate, Nat.min_eq_left (Nat.sub_le _ _)]
  rfl

/-! ## The fields of a lane row (R127, R128) -/

theorem length_lanePlace (l : Lane) : (lanePlace l).length = 2 := by
  unfold lanePlace
  split <;> simp [length_rightAligned, spaces]

theorem length_laneTime (s : State) (n : Nat) (l : Lane) : (laneTime s n l).length = 8 := by
  unfold laneTime
  split
  · split
    · exact length_showHundredths _
    · exact length_showSeconds _
  · exact length_showHundredths _
  · exact length_showHundredths _
  · exact length_showHundredths _
  all_goals simp [spaces]

/-- The fields of a lane row in use. -/
def laneFields (s : State) (n : Nat) : List (List Byte) :=
  [lanePlace (s.lane n), [digit n], filled 16 (s.lane n).text, laneTime s n (s.lane n), [laneMarker s (s.lane n)]]

theorem laneFields_widths (s : State) (n : Nat) : (laneFields s n).map List.length = [2, 1, 16, 8, 1] := by
  simp [laneFields, length_lanePlace, length_filled, length_laneTime]

theorem laneRow_vacant {s : State} {n : Nat} (h : (s.lane n).state = .vacant) : laneRow s n = List.replicate 28 0x20 := by
  rw [laneRow, h]
  rfl

theorem laneRow_used {s : State} {n : Nat} (h : (s.lane n).state ≠ .vacant) : laneRow s n = (laneFields s n).flatten := by
  unfold laneRow laneFields
  dsimp only
  split
  · exact absurd ‹_› h
  · simp

theorem length_laneRow (s : State) (n : Nat) : (laneRow s n).length = 28 := by
  by_cases h : (s.lane n).state = .vacant
  · rw [laneRow_vacant h, List.length_replicate]
  · rw [laneRow_used h, List.length_flatten, laneFields_widths]
    rfl

/-- A piece of one byte stands at its place. -/
theorem getElem?_of_piece {p : List Byte} {i : Nat} {x : Byte} (h : (p.drop i).take 1 = [x]) : p[i]? = some x := by
  have at0 : ((p.drop i).take 1)[0]? = some x := by rw [h]; rfl
  simpa [List.getElem?_take] using at0

theorem lastTimed_none {l : Lane} (h : ∀ x ∈ l.splits, x.kind ≠ .timed) : lastTimed l = none := by
  have none : l.splits.reverse.find? (fun e => decide (e.kind = .timed)) = none := by
    simpa using h
  rw [lastTimed, none]
  rfl

theorem lastTimed_of_run {l : Lane} {xs run : List Split} {x : Split} (hs : l.splits = xs ++ [x] ++ run) (hx : x.kind = .timed)
    (h : ∀ y ∈ run, y.kind ≠ .timed) : lastTimed l = x.time := by
  have skip : run.reverse.find? (fun e => decide (e.kind = .timed)) = none := by simpa using h
  have found : l.splits.reverse.find? (fun e => decide (e.kind = .timed)) = some x := by
    rw [hs, List.reverse_append, List.reverse_append, List.find?_append, skip]
    simp [hx]
  rw [lastTimed, found]
  rfl

theorem anyEarly_iff (l : Lane) : l.anyEarly = true ↔ ∃ j, 1 ≤ j ∧ j ≤ 3 ∧ (l.exchange j).status = .early := by
  constructor
  · intro h
    obtain ⟨j, hj, early⟩ := List.any_eq_true.mp h
    simp only [List.mem_cons, List.not_mem_nil, or_false] at hj
    exact ⟨j, by omega, by omega, of_decide_eq_true early⟩
  · rintro ⟨j, one, three, early⟩
    refine List.any_eq_true.mpr ⟨j, ?_, decide_eq_true early⟩
    simp only [List.mem_cons, List.not_mem_nil, or_false]
    omega

/-- Outside VACANT, READY and SET the marker field shows the marker (R127). -/
theorem laneMarker_eq (s : State) {l : Lane} (h₁ : l.state ≠ .vacant) (h₂ : l.state ≠ .ready) (h₃ : l.state ≠ .set) :
    laneMarker s l = marker s l := by
  unfold laneMarker
  split
  · exact absurd ‹_› h₁
  · exact absurd ‹_› h₂
  · exact absurd ‹_› h₃
  · rfl

theorem lanePlace_blank {l : Lane} (h : (l.state ≠ .finished ∧ l.state ≠ .review) ∨ l.place = none) :
    lanePlace l = [0x20, 0x20] := by
  unfold lanePlace
  split
  · rcases h with h | h
    · exact absurd ‹_› h.1
    · simp_all
  · rcases h with h | h
    · exact absurd ‹_› h.2
    · simp_all
  · rfl

/-! ## The rows as composed -/

theorem composeRow_masked {s : State} {r : Nat} (h : s.rowMasked r = true) : composeRow s r = blankRow r := by
  rw [composeRow, if_pos h]

theorem composeRow_header {s : State} (h : s.rowMasked 0 = false) : composeRow s 0 = headerRow s := by
  simp [composeRow, h]

theorem composeRow_lane {s : State} {n : Nat} (hn : n < 10) (h : s.rowMasked (n + 1) = false) :
    composeRow s (n + 1) = laneRow s n := by
  have lane : n + 1 ≤ 10 := by omega
  simp [composeRow, h, lane]

theorem composeRow_footer {s : State} (h : s.rowMasked 11 = false) : composeRow s 11 = filled 32 s.board.footer := by
  simp [composeRow, h]

theorem composeRow_lap {s : State} {n : Nat} (h : s.rowMasked (n + 12) = false) : composeRow s (n + 12) = lapRow s n := by
  simp [composeRow, h]

theorem length_headerClock (s : State) : (headerClock s).length = 7 := by
  unfold headerClock
  split
  · exact length_showTenths _
  · exact length_showTenths _
  · simp [spaces]

theorem headerRow_idle {s : State} (h : s.race.state = .idle) : headerRow s = List.replicate 35 0x20 := by
  rw [headerRow, h]
  rfl

/-- The fields of the header row (R126). -/
def headerFields (s : State) : List (List Byte) :=
  [rightAligned 4 s.event.number, filled 24 s.event.title, headerClock s]

theorem headerFields_widths (s : State) : (headerFields s).map List.length = [4, 24, 7] := by
  simp [headerFields, length_rightAligned, length_filled, length_headerClock]

theorem headerRow_used {s : State} (h : s.race.state ≠ .idle) : headerRow s = (headerFields s).flatten := by
  unfold headerRow headerFields
  split
  · exact absurd ‹_› h
  · simp

theorem length_lapRow (s : State) (n : Nat) : (lapRow s n).length = 3 := by
  unfold lapRow
  dsimp only
  split <;> rfl

theorem length_composeRow (s : State) (r : Nat) : (composeRow s r).length = rowWidth r := by
  unfold composeRow blankRow rowWidth
  split_ifs
  · simp [spaces]
  · simp [spaces]
  · simp [spaces]
  · rfl
  · by_cases h : s.race.state = .idle
    · rw [headerRow_idle h, List.length_replicate]
    · rw [headerRow_used h, List.length_flatten, headerFields_widths]
      rfl
  · exact length_laneRow _ _
  · exact length_filled _ _
  · exact length_lapRow _ _

theorem blankRow_eq (r : Nat) : blankRow r = List.replicate (rowWidth r) (if r ≤ 11 then 0x20 else 0x0F) := by
  unfold blankRow rowWidth
  by_cases header : r = 0
  · simp [header, spaces, space]
  · by_cases lane : r ≤ 10
    · simp [header, lane, show r ≤ 11 by omega, spaces, space]
    · by_cases footer : r = 11
      · simp [footer, spaces, space]
      · have lap : ¬ r ≤ 11 := by omega
        simp only [header, lane, footer, lap, if_false]
        rfl

/-- The three digits of a lap counter (R71, R131). -/
theorem lapRow_counting {s : State} {n : Nat} (h : (s.lane n).state = .swimming ∨ (s.lane n).state = .finishing) :
    lapRow s n = [byte (lapValue s n / 100 % 10), byte (lapValue s n / 10 % 10), byte (lapValue s n % 10)] := by
  unfold lapRow
  rcases h with h | h <;> rw [h]

theorem lapRow_blank {s : State} {n : Nat} (h₁ : (s.lane n).state ≠ .swimming) (h₂ : (s.lane n).state ≠ .finishing) :
    lapRow s n = [0x0F, 0x0F, 0x0F] := by
  unfold lapRow
  dsimp only
  split
  · exact absurd ‹_› h₁
  · exact absurd ‹_› h₂
  · rfl

section
variable {s : State} {n : Nat}

/-- The time field of a SWIMMING lane without a running hold, or without a TIMED entry (R127, R129). -/
theorem laneTime_clock (hs : (s.lane n).state = .swimming) (h : s.hold n = none ∨ ∀ x ∈ (s.lane n).splits, x.kind ≠ .timed) :
    laneTime s n (s.lane n) = secondsText s.raceClock := by
  rw [← showSeconds_eq, laneTime, hs]
  rcases h with none | none
  · rw [none]
  · rw [lastTimed_none none]
    cases s.hold n <;> rfl

theorem laneTime_split {t : Nat} (hs : (s.lane n).state = .swimming) (hold : s.hold n ≠ none)
    (last : lastTimed (s.lane n) = some t) : laneTime s n (s.lane n) = hundredthsText t := by
  obtain ⟨h, hh⟩ := Option.ne_none_iff_exists'.mp hold
  rw [← showHundredths_eq, laneTime, hs, hh, last]

theorem laneTime_first {ev : Evidence} (hs : (s.lane n).state = .finishing) (first : (s.lane n).first = some ev) :
    laneTime s n (s.lane n) = hundredthsText ev.time := by
  rw [← showHundredths_eq, laneTime, hs, first]
  rfl

theorem laneTime_result {t : Nat} (hs : (s.lane n).state = .finished ∨ (s.lane n).state = .review)
    (result : (s.lane n).result = some t) : laneTime s n (s.lane n) = hundredthsText t := by
  rw [← showHundredths_eq, laneTime]
  rcases hs with hs | hs <;> rw [hs, result] <;> rfl

theorem laneTime_waiting (hs : (s.lane n).state = .ready ∨ (s.lane n).state = .set) :
    laneTime s n (s.lane n) = List.replicate 8 0x20 := by
  rw [laneTime]
  rcases hs with hs | hs <;> rw [hs] <;> rfl

theorem laneMarker_waiting (hs : (s.lane n).state = .ready ∨ (s.lane n).state = .set) : laneMarker s (s.lane n) = 0x20 := by
  rw [laneMarker]
  rcases hs with hs | hs <;> rw [hs] <;> rfl

theorem lanePlace_ranked {p : Nat} (hs : (s.lane n).state = .finished ∨ (s.lane n).state = .review)
    (place : (s.lane n).place = some p) : lanePlace (s.lane n) = rightIn 2 p := by
  rw [← rightAligned_two, lanePlace]
  rcases hs with hs | hs <;> rw [hs, place]

theorem not_anyEarly {l : Lane} (noEarly : ∀ j, 1 ≤ j → j ≤ 3 → (l.exchange j).status ≠ .early) : ¬ l.anyEarly = true := by
  rw [anyEarly_iff]
  rintro ⟨j, one, three, early⟩
  exact noEarly j one three early

theorem marker_record {l : Lane} {i : Nat} {is : List Nat} (noDq : l.dq = false)
    (noEarly : ∀ j, 1 ≤ j → j ≤ 3 → (l.exchange j).status ≠ .early) (records : l.records = i :: is) :
    marker s l = (s.race.slots.getD i RecordSlot.cleared).label := by
  rw [marker, if_neg (by simp [noDq]), if_neg (not_anyEarly noEarly), records]

theorem marker_none {l : Lane} (noDq : l.dq = false) (noEarly : ∀ j, 1 ≤ j → j ≤ 3 → (l.exchange j).status ≠ .early)
    (records : l.records = []) : marker s l = 0x20 := by
  rw [marker, if_neg (by simp [noDq]), if_neg (not_anyEarly noEarly), records]
  rfl

end

/-- Settles O55: each row by its fields, each field by its own lemma. -/
theorem rowsShowTheRecords : Obligations.RowsShowTheRecords := by
  unfold Obligations.RowsShowTheRecords
  refine ⟨fun s r _ => ⟨length_composeRow s r, fun h => (composeRow_masked h).trans (blankRow_eq r)⟩, fun s n hn hm => ?_,
    fun s n hn hm => ⟨fun counting done total => ?_, fun h₁ h₂ => (composeRow_lap hm).trans (lapRow_blank h₁ h₂)⟩,
    fun s hm => ⟨fun idle => (composeRow_header hm).trans (headerRow_idle idle), fun used number title => ?_⟩,
    fun s hm fits => (composeRow_footer hm).trans (filled_eq fits)⟩
  · dsimp only
    rw [composeRow_lane hn hm]
    refine ⟨fun vacant => laneRow_vacant vacant, fun used => ?_⟩
    have place : (laneRow s n).take 2 = lanePlace (s.lane n) := by
      rw [laneRow_used used]
      exact piece_at (pieces := laneFields s n) 0 rfl rfl (length_lanePlace _)
    have number : (laneRow s n)[2]? = some (digit n) := by
      rw [laneRow_used used]
      exact getElem?_of_piece (piece_at 1 rfl (by rw [laneFields_widths]; rfl) rfl)
    have text : ((laneRow s n).drop 3).take 16 = filled 16 (s.lane n).text := by
      rw [laneRow_used used]
      exact piece_at 2 rfl (by rw [laneFields_widths]; rfl) (length_filled _ _)
    have time : ((laneRow s n).drop 19).take 8 = laneTime s n (s.lane n) := by
      rw [laneRow_used used]
      exact piece_at 3 rfl (by rw [laneFields_widths]; rfl) (length_laneTime _ _ _)
    have mark : (laneRow s n)[27]? = some (laneMarker s (s.lane n)) := by
      rw [laneRow_used used]
      exact getElem?_of_piece (piece_at 4 rfl (by rw [laneFields_widths]; rfl) rfl)
    have ten : n % 10 = n := Nat.mod_eq_of_lt hn
    rw [place, number, text, time, mark]
    refine ⟨by rw [digit, ten], fun fits => filled_eq fits, fun waiting => ⟨laneTime_waiting waiting, ?_⟩, laneTime_clock,
      fun xs run x t swims hold splits timed at_t rest _ => laneTime_split swims hold ((lastTimed_of_run splits timed rest).trans at_t),
      fun ev finishing first _ => laneTime_first finishing first, fun t resolved result _ => laneTime_result resolved result,
      fun p resolved ranked _ => lanePlace_ranked resolved ranked, fun unranked => lanePlace_blank unranked, fun dns => ?_,
      fun dnf => ?_, fun notReady notSet => ?_⟩
    · rw [laneMarker_waiting waiting]
    · rw [laneTime, dns]; rfl
    · rw [laneTime, dnf]; rfl
    · rw [laneMarker_eq s used notReady notSet]
      refine ⟨fun dq => ?_, fun noDq early => ?_, fun i is x noDq noEarly records slot => ?_, fun noDq noEarly records => ?_⟩
      · rw [marker, if_pos dq]
      · rw [marker, if_neg (by simp [noDq]), if_pos ((anyEarly_iff _).mpr early)]
      · rw [marker_record noDq noEarly records]
        simp [slot]
      · rw [marker_none noDq noEarly records]
  · rw [composeRow_lap hm, lapRow_counting counting]
    refine ⟨_, _, _, rfl, ?_⟩
    unfold lapValue
    omega
  · rw [composeRow_header hm, headerRow_used used]
    have clock : (headerFields s).flatten.drop 28 = headerClock s := by
      rw [drop_pieces 2 (by rw [headerFields_widths]; rfl)]
      exact List.append_nil _
    refine ⟨(piece_at 0 rfl rfl (length_rightAligned _ _)).trans (rightAligned_four number),
      (piece_at 1 rfl (by rw [headerFields_widths]; rfl) (length_filled _ _)).trans (filled_eq title), fun running => ?_, fun armed => ?_,
      fun still => ?_⟩
    · rw [clock, headerClock, running]
      exact showTenths_eq _
    · rw [clock, headerClock, armed]
      exact showTenths_eq _
    · rw [clock, headerClock]
      rcases still with still | still | still <;> rw [still] <;> rfl

end Sys2Proof.Machine
end

section
/-!
What the operations of the Race Engine do to the lanes, the link and the lamps, each said once by a function of the lane record: the
split list and its exchanges (R57 to R70, R95 to R104).
-/
namespace Sys2Proof.Machine

/-! ## Lane records -/

theorem lane_updLane_same {s : State} {n : Nat} (hn : n < s.lanes.length) (f : Lane → Lane) :
    (s.updLane n f).lane n = f (s.lane n) := by
  simp [State.lane, State.updLane, hn]

theorem lane_updLane_other {m n : Nat} (hm : m ≠ n) (f : Lane → Lane) (s : State) : (s.updLane n f).lane m = s.lane m := by
  simp [State.lane, State.updLane, hm.symm]

theorem lane_of_lanes {s t : State} (h : t.lanes = s.lanes) (n : Nat) : t.lane n = s.lane n := by rw [State.lane, h, State.lane]

/-- The lane records behind a change of lane `n`'s. -/
theorem lane_of_modify {s t : State} {n : Nat} {f : Lane → Lane} (h : t.lanes = s.lanes.modify n f) (hn : n < s.lanes.length) :
    t.lane n = f (s.lane n) := (lane_of_lanes (s := s.updLane n f) h n).trans (lane_updLane_same hn f)

theorem othersKept_of_modify {s t : State} {n : Nat} {f : Lane → Lane} (h : t.lanes = s.lanes.modify n f) :
    OtherLanesKept n s t :=
  fun m hm => (lane_of_lanes (s := s.updLane n f) h m).trans (lane_updLane_other hm f s)

theorem modify_congr_lane {s : State} {n : Nat} {f g : Lane → Lane} (h : f (s.lane n) = g (s.lane n)) :
    s.lanes.modify n f = s.lanes.modify n g := by
  refine List.ext_getElem? fun i => ?_
  rw [List.getElem?_modify, List.getElem?_modify]
  by_cases hi : n = i
  · subst hi
    cases hl : s.lanes[n]? with
    | none => rfl
    | some l =>
      have at_n : s.lane n = l := by simp [State.lane, hl]
      rw [at_n] at h
      simp [h]
  · simp [hi]

theorem modify_self_lane {s : State} {n : Nat} {f : Lane → Lane} (h : f (s.lane n) = s.lane n) : s.lanes.modify n f = s.lanes :=
  (modify_congr_lane (g := id) h).trans (List.modify_id _ _)

theorem mem_lanes_lane {s : State} {n : Nat} (hn : n < s.lanes.length) : s.lane n ∈ s.lanes := by
  have : s.lane n = s.lanes[n] := by simp [State.lane, hn]
  rw [this]
  exact List.getElem_mem hn

theorem exists_lane_of_mem {s : State} {l : Lane} (h : l ∈ s.lanes) : ∃ n < s.lanes.length, s.lane n = l := by
  obtain ⟨n, hn, rfl⟩ := List.getElem_of_mem h
  exact ⟨n, hn, by simp [State.lane, hn]⟩

/-! ## Exchanges -/

theorem exchange_setExchange (j : Nat) (x : Exchange) (l : Lane) : (l.setExchange j x).exchange j = x := by
  match j with
  | 0 | 1 | 2 | _ + 3 => rfl

/-- Exchange `j` of lane `n` becomes `x`, with its notices, its alert and the marking of the lane's first EARLY exchange (R101 to
R103). -/
def State.withExchange (n j : Nat) (x : Exchange) (s : State) : State :=
  { s with
    lanes := s.lanes.modify n (Lane.setExchange j x)
    link := s.link.withExchange n j x
    lamps := { s.lamps with takeoffAlert := alertAfter n x s }
    board := if x.status = .early ∧ (s.lane n).otherEarly j = false then s.board.marked (n + 1) else s.board }

/-- The exchange that an append changes, and what it becomes: a TIMED entry judges one whose takeoff is stored, a MISSED or an
INSERTED entry leaves it UNJUDGED (R101, R102). -/
def exchangeOutcome (ev : EventDesc) (l : Lane) (x : Split) : Option (Nat × Exchange) :=
  (exchangeAt ev x.length).bind fun j =>
    match x.kind with
    | .timed => x.time.bind fun t => (l.exchange j).takeoff.map fun tau => (j, judgement ev tau t)
    | .missed => some (j, l.unjudged j)
    | .inserted => some (j, l.unjudged j)
    | .untimed => none
    | .final => none

/-- The state behind the outcome of an append for its exchange. -/
def State.withOutcome (n : Nat) (o : Option (Nat × Exchange)) (s : State) : State :=
  match o with
  | some (j, x) => s.withExchange n j x
  | none => s

/-- The EXCHANGE notice of an exchange just changed carries it as it now stands. -/
theorem handExchange_updLane {s : State} {n : Nat} (hn : n < s.lanes.length) {f : Lane → Lane} {j : Nat} {x : Exchange}
    (h : (f (s.lane n)).exchange j = x) :
    handExchange n j (s.updLane n f) = { s with
      lanes := s.lanes.modify n f
      link := s.link.withNotice 0x47 ([byte n, byte j, exchangeCode x.status] ++ timeBytes x.takeoff ++ signedBytes x.margin) } := by
  rw [handExchange, handNotice_eq, lane_updLane_same hn, h]
  rfl

section
variable {s : State} {n : Nat} (hn : n < s.lanes.length)
include hn

theorem judgeExchange_eq (j tau time : Nat) :
    judgeExchange n j tau time s = s.withExchange n j (judgement s.event tau time) := by
  have handed := handExchange_updLane hn (exchange_setExchange j (judgement s.event tau time) (s.lane n))
  unfold judgeExchange State.withExchange Link.withExchange alertAfter
  dsimp only
  by_cases early : marginOf tau time < -(s.event.tolerance : Int)
  · have same : judgement s.event tau time = { takeoff := some tau, margin := some (marginOf tau time), status := .early } := by
      rw [judgement]
      exact congrArg (Exchange.mk _ _) (if_pos early)
    rw [same] at handed ⊢
    simp only [early, decide_true, if_true, handed, handNotice_eq]
    cases (s.lane n).otherEarly j <;> simp [markLaneRow_eq, triggerAlert] <;> rfl
  · have same : judgement s.event tau time = { takeoff := some tau, margin := some (marginOf tau time), status := .ok } := by
      rw [judgement]
      exact congrArg (Exchange.mk _ _) (if_neg early)
    rw [same] at handed ⊢
    simp [early, handed]

theorem unjudgeExchange_eq (j : Nat) : unjudgeExchange n j s = s.withExchange n j ((s.lane n).unjudged j) := by
  have handed := handExchange_updLane hn (f := fun l => l.setExchange j (l.unjudged j)) (exchange_setExchange j _ (s.lane n))
  have same : s.lanes.modify n (fun l => l.setExchange j (l.unjudged j))
      = s.lanes.modify n (Lane.setExchange j ((s.lane n).unjudged j)) := modify_congr_lane rfl
  rw [same] at handed
  have status : ((s.lane n).unjudged j).status ≠ .early := by simp [Lane.unjudged]
  rw [State.withExchange, Link.withExchange, alertAfter, if_neg status, if_neg status, if_neg fun h => status h.1]
  exact handed

theorem exchangeAppend_eq (x : Split) : exchangeAppend n x s = s.withOutcome n (exchangeOutcome s.event (s.lane n) x) := by
  unfold exchangeAppend exchangeOutcome
  cases exchangeAt s.event x.length with
  | none => rfl
  | some j =>
    dsimp only [Option.bind_some]
    cases x.kind with
    | timed =>
      cases x.time with
      | none => rfl
      | some t =>
        cases takeoff : ((s.lane n).exchange j).takeoff with
        | none => rfl
        | some tau => exact judgeExchange_eq hn j tau t
    | missed => exact unjudgeExchange_eq hn j
    | inserted => exact unjudgeExchange_eq hn j
    | untimed => rfl
    | final => rfl

end

/-! ## Race state and lane states (R25, R26, R129) -/

theorem raceState_notice (k : Link) (new old : RaceState) (e : Option EventDesc) :
    k.withNotice 0x40 (raceStateBytes new old e) = k.withRaceState new old e := by
  cases e <;> rfl

/-- A change of the race state: row 0 is marked and its notice handed (R25). -/
theorem setRaceState_eq {new : RaceState} {s : State} (h : s.race.state ≠ new) : setRaceState new s = { s with
    race := { s.race with state := new, pastLimit := false }, board := s.board.marked 0
    link := s.link.withRaceState new s.race.state s.race.event } := by
  rw [setRaceState, if_neg h, handNotice_eq, markRow_eq, ← raceState_notice]

theorem setRaceState_same {new : RaceState} {s : State} (h : s.race.state = new) : setRaceState new s = s := if_pos h

/-- The lane record in another state. -/
def Lane.toState (new : LaneState) (l : Lane) : Lane := { l with state := new }

theorem setLaneState_lanes (n : Nat) (new : LaneState) (s : State) :
    (setLaneState n new s).lanes = s.lanes.modify n (Lane.toState new) := by
  unfold setLaneState
  split
  · next same =>
    refine (modify_self_lane ?_).symm
    rw [Lane.toState, ← same]
  · dsimp only
    split
    · rw [endHold_lanes, markLaneRows_lanes]
      rfl
    · rw [markLaneRows_lanes]
      rfl

theorem setLaneState_changes {n : Nat} {new : LaneState} {s : State} (h : (s.lane n).state ≠ new) :
    setLaneState n new s
      = if (s.lane n).state = .swimming then endHold n (markLaneRows n (s.updLane n (Lane.toState new)))
        else markLaneRows n (s.updLane n (Lane.toState new)) := by
  rw [setLaneState, if_neg h]
  rfl

theorem rowsMarked_markLaneRows (n : Nat) (s : State) : RowsMarked [n + 1, n + 12] [n + 1, n + 12] s (markLaneRows n s) :=
  rowsMarked_markedAll (by rw [markLaneRows_eq])

theorem holds_markLaneRows (n : Nat) (s : State) : (markLaneRows n s).board.holds = s.board.holds := by
  rw [markLaneRows_eq, Board.markedAll_holds]

theorem RowsMarked.of_board {must may : List Nat} {s t u : State} (h : RowsMarked must may s t) (hu : u.board = t.board) :
    RowsMarked must may s u := h.of_boards rfl (by rw [hu])

theorem rowsMarked_setLaneState {n : Nat} {new : LaneState} {s : State} (h : (s.lane n).state ≠ new) :
    RowsMarked [n + 1, n + 12] [n + 1, n + 12] s (setLaneState n new s) := by
  have marked : RowsMarked [n + 1, n + 12] [n + 1, n + 12] s (markLaneRows n (s.updLane n (Lane.toState new))) :=
    (rowsMarked_markLaneRows n (s.updLane n (Lane.toState new))).of_boards rfl rfl
  rw [setLaneState_changes h]
  split
  · exact (marked.trans (rowsMarked_endHold n _)).mono (by simp) (by simp)
  · exact marked

/-- A split hold ends with its lane's leaving SWIMMING (R129). -/
theorem holdSet_setLaneState {n : Nat} {new : LaneState} {s : State} (hs : (s.lane n).state = .swimming) (h : new ≠ .swimming) :
    HoldSet n none s (setLaneState n new s) := by
  rw [setLaneState_changes (hs ▸ h.symm), if_pos hs]
  obtain ⟨at_n, others⟩ := holdSet_endHold n (markLaneRows n (s.updLane n (Lane.toState new)))
  exact ⟨at_n, fun m hm => (others m hm).trans (hold_of_holds (holds_markLaneRows n _) m)⟩

theorem holds_setLaneState {n : Nat} {new : LaneState} {s : State} (hs : (s.lane n).state ≠ .swimming) :
    (setLaneState n new s).board.holds = s.board.holds := by
  by_cases h : (s.lane n).state = new
  · rw [setLaneState, if_pos h]
  · rw [setLaneState_changes h, if_neg hs, holds_markLaneRows]
    rfl

/-! ## Appends (R57, R68 to R70) -/

/-- A MISSED entry is counted, and the third takes COUNT_DOUBT (R69). -/
def Lane.counted (l : Lane) : Lane := { l with misses := l.misses + 1, countDoubt := l.countDoubt || l.misses == 2 }

/-- The COUNT_DOUBT notice of the third MISSED entry (R69). -/
def Link.counted (n : Nat) (l : Lane) (k : Link) : Link :=
  if l.misses == 2 && !l.countDoubt then k.withNotice 0x4B [byte n, 3] else k

theorem countMiss_eq (n : Nat) (s : State) : countMiss n s = { s with
    lanes := s.lanes.modify n Lane.counted, link := s.link.counted n (s.lane n) } := by
  unfold countMiss
  dsimp only
  by_cases third : (s.lane n).misses = 2
  · cases doubt : (s.lane n).countDoubt with
    | false =>
      rw [if_pos ⟨by rw [third], rfl⟩, handNotice_eq]
      have lanes : (s.lanes.modify n fun l => { l with misses := l.misses + 1 }).modify n (fun l => { l with countDoubt := true })
          = s.lanes.modify n Lane.counted := by
        rw [List.modify_modify_eq]
        refine modify_congr_lane ?_
        simp [Lane.counted, third]
      have link : s.link.counted n (s.lane n) = s.link.withNotice 0x4B [byte n, 3] := by simp [Link.counted, third, doubt]
      rw [← lanes, link]
      rfl
    | true =>
      rw [if_neg (by simp)]
      have lanes : (s.lanes.modify n fun l => { l with misses := l.misses + 1 }) = s.lanes.modify n Lane.counted :=
        modify_congr_lane (by simp [Lane.counted, doubt])
      have link : s.link.counted n (s.lane n) = s.link := by simp [Link.counted, doubt]
      rw [← lanes, link]
      rfl
  · rw [if_neg (by omega)]
    have lanes : (s.lanes.modify n fun l => { l with misses := l.misses + 1 }) = s.lanes.modify n Lane.counted :=
      modify_congr_lane (by simp [Lane.counted, third])
    have link : s.link.counted n (s.lane n) = s.link := by simp [Link.counted, third]
    rw [← lanes, link]
    rfl

theorem bellCheck_eq (n : Nat) (s : State) : bellCheck n s = { s with lamps := { s.lamps with
    bell := if 8 ≤ s.event.total ∧ (s.lane n).done + 2 = s.event.total then s.lamps.bell.pulse s.tick s.options.bellWidth
      else s.lamps.bell } } := by
  unfold bellCheck triggerBell
  split <;> rfl

/-- A lane with the outcome of an append for its exchange. -/
def Lane.withOutcome (o : Option (Nat × Exchange)) (l : Lane) : Lane :=
  match o with
  | some (j, x) => l.setExchange j x
  | none => l

/-- The link with the notices of the outcome of an append for its exchange (R103). -/
def Link.withOutcome (n : Nat) (o : Option (Nat × Exchange)) (k : Link) : Link :=
  match o with
  | some (j, x) => k.withExchange n j x
  | none => k

/-- The TAKEOFF_ALERT timers behind the outcome of an append for its exchange (R103). -/
def alertsAfter (n : Nat) (o : Option (Nat × Exchange)) (s : State) : List LampTimer :=
  match o with
  | some (_, x) => alertAfter n x s
  | none => s.lamps.takeoffAlert

theorem withOutcome_lanes (n : Nat) (o : Option (Nat × Exchange)) (s : State) :
    (s.withOutcome n o).lanes = s.lanes.modify n (Lane.withOutcome o) := by
  cases o with
  | none => exact (modify_self_lane rfl).symm
  | some x => rfl

theorem withOutcome_link (n : Nat) (o : Option (Nat × Exchange)) (s : State) :
    (s.withOutcome n o).link = s.link.withOutcome n o := by
  cases o <;> rfl

theorem withOutcome_lamps (n : Nat) (o : Option (Nat × Exchange)) (s : State) :
    (s.withOutcome n o).lamps = { s.lamps with takeoffAlert := alertsAfter n o s } := by
  cases o <;> rfl

theorem withOutcome_race (n : Nat) (o : Option (Nat × Exchange)) (s : State) : (s.withOutcome n o).race = s.race := by
  cases o <;> rfl

theorem withOutcome_tick (n : Nat) (o : Option (Nat × Exchange)) (s : State) : (s.withOutcome n o).tick = s.tick := by
  cases o <;> rfl

theorem withOutcome_options (n : Nat) (o : Option (Nat × Exchange)) (s : State) : (s.withOutcome n o).options = s.options := by
  cases o <;> rfl

theorem event_of_race {s t : State} (h : t.race = s.race) : t.event = s.event := by rw [State.event, h, State.event]

theorem withOutcome_event (n : Nat) (o : Option (Nat × Exchange)) (s : State) : (s.withOutcome n o).event = s.event :=
  event_of_race (withOutcome_race n o s)

theorem alertsAfter_congr {n : Nat} {o : Option (Nat × Exchange)} {s t : State} (alerts : t.lamps.takeoffAlert = s.lamps.takeoffAlert)
    (tick : t.tick = s.tick)
    (options : t.options = s.options) : alertsAfter n o t = alertsAfter n o s := by
  cases o with
  | none => exact alerts
  | some x => simp only [alertsAfter, alertAfter, alerts, tick, options]

theorem rowsMarked_withExchange (n j : Nat) (x : Exchange) (s : State) :
    RowsMarked (if x.status = .early ∧ (s.lane n).otherEarly j = false then [n + 1] else []) [n + 1] s (s.withExchange n j x) := by
  by_cases first : x.status = .early ∧ (s.lane n).otherEarly j = false
  · rw [if_pos first]
    exact rowsMarked_marked (if_pos first)
  · rw [if_neg first]
    have kept : (s.withExchange n j x).board = s.board := if_neg first
    exact (rowsMarked_none (by rw [kept])).mono (by simp) (by simp)

theorem holds_withExchange (n j : Nat) (x : Exchange) (s : State) : (s.withExchange n j x).board.holds = s.board.holds := by
  by_cases first : x.status = .early ∧ (s.lane n).otherEarly j = false
  · have marked : (s.withExchange n j x).board = s.board.marked (n + 1) := if_pos first
    rw [marked, Board.marked_holds]
  · have kept : (s.withExchange n j x).board = s.board := if_neg first
    rw [kept]

theorem rowsMarked_withOutcome (n : Nat) (o : Option (Nat × Exchange)) (s : State) :
    RowsMarked [] [n + 1] s (s.withOutcome n o) := by
  cases o with
  | none => exact (RowsMarked.refl s).mono (by simp) (by simp)
  | some x => exact (rowsMarked_withExchange n x.1 x.2 s).mono (by simp) (by simp)

theorem holds_withOutcome (n : Nat) (o : Option (Nat × Exchange)) (s : State) :
    (s.withOutcome n o).board.holds = s.board.holds := by
  cases o with
  | none => rfl
  | some x => exact holds_withExchange n x.1 x.2 s

/-- The lane behind an append (R57, R69, R101). -/
def Lane.appended (ev : EventDesc) (k : SplitKind) (time : Option Nat) (mark : Bool) (l : Lane) : Lane :=
  let m := l.append (nextEntry l k time mark)
  (if k = .missed then m.counted else m).withOutcome (exchangeOutcome ev l (nextEntry l k time mark))

theorem withOutcome_keeps {α : Type} (part : Lane → α) (h : ∀ j x l, part (l.setExchange j x) = part l) (o : Option (Nat × Exchange))
    (l : Lane) : part (l.withOutcome o) = part l := by
  cases o with
  | none => rfl
  | some x => exact h x.1 x.2 l

/-- What an append leaves of the lane beside its list, its counts and its exchanges. -/
theorem appended_keeps {α : Type} (part : Lane → α) (hx : ∀ j x l, part (l.setExchange j x) = part l)
    (hc : ∀ l, part l.counted = part l) (ev : EventDesc) (k : SplitKind) (time : Option Nat) (mark : Bool) (l : Lane) :
    part (l.appended ev k time mark) = part (l.append (nextEntry l k time mark)) := by
  rw [Lane.appended, withOutcome_keeps part hx]
  split
  · exact hc _
  · rfl

theorem setExchange_done (j : Nat) (x : Exchange) (l : Lane) : (l.setExchange j x).done = l.done := by
  match j with
  | 0 | 1 | 2 | _ + 3 => rfl

theorem Lane.appended_done (ev : EventDesc) (k : SplitKind) (time : Option Nat) (mark : Bool) (l : Lane) :
    (l.appended ev k time mark).done = l.done + 1 :=
  appended_keeps Lane.done setExchange_done (fun _ => rfl) ev k time mark l

/-- The link behind an append to lane `n`, before it `l` (R68). -/
def Link.appended (n : Nat) (ev : EventDesc) (l : Lane) (k : SplitKind) (time : Option Nat) (mark : Bool) (link : Link) : Link :=
  let split := link.withNotice 0x44 (splitNotice n (nextEntry l k time mark))
  (if k = .missed then split.counted n l else split).withOutcome n (exchangeOutcome ev l (nextEntry l k time mark))

theorem exchangeOutcome_congr {ev : EventDesc} {l m : Lane} (h : ∀ j, m.exchange j = l.exchange j) (x : Split) :
    exchangeOutcome ev m x = exchangeOutcome ev l x := by
  simp only [exchangeOutcome, Lane.unjudged, h]

/-- The state behind the marking, the hold and the count of an append, before its exchange and the bell (R68). -/
def appendStart (n : Nat) (k : SplitKind) (x : Split) (s : State) : State :=
  let t := markLaneRows n (handSplit n x (s.updLane n (Lane.append x)))
  let u := if k = .timed ∧ (t.lane n).state = .swimming then startHold n t else t
  if k = .missed then countMiss n u else u

theorem appendSplit_eq (n : Nat) (k : SplitKind) (time : Option Nat) (mark : Bool) (s : State) :
    appendSplit n k time mark s = bellCheck n (exchangeAppend n (nextEntry (s.lane n) k time mark)
      (appendStart n k (nextEntry (s.lane n) k time mark) s)) := rfl

section
variable (n : Nat) (k : SplitKind) (x : Split) (s : State)

theorem handSplit_eq : handSplit n x s = { s with link := s.link.withNotice 0x44 (splitNotice n x) } := handNotice_eq _ _ _

theorem appendStart_lanes : (appendStart n k x s).lanes
    = s.lanes.modify n (fun l => if k = .missed then (l.append x).counted else l.append x) := by
  unfold appendStart
  dsimp only
  by_cases missed : k = .missed
  · have untimed : k ≠ .timed := by simp [missed]
    rw [if_pos missed, countMiss_eq, if_neg fun h => untimed h.1]
    simp only [missed, if_true, markLaneRows_lanes, handSplit_lanes]
    exact List.modify_modify_eq _ _ _ _
  · rw [if_neg missed]
    simp only [missed, if_false]
    split
    · simp [State.updLane]
    · simp [State.updLane]

theorem appendStart_lamps : (appendStart n k x s).lamps = s.lamps := by
  unfold appendStart
  dsimp only
  split
  · rw [countMiss_lamps]
    split <;> simp
  · split <;> simp

theorem appendStart_race : (appendStart n k x s).race = s.race := by
  unfold appendStart
  dsimp only
  split
  · rw [countMiss_race]
    split <;> simp
  · split <;> simp

@[simp] theorem outer_appendStart : (appendStart n k x s).outer = s.outer := by
  unfold appendStart
  dsimp only
  split
  · rw [outer_countMiss]
    split <;> simp
  · split <;> simp

theorem rowsMarked_appendStart : RowsMarked [n + 1, n + 12] [n + 1, n + 12] s (appendStart n k x s) := by
  have first : RowsMarked [n + 1, n + 12] [n + 1, n + 12] s (markLaneRows n (handSplit n x (s.updLane n (Lane.append x)))) :=
    (rowsMarked_markLaneRows n (handSplit n x (s.updLane n (Lane.append x)))).of_boards
      (s' := s) (by rw [handSplit_eq]; rfl) rfl
  have held : RowsMarked [n + 1, n + 12] [n + 1, n + 12] s (startHold n (markLaneRows n (handSplit n x (s.updLane n (Lane.append x))))) :=
    (first.trans (rowsMarked_startHold n _)).mono (by simp) (by simp)
  unfold appendStart
  dsimp only
  split
  · rw [countMiss_eq]
    split
    · exact held.of_boards rfl rfl
    · exact first.of_boards rfl rfl
  · split
    · exact held
    · exact first

theorem holds_appendStart (h : ¬ (k = .timed ∧ (s.lane n).state = .swimming)) :
    (appendStart n k x s).board.holds = s.board.holds := by
  have state : ((s.updLane n (Lane.append x)).lane n).state = (s.lane n).state := by
    by_cases hn : n < s.lanes.length
    · rw [lane_updLane_same hn]
      rfl
    · simp [State.lane, State.updLane, hn]
  have kept : (markLaneRows n (handSplit n x (s.updLane n (Lane.append x)))).board.holds = s.board.holds := by
    rw [holds_markLaneRows, handSplit_eq]
    rfl
  have lane : (markLaneRows n (handSplit n x (s.updLane n (Lane.append x)))).lane n = (s.updLane n (Lane.append x)).lane n :=
    lane_of_lanes (by simp) n
  unfold appendStart
  dsimp only
  rw [lane, state, if_neg h]
  split
  · rw [countMiss_eq]
    exact kept
  · exact kept

end

section
variable {s : State} {n : Nat} (hn : n < s.lanes.length)
include hn

theorem appendStart_link (k : SplitKind) (x : Split) : (appendStart n k x s).link
    = if k = .missed then (s.link.withNotice 0x44 (splitNotice n x)).counted n (s.lane n)
      else s.link.withNotice 0x44 (splitNotice n x) := by
  have appended : (s.updLane n (Lane.append x)).lane n = (s.lane n).append x := lane_updLane_same hn _
  unfold appendStart
  dsimp only
  by_cases missed : k = .missed
  · have untimed : k ≠ .timed := by simp [missed]
    have lane : (markLaneRows n (handSplit n x (s.updLane n (Lane.append x)))).lane n = (s.lane n).append x :=
      (lane_of_lanes (by simp) n).trans appended
    rw [if_pos missed, if_pos missed, if_neg fun h => untimed h.1, countMiss_eq]
    dsimp only
    rw [lane, markLaneRows_link, handSplit_eq]
    rfl
  · rw [if_neg missed, if_neg missed]
    split
    · rw [startHold_link, markLaneRows_link, handSplit_eq]
      rfl
    · rw [markLaneRows_link, handSplit_eq]
      rfl

theorem holdSet_appendStart (hs : (s.lane n).state = .swimming) (hh : n < s.board.holds.length) (x : Split) :
    HoldSet n (holdStarted s) s (appendStart n .timed x s) := by
  have lane : ((markLaneRows n (handSplit n x (s.updLane n (Lane.append x)))).lane n).state = .swimming := by
    rw [lane_of_lanes (t := markLaneRows n (handSplit n x (s.updLane n (Lane.append x)))) (s := s.updLane n (Lane.append x))
      (by simp) n, lane_updLane_same hn]
    exact hs
  have holds : (markLaneRows n (handSplit n x (s.updLane n (Lane.append x)))).board.holds = s.board.holds := by
    rw [holds_markLaneRows, handSplit_eq]
    rfl
  have start : appendStart n .timed x s = startHold n (markLaneRows n (handSplit n x (s.updLane n (Lane.append x)))) := by
    unfold appendStart
    dsimp only
    rw [if_neg (by simp : ¬ SplitKind.timed = .missed), if_pos ⟨rfl, lane⟩]
  have new : holdStarted (markLaneRows n (handSplit n x (s.updLane n (Lane.append x)))) = holdStarted s := by
    rw [markLaneRows_eq, handSplit_eq]
    rfl
  obtain ⟨at_n, others⟩ := holdSet_startHold (s := markLaneRows n (handSplit n x (s.updLane n (Lane.append x)))) (holds ▸ hh)
  rw [start]
  exact ⟨new ▸ at_n, fun m hm => (others m hm).trans (hold_of_holds holds m)⟩

end

/-! ### The append as a whole -/

section
variable {s : State} {n : Nat} (hn : n < s.lanes.length) (k : SplitKind) (time : Option Nat) (mark : Bool)
include hn

/-- The exchange that the append changes, and what it becomes. -/
theorem exchangeAppend_appendStart : exchangeAppend n (nextEntry (s.lane n) k time mark)
      (appendStart n k (nextEntry (s.lane n) k time mark) s)
    = (appendStart n k (nextEntry (s.lane n) k time mark) s).withOutcome n
        (exchangeOutcome s.event (s.lane n) (nextEntry (s.lane n) k time mark)) := by
  have lanes := appendStart_lanes n k (nextEntry (s.lane n) k time mark) s
  have count : n < (appendStart n k (nextEntry (s.lane n) k time mark) s).lanes.length := by
    rw [lanes, List.length_modify]
    exact hn
  have event : (appendStart n k (nextEntry (s.lane n) k time mark) s).event = s.event := by
    rw [State.event, appendStart_race, State.event]
  rw [exchangeAppend_eq count, event, lane_of_modify lanes hn]
  refine congrArg (fun o => State.withOutcome n o _) (exchangeOutcome_congr (fun j => ?_) _)
  split <;> rfl

theorem appendSplit_lanes : (appendSplit n k time mark s).lanes = s.lanes.modify n (Lane.appended s.event k time mark) := by
  rw [appendSplit_eq, bellCheck_lanes, exchangeAppend_appendStart hn, withOutcome_lanes, appendStart_lanes, List.modify_modify_eq]
  exact modify_congr_lane rfl

theorem appendSplit_lane : (appendSplit n k time mark s).lane n = (s.lane n).appended s.event k time mark :=
  lane_of_modify (appendSplit_lanes hn k time mark) hn

theorem appendSplit_link :
    (appendSplit n k time mark s).link = s.link.appended n s.event (s.lane n) k time mark := by
  rw [appendSplit_eq, bellCheck_link, exchangeAppend_appendStart hn, withOutcome_link, appendStart_link hn]
  rfl

theorem appendSplit_lamps : (appendSplit n k time mark s).lamps = { s.lamps with
    takeoffAlert := alertsAfter n (exchangeOutcome s.event (s.lane n) (nextEntry (s.lane n) k time mark)) s
    bell := if 8 ≤ s.event.total ∧ (s.lane n).done + 3 = s.event.total then s.lamps.bell.pulse s.tick s.options.bellWidth
      else s.lamps.bell } := by
  have appended : ((appendStart n k (nextEntry (s.lane n) k time mark) s).withOutcome n
      (exchangeOutcome s.event (s.lane n) (nextEntry (s.lane n) k time mark))).lane n = (s.lane n).appended s.event k time mark := by
    rw [← exchangeAppend_appendStart hn]
    refine lane_of_modify ?_ hn
    rw [exchangeAppend_appendStart hn, withOutcome_lanes, appendStart_lanes, List.modify_modify_eq]
    exact modify_congr_lane rfl
  have outer := outer_appendStart n k (nextEntry (s.lane n) k time mark) s
  have alerts (o : Option (Nat × Exchange)) : alertsAfter n o (appendStart n k (nextEntry (s.lane n) k time mark) s)
      = alertsAfter n o s :=
    alertsAfter_congr (congrArg Lamps.takeoffAlert (appendStart_lamps n k _ s)) (outer_tick outer) (outer_options outer)
  rw [appendSplit_eq, exchangeAppend_appendStart hn, bellCheck_eq, appended, Lane.appended_done]
  simp only [withOutcome_lamps, withOutcome_event, withOutcome_tick, withOutcome_options, alerts, appendStart_lamps,
    outer_tick outer, outer_options outer, event_of_race (appendStart_race n k _ s), Nat.add_assoc]

theorem rowsMarked_appendSplit : RowsMarked [n + 1, n + 12] [n + 1, n + 12] s (appendSplit n k time mark s) := by
  rw [appendSplit_eq, exchangeAppend_appendStart hn, bellCheck_eq]
  have marked := (rowsMarked_appendStart n k (nextEntry (s.lane n) k time mark) s).trans (rowsMarked_withOutcome n
    (exchangeOutcome s.event (s.lane n) (nextEntry (s.lane n) k time mark)) _)
  exact (marked.mono (more := [n + 1, n + 12]) (often := [n + 1, n + 12]) (by simp) (by simp)).of_board rfl

theorem holds_appendSplit (h : ¬ (k = .timed ∧ (s.lane n).state = .swimming)) :
    (appendSplit n k time mark s).board.holds = s.board.holds := by
  rw [appendSplit_eq, bellCheck_board, exchangeAppend_appendStart hn, holds_withOutcome, holds_appendStart n k _ s h]

theorem holdSet_appendSplit (hs : (s.lane n).state = .swimming) (hh : n < s.board.holds.length) :
    HoldSet n (holdStarted s) s (appendSplit n .timed time mark s) := by
  have set := holdSet_appendStart hn hs hh (nextEntry (s.lane n) .timed time mark)
  have holds : (appendSplit n .timed time mark s).board.holds
      = (appendStart n .timed (nextEntry (s.lane n) .timed time mark) s).board.holds := by
    rw [appendSplit_eq, bellCheck_board, exchangeAppend_appendStart hn, holds_withOutcome]
  exact ⟨(hold_of_holds holds n).trans set.1, fun m hm => (hold_of_holds holds m).trans (set.2 m hm)⟩

end

end Sys2Proof.Machine
end

section
/-!
The ranking, the record checks and the end of the race (R107 to R110, R118): a lane's standing, the places and the table that the
standings give, and the recomputations as changes of the state.
-/
namespace Sys2Proof.Machine

/-! ## Standings and places -/

/-- A lane's standing: its result in hundredths while it has a place, and none otherwise (R107, R108). -/
def Lane.standing (l : Lane) : Option Nat := if l.placed then some (l.result.getD 0 / 100) else none

theorem standing_eq_none {l : Lane} : l.standing = none ↔ ¬ l.placed := by
  unfold Lane.standing
  split
  · next h => simp [h]
  · next h => simp [h]

theorem standing_of_placed {l : Lane} (h : l.placed) : l.standing = some (l.result.getD 0 / 100) := if_pos h

/-- The standing rests on the lane's state, its result and its mark. -/
theorem standing_congr {l m : Lane} (state : m.state = l.state) (result : m.result = l.result) (dq : m.dq = l.dq) :
    m.standing = l.standing := by
  simp only [Lane.standing, Lane.placed, state, result, dq]

/-- The place that the standings of all lanes give one of them (R108). -/
def placeBy (standings : List (Option Nat)) (mine : Option Nat) : Option Nat :=
  mine.map fun h => 1 + standings.countP (fun o => o.any fun x => decide (x < h))

theorem standing_any (l : Lane) (h : Nat) :
    (l.standing.any fun x => decide (x < h)) = decide (l.placed ∧ l.result.getD 0 / 100 < h) := by
  unfold Lane.standing
  split
  · next placed => simp [placed]
  · next unplaced => simp [unplaced]

theorem placeAmong_eq (ls : List Lane) (l : Lane) : placeAmong ls l = placeBy (ls.map Lane.standing) l.standing := by
  unfold placeAmong placeBy
  by_cases placed : l.placed
  · rw [if_pos placed, standing_of_placed placed, Option.map_some, List.countP_map, List.countP_eq_length_filter]
    refine congrArg (fun k => some (1 + List.length k)) (List.filter_congr fun m _ => ?_)
    exact (standing_any m _).symm
  · rw [if_neg placed, standing_eq_none.mpr placed, Option.map_none]

theorem ranked_iff_placed (l : Lane) : l.ranked = true ↔ l.placed := by
  simp [Lane.ranked, Lane.placed, Option.isSome_iff_ne_none]

theorem hundredths_of_placed {l : Lane} (h : l.placed) : l.hundredths = some (l.result.getD 0 / 100) := by
  obtain ⟨_, result, _⟩ := h
  obtain ⟨r, hr⟩ := Option.ne_none_iff_exists'.mp result
  simp [Lane.hundredths, hr]

theorem compare_less_iff {a b : Nat} : compareTimes (some a) (some b) = .less ↔ a < b := by
  unfold compareTimes
  dsimp only
  split
  · next h => simp [h]
  · next h =>
    split
    · simp [h]
    · simp [h]

theorem placeIn_eq (ls : List Lane) (l : Lane) : placeIn ls l = placeBy (ls.map Lane.standing) l.standing := by
  unfold placeIn placeBy
  by_cases placed : l.placed
  · rw [if_pos ((ranked_iff_placed l).mpr placed), standing_of_placed placed, Option.map_some, List.countP_map]
    refine congrArg (fun k => some (1 + k)) (List.countP_congr fun m _ => ?_)
    by_cases other : m.placed
    · simp [standing_any, other, (ranked_iff_placed m).mpr other, hundredths_of_placed placed, hundredths_of_placed other,
        compare_less_iff]
    · have unranked : ¬ m.ranked = true := fun h => other ((ranked_iff_placed m).mp h)
      simp [standing_any, other, unranked]
  · rw [if_neg fun h => placed ((ranked_iff_placed l).mp h), standing_eq_none.mpr placed, Option.map_none]

/-- The lane with the place that the standings give it. -/
def Lane.placedBy (standings : List (Option Nat)) (l : Lane) : Lane := { l with place := placeBy standings l.standing }

theorem standing_placedBy (standings : List (Option Nat)) (l : Lane) : (l.placedBy standings).standing = l.standing := rfl

theorem placedBy_blank (standings : List (Option Nat)) : Lane.blank.placedBy standings = Lane.blank := rfl

/-- The lane records with their places given anew. -/
def State.standings (s : State) : List (Option Nat) := s.lanes.map Lane.standing

theorem placesRight_iff (s : State) : PlacesRight s ↔ ∀ l ∈ s.lanes, l.place = placeBy s.standings l.standing := by
  simp only [PlacesRight, placeAmong_eq, State.standings]

/-! ## The ranking table -/

/-- One lane stands before another in the ranking table (R108). -/
def ranksBefore (s : State) (a b : Nat) : Prop :=
  (s.lane a).result.getD 0 / 100 < (s.lane b).result.getD 0 / 100
  ∨ ((s.lane a).result.getD 0 / 100 = (s.lane b).result.getD 0 / 100 ∧ a < b)

theorem mem_insertRanked {ls : List Lane} {n k : Nat} {ms : List Nat} : k ∈ insertRanked ls n ms ↔ k = n ∨ k ∈ ms := by
  induction ms with
  | nil => simp [insertRanked]
  | cons m ms ih =>
    rw [insertRanked]
    split
    · simp
    · simp [ih, or_left_comm]

theorem lane_getD (s : State) (n : Nat) : s.lanes.getD n Lane.blank = s.lane n := rfl

theorem compare_lanes {s : State} {a b : Nat} (ha : (s.lane a).placed) (hb : (s.lane b).placed) :
    compareTimes (s.lane a).hundredths (s.lane b).hundredths = .less
      ↔ (s.lane a).result.getD 0 / 100 < (s.lane b).result.getD 0 / 100 := by
  rw [hundredths_of_placed ha, hundredths_of_placed hb, compare_less_iff]

theorem ordered_insertRanked {s : State} {n : Nat} {ms : List Nat} (hn : (s.lane n).placed)
    (placed : ∀ m ∈ ms, (s.lane m).placed) (before : ∀ m ∈ ms, m < n) (ordered : ms.Pairwise (ranksBefore s)) :
    (insertRanked s.lanes n ms).Pairwise (ranksBefore s) := by
  induction ms with
  | nil => simp [insertRanked]
  | cons m ms ih =>
    obtain ⟨first, rest⟩ := List.pairwise_cons.mp ordered
    have hm := placed m (by simp)
    rw [insertRanked, lane_getD, lane_getD]
    by_cases less : compareTimes (s.lane n).hundredths (s.lane m).hundredths = .less
    · rw [if_pos less]
      have ahead := (compare_lanes hn hm).mp less
      refine List.pairwise_cons.mpr ⟨fun k hk => ?_, ordered⟩
      rcases List.mem_cons.mp hk with rfl | hk
      · exact .inl ahead
      · exact .inl (lt_of_lt_of_le ahead ((first k hk).elim Nat.le_of_lt fun h => h.1.le))
    · rw [if_neg less]
      have behind := fun h => less ((compare_lanes hn hm).mpr h)
      refine List.pairwise_cons.mpr ⟨fun k hk => ?_, ih (fun k hk => placed k (by simp [hk])) (fun k hk => before k (by simp [hk])) rest⟩
      rcases mem_insertRanked.mp hk with rfl | hk
      · exact (Nat.lt_or_eq_of_le (Nat.not_lt.mp behind)).imp id fun h => ⟨h, before m (by simp)⟩
      · exact first k hk

/-- The fold that builds the table keeps it in order, over lanes that come in ascending number. -/
theorem foldl_insertRanked {s : State} (ns : List Nat) (acc : List Nat) (ascending : ns.Pairwise (· < ·))
    (placed : ∀ n ∈ ns, (s.lane n).placed) (done : ∀ m ∈ acc, (s.lane m).placed ∧ ∀ n ∈ ns, m < n)
    (ordered : acc.Pairwise (ranksBefore s)) :
    (∀ k, k ∈ ns.foldl (fun acc n => insertRanked s.lanes n acc) acc ↔ k ∈ ns ∨ k ∈ acc)
      ∧ (ns.foldl (fun acc n => insertRanked s.lanes n acc) acc).Pairwise (ranksBefore s) := by
  induction ns generalizing acc with
  | nil => exact ⟨by simp, ordered⟩
  | cons n ns ih =>
    obtain ⟨first, rest⟩ := List.pairwise_cons.mp ascending
    obtain ⟨members, sorted⟩ := ih (insertRanked s.lanes n acc) rest (fun k hk => placed k (by simp [hk]))
      (fun m hm => by
        rcases mem_insertRanked.mp hm with rfl | hm
        · exact ⟨placed m (by simp), first⟩
        · exact ⟨(done m hm).1, fun k hk => (done m hm).2 k (by simp [hk])⟩)
      (ordered_insertRanked (placed n (by simp)) (fun m hm => (done m hm).1) (fun m hm => (done m hm).2 n (by simp)) ordered)
    refine ⟨fun k => ?_, sorted⟩
    rw [List.foldl_cons, members, mem_insertRanked, List.mem_cons]
    tauto

theorem rankingOf_right (s : State) :
    (∀ n, n ∈ rankingOf s.lanes ↔ n < s.lanes.length ∧ (s.lane n).placed) ∧ (rankingOf s.lanes).Pairwise (ranksBefore s) := by
  have listed (n : Nat) : n ∈ (List.range s.lanes.length).filter (fun n => (s.lanes.getD n Lane.blank).ranked)
      ↔ n < s.lanes.length ∧ (s.lane n).placed := by
    rw [List.mem_filter, List.mem_range, lane_getD, ranked_iff_placed]
  obtain ⟨members, sorted⟩ := foldl_insertRanked (s := s)
    ((List.range s.lanes.length).filter (fun n => (s.lanes.getD n Lane.blank).ranked)) []
    (List.Pairwise.filter _ List.pairwise_lt_range) (fun n hn => ((listed n).mp hn).2) (by simp) List.Pairwise.nil
  exact ⟨fun n => by rw [rankingOf, members, listed]; simp, sorted⟩

theorem rankingRight_iff (s : State) : RankingRight s
    ↔ (∀ n, n ∈ s.race.ranking ↔ n < s.lanes.length ∧ (s.lane n).placed) ∧ s.race.ranking.Pairwise (ranksBefore s) :=
  ⟨fun h => ⟨h.members, h.ordered⟩, fun h => ⟨h.1, h.2⟩⟩

theorem lane_standing {s t : State} (h : t.standings = s.standings) (n : Nat) : (t.lane n).standing = (s.lane n).standing := by
  have at_n (u : State) : (u.lane n).standing = u.standings.getD n none := by
    rw [State.lane, State.standings, List.getD_eq_getElem?_getD, List.getD_eq_getElem?_getD, List.getElem?_map]
    cases u.lanes[n]? <;> rfl
  rw [at_n, at_n, h]

theorem placed_of_standing {l m : Lane} (h : m.standing = l.standing) :
    (m.placed ↔ l.placed) ∧ (l.placed → m.result.getD 0 / 100 = l.result.getD 0 / 100) := by
  have iff : m.placed ↔ l.placed := by rw [← not_iff_not, ← standing_eq_none, ← standing_eq_none, h]
  refine ⟨iff, fun placed => ?_⟩
  rw [standing_of_placed placed, standing_of_placed (iff.mpr placed)] at h
  exact Option.some.inj h

theorem ranksBefore_congr {s t : State} {a b : Nat} (ha : (t.lane a).standing = (s.lane a).standing)
    (hb : (t.lane b).standing = (s.lane b).standing) (pa : (s.lane a).placed) (pb : (s.lane b).placed) (h : ranksBefore s a b) :
    ranksBefore t a b := by
  rw [ranksBefore, (placed_of_standing ha).2 pa, (placed_of_standing hb).2 pb]
  exact h

/-- The ranking table rests on the standings. -/
theorem RankingRight.of_standings {s t : State} (h : RankingRight s) (standings : t.standings = s.standings)
    (ranking : t.race.ranking = s.race.ranking) : RankingRight t := by
  have same := lane_standing standings
  have count : t.lanes.length = s.lanes.length := by simpa [State.standings] using congrArg List.length standings
  constructor
  · intro n
    rw [ranking, h.members, count, (placed_of_standing (same n)).1]
  · rw [ranking]
    exact h.ordered.imp_of_mem fun ha hb hab =>
      ranksBefore_congr (same _) (same _) ((h.members _).mp ha).2 ((h.members _).mp hb).2 hab

theorem PlacesRight.of_standings {s t : State} (h : PlacesRight s) (standings : t.standings = s.standings)
    (places : ∀ l ∈ t.lanes, ∃ m ∈ s.lanes, l.place = m.place ∧ l.standing = m.standing) : PlacesRight t := by
  rw [placesRight_iff] at h ⊢
  intro l hl
  obtain ⟨m, hm, place, standing⟩ := places l hl
  rw [place, standing, standings, h m hm]

/-! ## The recomputation of the ranking (R109) -/

/-- The lanes and the ranking table as the standings give them. -/
def State.withPlaces (s : State) : State :=
  { s with lanes := s.lanes.map (Lane.placedBy s.standings), race := { s.race with ranking := rankingOf s.lanes } }

theorem withPlaces_lane (s : State) (n : Nat) : s.withPlaces.lane n = (s.lane n).placedBy s.standings := by
  rw [State.lane, State.withPlaces, List.getD_eq_getElem?_getD, List.getElem?_map, State.lane, List.getD_eq_getElem?_getD]
  cases s.lanes[n]? <;> rfl

theorem withPlaces_standings (s : State) : s.withPlaces.standings = s.standings := by
  rw [State.standings, State.withPlaces, List.map_map]
  rfl

theorem withPlaces_placesRight (s : State) : PlacesRight s.withPlaces := by
  rw [placesRight_iff, withPlaces_standings]
  intro l hl
  obtain ⟨m, _, rfl⟩ := List.mem_map.mp hl
  rfl

theorem withPlaces_rankingRight (s : State) : RankingRight s.withPlaces := by
  obtain ⟨members, ordered⟩ := rankingOf_right s
  have before : RankingRight { s with race := { s.race with ranking := rankingOf s.lanes } } := ⟨members, ordered⟩
  exact before.of_standings (withPlaces_standings s) rfl

theorem recomputeRanking_eq (s : State) : recomputeRanking s = { s.withPlaces with
    board := s.board.markedAll (placeRows s s.withPlaces)
    link := s.link.withNotices (placesNotice s.places s.withPlaces.places) } := by
  have changed : laneNumbers.filter (fun n => decide ((s.lane n).place ≠ placeIn s.lanes (s.lane n)))
      = (List.range 10).filter (fun n => decide ((s.withPlaces.lane n).place ≠ (s.lane n).place)) := by
    refine List.filter_congr fun n _ => ?_
    rw [withPlaces_lane, placeIn_eq, decide_eq_decide, ne_comm]
    rfl
  have lanes : s.lanes.map (fun l => { l with place := placeIn s.lanes l }) = s.withPlaces.lanes :=
    List.map_congr_left fun l _ => by rw [placeIn_eq]; rfl
  have unchanged : (List.range 10).filter (fun n => decide ((s.withPlaces.lane n).place ≠ (s.lane n).place)) = []
      ↔ s.withPlaces.places = s.places := by
    rw [List.filter_eq_nil_iff, State.places, State.places, List.map_inj_left]
    simp
  unfold recomputeRanking
  dsimp only
  rw [changed, lanes, forEach_markLaneRow_eq]
  by_cases same : s.withPlaces.places = s.places
  · rw [if_pos (unchanged.mpr same), placesNotice, if_pos same]
    rfl
  · rw [if_neg fun h => same (unchanged.mp h), handNotice_eq, placesNotice, if_neg same]
    have bytes : placesBytes { s.withPlaces with board := s.board.markedAll (placeRows s s.withPlaces) }
        = s.withPlaces.places.map laneByte := by
      rw [placesBytes, State.places, List.map_map]
      rfl
    exact congrArg (fun p => { s.withPlaces with
      board := s.board.markedAll (placeRows s s.withPlaces), link := s.link.withNotice 0x4A p }) bytes

/-! ## The record check (R110) -/

theorem mem_recordSetOf (slots : List RecordSlot) (l : Lane) (i : Nat) :
    i ∈ recordSetOf slots l ↔ i < 4 ∧ slotsMet slots l i := by
  unfold recordSetOf slotsMet
  cases dq : l.dq with
  | true => simp
  | false =>
    rw [if_neg (by simp), List.mem_filter, List.mem_range]
    refine and_congr_right fun _ => ?_
    cases slot : slots[i]? with
    | none => simp [slotMet, slot, RecordSlot.cleared]
    | some x =>
      cases result : l.result with
      | none =>
        cases relation : x.relation <;> simp [slotMet, slot, Lane.hundredths, result, compareTimes, relation]
      | some r =>
        rcases lt_trichotomy (r / 100) x.reference with less | same | more
        · simp [slotMet, slot, Lane.hundredths, result, compareTimes, less]
        · cases relation : x.relation <;> simp [slotMet, slot, Lane.hundredths, result, compareTimes, same, relation]
        · cases relation : x.relation <;>
            simp [slotMet, slot, Lane.hundredths, result, compareTimes, relation, more.not_gt, more.ne']

/-- The lane with the record set `set`. -/
def Lane.withRecords (set : List Nat) (l : Lane) : Lane := { l with records := set }

/-- The record lamp behind a record check that leaves `new` for `old` (R110). -/
def recordAfter (old new : List Nat) (s : State) : LampTimer :=
  if old = new ∨ new = [] then s.lamps.record else s.lamps.record.extend s.tick s.options.recordWidth

/-- The notice of a record check that leaves `new` for `old` (R110). -/
def recordChange (n : Nat) (old new : List Nat) : List (Byte × List Byte) :=
  if new = old then [] else [(0x49, [byte n, recordBits new])]

theorem recordCheck_eq (n : Nat) (s : State) :
    let set := recordSetOf s.race.slots (s.lane n)
    recordCheck n s = { s with
      lanes := s.lanes.modify n (Lane.withRecords set)
      link := s.link.withNotices (recordChange n (s.lane n).records set)
      lamps := { s.lamps with record := recordAfter (s.lane n).records set s }
      board := s.board.markedAll (if set = (s.lane n).records then [] else [n + 1]) } := by
  intro set
  unfold recordCheck recordAfter recordChange
  by_cases same : (s.lane n).records = set
  · have kept : s.lanes.modify n (Lane.withRecords set) = s.lanes := modify_self_lane (by rw [Lane.withRecords, ← same])
    rw [if_pos same, if_pos same.symm, if_pos (.inl same), if_pos same.symm, kept]
    rfl
  · rw [if_neg same, if_neg (Ne.symm same), if_neg (Ne.symm same), handNotice_eq]
    dsimp only
    by_cases empty : set = []
    · rw [if_pos empty, if_pos (.inr empty), markLaneRow_eq]
      rfl
    · rw [if_neg empty, if_neg (not_or.mpr ⟨same, empty⟩), markLaneRow_eq]
      rfl

/-! ## The end of the race and the watch (R118, R171) -/

theorem endOfRaceCheck_eq (s : State) : endOfRaceCheck s =
    if raceEnds s s then { s with
      race := { s.race with state := .unofficial, pastLimit := false }, board := s.board.marked 0
      link := s.link.withRaceState .unofficial .running s.race.event }
    else s := by
  have ends : raceEnds s s = true ↔ s.race.state = .running ∧ s.lanes.any Lane.underWay = false := by simp [raceEnds]
  unfold endOfRaceCheck
  by_cases h : s.race.state = .running ∧ s.lanes.any Lane.underWay = false
  · rw [if_pos h, if_pos (ends.mpr h), setRaceState_eq (by simp [h.1]), h.1]
  · rw [if_neg h, if_neg fun e => h (ends.mp e)]

theorem watchCheck_eq (s : State) : watchCheck s = { s with link := s.link.seen s.vector } := by
  unfold watchCheck Link.seen
  cases pending : s.link.watch with
  | none => rfl
  | some w =>
    dsimp only
    by_cases same : s.vector = w.snapshot
    · rw [if_pos same, if_pos same.symm]
    · rw [if_neg same, if_neg (Ne.symm same)]
      rfl

theorem syncFinalLength_eq (n : Nat) (s : State) : syncFinalLength n s = { s with lamps := { s.lamps with
    finalLength := s.lamps.finalLength.modify n
      (LampTimer.setInput s.tick s.options.offDelay (onFinalLength s.event (s.lane n))) } } := rfl

end Sys2Proof.Machine
end

section
/-!
The resolution of a lane (R83 to R90): the decision, the lane it leaves, and the resolution as a change of lanes, link, board and
lamps, by itself and with the end of the race behind it.
-/
namespace Sys2Proof.Machine

/-! ## The decision (R83 to R88) -/

/-- The consensus of a lane's presses (R83). -/
def Lane.agreed (l : Lane) : Option Nat := consensusOf (l.presses.map (·.time))

/-- The backup candidate of a lane with the lag `lag` (R86). -/
def Lane.backup (e : EventDesc) (lag : Nat) (l : Lane) : Option Nat := l.agreed.map (fun c => candidateOf e l c lag)

theorem agreed_eq_none {l : Lane} : l.agreed = none ↔ l.presses = [] := by
  unfold Lane.agreed
  match l.presses with
  | [] | [_] | [_, _] | _ :: _ :: _ :: _ => simp [consensusOf]

/-- The decision of the model is the one of the table of R87. -/
theorem decidedBy_of_decide {e : EventDesc} {l : Lane} {consensus candidate : Option Nat} {d : Decision}
    (h : decideFinish e l consensus candidate = some d) (hc : candidate.isSome = consensus.isSome) :
    DecidedBy e.disagreement l consensus candidate d := by
  unfold decideFinish at h
  constructor
  · intro p c pad press le within
    simp only [pad, press] at h
    rw [if_pos (by omega)] at h
    rw [← Option.some.inj h]
    congr 2
    omega
  · intro p c pad press lt within
    simp only [pad, press] at h
    rw [if_neg (by omega), if_pos (by omega)] at h
    exact (Option.some.inj h).symm
  · intro p c pad press lt
    simp only [pad, press] at h
    rw [if_neg (by omega), if_neg (by omega), if_pos (by omega)] at h
    exact (Option.some.inj h).symm
  · intro p c pad press lt
    simp only [pad, press] at h
    rw [if_neg (by omega), if_neg (by omega), if_neg (by omega)] at h
    exact (Option.some.inj h).symm
  · intro p pad press
    simp only [pad, press] at h
    exact (Option.some.inj h).symm
  · intro c pad cand
    have some : consensus.isSome = true := by rw [← hc, cand]; rfl
    obtain ⟨k, press⟩ := Option.isSome_iff_exists.mp some
    simp only [pad, press, cand, Option.getD_some] at h
    exact (Option.some.inj h).symm

/-- A lane with evidence has a decision (R76, R87). -/
theorem exists_decision (e : EventDesc) {l : Lane} (h : l.pad ≠ none ∨ l.presses ≠ []) (candidate : Option Nat) :
    ∃ d, decideFinish e l l.agreed candidate = some d := by
  unfold decideFinish
  cases pad : l.pad with
  | some p =>
    cases press : l.agreed with
    | some c =>
      dsimp only
      split
      · exact ⟨_, rfl⟩
      · split
        · exact ⟨_, rfl⟩
        · split
          · exact ⟨_, rfl⟩
          · exact ⟨_, rfl⟩
    | none => exact ⟨_, rfl⟩
  | none =>
    cases press : l.agreed with
    | some c => exact ⟨_, rfl⟩
    | none => exact absurd (agreed_eq_none.mp press) (h.resolve_left fun no => no pad)

/-- The decision of a resolving lane in the state `s` (R87). -/
def State.decision (s : State) (l : Lane) : Option Decision :=
  decideFinish s.event l l.agreed (l.backup s.event (lagEstimate s.event s.race.lags))

/-! ## The resolved lane -/

/-- The lane behind its resolution by the decision `d`, its place and its record set apart (R89). -/
def Lane.resolved (e : EventDesc) (lag : Nat) (d : Decision) (l : Lane) : Lane :=
  { l with
    state := d.state, source := d.source, reason := d.reason, window := none, done := l.done + 1
    splits := l.splits ++ [timedEntry (l.done + 1) .final { time := d.result, overMark := d.overMark }]
    consensus := l.agreed, lagUsed := lag, candidate := l.backup e lag }

theorem finalEntry_append {xs : List Split} {x : Split} (h : ∀ y ∈ xs, y.kind ≠ .final) (hx : x.kind = .final) :
    finalEntry (xs ++ [x]) = some x := by
  rw [finalEntry, List.find?_append, List.find?_eq_none.mpr (by simpa using h)]
  simp [hx]

theorem finalEntry_resolved {l : Lane} (e : EventDesc) (lag : Nat) (d : Decision) (h : ∀ y ∈ l.splits, y.kind ≠ .final) :
    finalEntry (l.resolved e lag d).splits
      = some (timedEntry (l.done + 1) .final { time := d.result, overMark := d.overMark }) :=
  finalEntry_append h rfl

theorem resolvedBytes_eq {l r : Lane} {n lag : Nat} {e : EventDesc} {d : Decision} (h : ∀ y ∈ l.splits, y.kind ≠ .final)
    (hr : r = l.resolved e lag d) :
    resolvedBytes n r = [byte n, laneCode d.state, sourceCode d.source, reasonCode d.reason] ++ timeBytes (some d.result)
      ++ [flagByte d.overMark] ++ timeBytes (l.pad.map (·.time)) ++ timeBytes r.consensus ++ bytesOf 2 r.lagUsed
      ++ timeBytes r.candidate := by
  have final : finalEntry r.splits = some (timedEntry (l.done + 1) .final { time := d.result, overMark := d.overMark }) :=
    hr ▸ finalEntry_resolved e lag d h
  rw [resolvedBytes, Lane.result, final]
  subst hr
  rfl

/-! ## The steps of a resolution before the ranking (R89, steps 1 to 4) -/

/-- The state of a resolution before its FINAL entry is appended. -/
def resolveDecided (n : Nat) (d : Decision) (s : State) : State :=
  setLaneState n d.state (s.updLane n (fun l =>
    { l with consensus := (s.lane n).agreed, lagUsed := lagEstimate s.event s.race.lags
             candidate := (s.lane n).backup s.event (lagEstimate s.event s.race.lags), source := d.source
             reason := d.reason, window := none }))

/-- The state before the ranking is recomputed. -/
def resolveStart (n : Nat) (d : Decision) (s : State) : State :=
  let final := appendSplit n .final (some d.result) d.overMark (resolveDecided n d s)
  handNotice 0x45 (resolvedBytes n (final.lane n)) (appendLag n d.sample final)

theorem resolveLane_eq {n : Nat} {s : State} {d : Decision} (h : s.decision (s.lane n) = some d) :
    resolveLane n s = recordCheck n (recomputeRanking (resolveStart n d s)) := by
  rw [State.decision] at h
  unfold resolveLane resolveStart
  dsimp only
  rw [← lane_of_lanes (appendLag_lanes n d.sample (appendSplit n .final (some d.result) d.overMark (resolveDecided n d s))) n]
  rw [show consensusOf ((s.lane n).presses.map (·.time)) = (s.lane n).agreed from rfl]
  rw [show (s.lane n).agreed.map (fun c => candidateOf s.event (s.lane n) c (lagEstimate s.event s.race.lags))
    = (s.lane n).backup s.event (lagEstimate s.event s.race.lags) from rfl, h]
  rfl

theorem appendLag_eq (n : Nat) (sample : Option Nat) (s : State) : appendLag n sample s = { s with
    race := { s.race with lags := s.race.lags ++ sample.toList.map (fun x => { lane := n, delta := x }) } } := by
  cases sample with
  | none =>
    have same : s.race.lags ++ (none : Option Nat).toList.map (fun x => ({ lane := n, delta := x } : LagSample)) = s.race.lags := by
      simp
    rw [same]
    rfl
  | some x => rfl

/-- The FINAL entry is no matter of an exchange (R101). -/
theorem exchangeOutcome_final (ev : EventDesc) (l m : Lane) (time : Option Nat) (mark : Bool) :
    exchangeOutcome ev l (nextEntry m .final time mark) = none :=
  Option.bind_eq_none_iff.mpr fun _ _ => rfl

theorem appended_final (ev : EventDesc) (time : Option Nat) (mark : Bool) (l : Lane) :
    l.appended ev .final time mark = l.append (nextEntry l .final time mark) := by
  rw [Lane.appended, exchangeOutcome_final, if_neg (by simp)]
  rfl

theorem link_appended_final (n : Nat) (ev : EventDesc) (l : Lane) (time : Option Nat) (mark : Bool) (k : Link) :
    k.appended n ev l .final time mark = k.withNotice 0x44 (splitNotice n (nextEntry l .final time mark)) := by
  rw [Link.appended, exchangeOutcome_final, if_neg (by simp)]
  rfl

theorem decision_state {s : State} {l : Lane} {d : Decision} (h : s.decision l = some d) :
    d.state = .finished ∨ d.state = .review := decideFinish_state h

/-- The lane records before the FINAL entry of a resolution is appended. -/
def Lane.decided (e : EventDesc) (lag : Nat) (d : Decision) (l : Lane) : Lane :=
  { l with
    consensus := l.agreed, lagUsed := lag, candidate := l.backup e lag, source := d.source, reason := d.reason, window := none
    state := d.state }

section
variable {s : State} {n : Nat} {d : Decision} (hn : n < s.lanes.length) (hs : (s.lane n).state ≠ .swimming)
  (hd : d.state ≠ (s.lane n).state)

theorem resolveDecided_lanes : (resolveDecided n d s).lanes
    = s.lanes.modify n (Lane.decided s.event (lagEstimate s.event s.race.lags) d) := by
  rw [resolveDecided, setLaneState_lanes]
  exact (List.modify_modify_eq _ _ _ _).trans (modify_congr_lane rfl)

@[simp] theorem outer_resolveDecided : (resolveDecided n d s).outer = s.outer := by simp [resolveDecided]

@[simp] theorem resolveDecided_race : (resolveDecided n d s).race = s.race := by simp [resolveDecided]

@[simp] theorem resolveDecided_link : (resolveDecided n d s).link = s.link := by simp [resolveDecided]

@[simp] theorem resolveDecided_lamps : (resolveDecided n d s).lamps = s.lamps := by simp [resolveDecided]

include hd in
theorem rowsMarked_resolveDecided : RowsMarked [n + 1, n + 12] [n + 1, n + 12] s (resolveDecided n d s) := by
  refine (rowsMarked_setLaneState (s := s.updLane n _) ?_).of_boards rfl rfl
  by_cases hn : n < s.lanes.length
  · rw [lane_updLane_same hn]
    exact hd.symm
  · have kept : (s.updLane n fun l =>
        { l with consensus := (s.lane n).agreed, lagUsed := lagEstimate s.event s.race.lags
                 candidate := (s.lane n).backup s.event (lagEstimate s.event s.race.lags), source := d.source
                 reason := d.reason, window := none }).lane n = s.lane n := by simp [State.lane, State.updLane, hn]
    rw [kept]
    exact hd.symm

include hn hs in
theorem holds_resolveDecided : (resolveDecided n d s).board.holds = s.board.holds :=
  holds_setLaneState (by rw [lane_updLane_same hn]; exact hs)

end

/-! ### The resolution before the ranking, part by part -/

theorem withNotices_pair (k : Link) (x y : Byte × List Byte) : k.withNotices [x, y] = (k.withNotice x.1 x.2).withNotice y.1 y.2 := rfl

theorem nextEntry_decided (e : EventDesc) (lag : Nat) (d : Decision) (l : Lane) :
    nextEntry (l.decided e lag d) .final (some d.result) d.overMark
      = timedEntry (l.done + 1) .final { time := d.result, overMark := d.overMark } := rfl

section
variable {s : State} {n : Nat} {d : Decision} (hn : n < s.lanes.length)

@[simp] theorem outer_resolveStart : (resolveStart n d s).outer = s.outer := by simp [resolveStart]

theorem resolveStart_race : (resolveStart n d s).race = { s.race with
    lags := s.race.lags ++ d.sample.toList.map (fun x => { lane := n, delta := x }) } := by
  rw [resolveStart, handNotice_race, appendLag_eq]
  simp

include hn in
theorem resolveFinal_lanes : (appendSplit n .final (some d.result) d.overMark (resolveDecided n d s)).lanes
    = s.lanes.modify n (Lane.resolved s.event (lagEstimate s.event s.race.lags) d) := by
  have lanes := resolveDecided_lanes (s := s) (n := n) (d := d)
  have count : n < (resolveDecided n d s).lanes.length := by rw [lanes, List.length_modify]; exact hn
  rw [appendSplit_lanes count, lanes, List.modify_modify_eq, event_of_race resolveDecided_race]
  exact modify_congr_lane (appended_final _ _ _ _)

include hn in
theorem resolveStart_lanes : (resolveStart n d s).lanes
    = s.lanes.modify n (Lane.resolved s.event (lagEstimate s.event s.race.lags) d) := by
  rw [resolveStart, handNotice_lanes, appendLag_lanes, resolveFinal_lanes hn]

include hn in
theorem resolveStart_link (hf : ∀ x ∈ (s.lane n).splits, x.kind ≠ .final) : (resolveStart n d s).link
    = s.link.withNotices (resolutionNotices n (s.lane n) d
        ((s.lane n).resolved s.event (lagEstimate s.event s.race.lags) d)) := by
  have lanes := resolveDecided_lanes (s := s) (n := n) (d := d)
  have count : n < (resolveDecided n d s).lanes.length := by rw [lanes, List.length_modify]; exact hn
  rw [resolveStart, handNotice_eq, appendLag_link, appendSplit_link count, resolveDecided_link, link_appended_final,
    lane_of_modify lanes hn, resolvedBytes_eq hf (lane_of_modify (resolveFinal_lanes hn) hn), lane_of_modify (resolveFinal_lanes hn) hn,
    resolutionNotices, withNotices_pair, nextEntry_decided]

include hn in
theorem resolveStart_lamps (ho : (s.lane n).done + 1 = s.event.total) : (resolveStart n d s).lamps = s.lamps := by
  have lanes := resolveDecided_lanes (s := s) (n := n) (d := d)
  have count : n < (resolveDecided n d s).lanes.length := by rw [lanes, List.length_modify]; exact hn
  have done : ((resolveDecided n d s).lane n).done = (s.lane n).done := by rw [lane_of_modify lanes hn]; rfl
  rw [resolveStart, handNotice_lamps, appendLag_lamps, appendSplit_lamps count, exchangeOutcome_final, done,
    event_of_race resolveDecided_race, if_neg (by omega), alertsAfter, resolveDecided_lamps]

include hn in
theorem rowsMarked_resolveStart (hd : d.state ≠ (s.lane n).state) :
    RowsMarked [n + 1, n + 12] [n + 1, n + 12] s (resolveStart n d s) := by
  have count : n < (resolveDecided n d s).lanes.length := by rw [resolveDecided_lanes, List.length_modify]; exact hn
  have marked := (rowsMarked_resolveDecided hd).trans (rowsMarked_appendSplit count .final (some d.result) d.overMark)
  refine (marked.mono (more := [n + 1, n + 12]) (often := [n + 1, n + 12]) (by simp) (by simp)).of_board ?_
  rw [resolveStart, handNotice_board, appendLag_board]

include hn in
theorem holds_resolveStart (hs : (s.lane n).state ≠ .swimming) : (resolveStart n d s).board.holds = s.board.holds := by
  have count : n < (resolveDecided n d s).lanes.length := by rw [resolveDecided_lanes, List.length_modify]; exact hn
  rw [resolveStart, handNotice_board, appendLag_board, holds_appendSplit count _ _ _ (by simp), holds_resolveDecided hn hs]

end

/-! ## The ranking and the record check behind a change of one lane (R109, R110) -/

/-- What the recomputation of the ranking and the record check of lane `n` do. -/
structure Reranked (n : Nat) (s t : State) : Prop where
  lane : t.lane n = { s.lane n with place := (t.lane n).place, records := (t.lane n).records }
  others : ∀ m, m ≠ n → t.lane m = { s.lane m with place := (t.lane m).place }
  ranked : Ranked n s t
  race : t.race = { s.race with ranking := t.race.ranking }
  link : t.link = s.link.withNotices (placesNotice s.places t.places ++ recordNotice n s t)
  rows : RowsMarked (placeRows s t) (placeRows s t ++ [n + 1]) s t
  holds : HoldsKept s t
  lamps : t.lamps = { s.lamps with record := t.lamps.record }
  outer : t.outer = s.outer

theorem standing_withRecords (set : List Nat) (l : Lane) : (l.withRecords set).standing = l.standing := rfl

theorem standings_modify {s t : State} {n : Nat} {f : Lane → Lane} (h : t.lanes = s.lanes.modify n f)
    (hf : ∀ l, (f l).standing = l.standing) : t.standings = s.standings := by
  rw [State.standings, h, State.standings]
  refine List.ext_getElem? fun i => ?_
  rw [List.getElem?_map, List.getElem?_modify, List.getElem?_map]
  cases s.lanes[i]? with
  | none => rfl
  | some l => by_cases hi : n = i <;> simp [hi, hf]

theorem places_of_lanes {s t : State} (h : ∀ n, (t.lane n).place = (s.lane n).place) : t.places = s.places :=
  List.map_congr_left fun n _ => h n

theorem withNotices_append (k : Link) (xs ys : List (Byte × List Byte)) :
    k.withNotices (xs ++ ys) = (k.withNotices xs).withNotices ys := List.foldl_append

/-- The record set of lane `n` once its place is given. -/
def State.recordsOf (n : Nat) (s : State) : List Nat := recordSetOf s.race.slots (s.withPlaces.lane n)

theorem recordCheck_recomputeRanking (n : Nat) (s : State) : recordCheck n (recomputeRanking s) = { s.withPlaces with
    lanes := s.withPlaces.lanes.modify n (Lane.withRecords (s.recordsOf n))
    board := (s.board.markedAll (placeRows s s.withPlaces)).markedAll
      (if s.recordsOf n = (s.lane n).records then [] else [n + 1])
    link := (s.link.withNotices (placesNotice s.places s.withPlaces.places)).withNotices
      (recordChange n (s.lane n).records (s.recordsOf n))
    lamps := { s.lamps with record := recordAfter (s.lane n).records (s.recordsOf n) s } } := by
  have kept : (s.withPlaces.lane n).records = (s.lane n).records := by rw [withPlaces_lane]; rfl
  have check := recordCheck_eq n (recomputeRanking s)
  rw [recomputeRanking_eq] at check ⊢
  rw [← kept]
  exact check

theorem reranked {n : Nat} {s : State} (hn : n < s.lanes.length) : Reranked n s (recordCheck n (recomputeRanking s)) := by
  have eq := recordCheck_recomputeRanking n s
  have lanes : (recordCheck n (recomputeRanking s)).lanes = s.withPlaces.lanes.modify n (Lane.withRecords (s.recordsOf n)) := by
    rw [eq]
  have count : n < s.withPlaces.lanes.length := by simpa [State.withPlaces] using hn
  have lane : (recordCheck n (recomputeRanking s)).lane n = ((s.lane n).placedBy s.standings).withRecords (s.recordsOf n) := by
    rw [lane_of_modify lanes count, withPlaces_lane]
  have others (m : Nat) (hm : m ≠ n) : (recordCheck n (recomputeRanking s)).lane m = (s.lane m).placedBy s.standings := by
    rw [othersKept_of_modify lanes m hm, withPlaces_lane]
  have place (m : Nat) : ((recordCheck n (recomputeRanking s)).lane m).place = (s.withPlaces.lane m).place := by
    rw [withPlaces_lane]
    by_cases hm : m = n
    · rw [hm, lane]
      rfl
    · rw [others m hm]
  have standings := standings_modify (s := s.withPlaces) lanes fun l => standing_withRecords _ l
  have records : ((recordCheck n (recomputeRanking s)).lane n).records = s.recordsOf n := by rw [lane]; rfl
  have placesRight : PlacesRight (recordCheck n (recomputeRanking s)) := by
    refine (withPlaces_placesRight s).of_standings standings fun l hl => ?_
    obtain ⟨m, hm, rfl⟩ := exists_lane_of_mem hl
    have at_m : m < s.withPlaces.lanes.length := by rwa [lanes, List.length_modify] at hm
    exact ⟨s.withPlaces.lane m, mem_lanes_lane at_m, place m, lane_standing standings m⟩
  have same : placeRows s (recordCheck n (recomputeRanking s)) = placeRows s s.withPlaces := by
    simp only [placeRows, place]
  constructor
  · rw [lane]
    rfl
  · intro m hm
    rw [others m hm]
    rfl
  · constructor
    · exact placesRight
    · exact (withPlaces_rankingRight s).of_standings standings (by rw [eq])
    · intro i
      rw [records, State.recordsOf, mem_recordSetOf, lane, withPlaces_lane]
      rfl
    · rw [records, eq]
      simp only [recordAfter, eq_comm]
      rfl
  · rw [eq]
    rfl
  · rw [withNotices_append, places_of_lanes (s := s.withPlaces) place, recordNotice, records, eq]
    rfl
  · rw [same]
    have first : RowsMarked (placeRows s s.withPlaces) (placeRows s s.withPlaces) s (recomputeRanking s) :=
      rowsMarked_markedAll (by rw [recomputeRanking_eq])
    have second : RowsMarked (if s.recordsOf n = (s.lane n).records then [] else [n + 1])
        (if s.recordsOf n = (s.lane n).records then [] else [n + 1]) (recomputeRanking s) (recordCheck n (recomputeRanking s)) :=
      rowsMarked_markedAll (by rw [eq, recomputeRanking_eq])
    refine (first.trans second).mono (by simp) ?_
    split <;> simp
  · rw [HoldsKept, eq]
    simp [Board.markedAll_holds]
  · rw [eq]
  · simp

/-! ## The resolution as a whole (R89, steps 1 to 6) -/

/-- What the resolution of lane `n`, its record with all its evidence being `l`, by the decision `d` does. -/
structure ResolvedOne (n : Nat) (l : Lane) (d : Decision) (s t : State) : Prop where
  lane : t.lane n = { l.resolved s.event (lagEstimate s.event s.race.lags) d with
    place := (t.lane n).place, records := (t.lane n).records }
  others : ∀ m, m ≠ n → t.lane m = { s.lane m with place := (t.lane m).place }
  ranked : Ranked n s t
  race : t.race = { s.race with
    lags := s.race.lags ++ d.sample.toList.map (fun x => { lane := n, delta := x }), ranking := t.race.ranking }
  link : t.link = s.link.withNotices
    (resolutionNotices n l d (t.lane n) ++ placesNotice s.places t.places ++ recordNotice n s t)
  rows : RowsMarked ([n + 1, n + 12] ++ placeRows s t) ([n + 1, n + 12] ++ placeRows s t) s t

/-- A lane that can be resolved: FINISHING on its last length, without a FINAL entry (R76, R89). -/
structure Resolvable (n : Nat) (s : State) : Prop where
  count : n < s.lanes.length
  state : (s.lane n).state = .finishing
  last : (s.lane n).done + 1 = s.event.total
  open_ : ∀ x ∈ (s.lane n).splits, x.kind ≠ .final

theorem Ranked.of_before {n : Nat} {s u t : State} (h : Ranked n u t) (slots : u.race.slots = s.race.slots)
    (records : (u.lane n).records = (s.lane n).records) (lamps : u.lamps = s.lamps) (outer : u.outer = s.outer) :
    Ranked n s t where
  places := h.places
  ranking := h.ranking
  records i := by rw [h.records, slots]
  beacon := by rw [h.beacon, records, lamps, outer_tick outer, outer_options outer]

theorem resolvedOne {n : Nat} {s : State} {d : Decision} (h : Resolvable n s) (hd : s.decision (s.lane n) = some d) :
    ResolvedOne n (s.lane n) d s (resolveLane n s) ∧ HoldsKept s (resolveLane n s)
      ∧ (resolveLane n s).lamps = { s.lamps with record := (resolveLane n s).lamps.record } := by
  have lanes := resolveStart_lanes (d := d) h.count
  have count : n < (resolveStart n d s).lanes.length := by rw [lanes, List.length_modify]; exact h.count
  have re := reranked count
  rw [← resolveLane_eq hd] at re
  have start : (resolveStart n d s).lane n = (s.lane n).resolved s.event (lagEstimate s.event s.race.lags) d :=
    lane_of_modify lanes h.count
  have others := othersKept_of_modify lanes
  have lane : (resolveLane n s).lane n = { (s.lane n).resolved s.event (lagEstimate s.event s.race.lags) d with
      place := ((resolveLane n s).lane n).place, records := ((resolveLane n s).lane n).records } := by
    rw [← start]
    exact re.lane
  have places : (resolveStart n d s).places = s.places := places_of_lanes fun m => by
    by_cases hm : m = n
    · rw [hm, start]; rfl
    · rw [others m hm]
  have rows : placeRows (resolveStart n d s) (resolveLane n s) = placeRows s (resolveLane n s) := by
    unfold placeRows
    refine congrArg (List.map (· + 1)) (List.filter_congr fun m _ => ?_)
    by_cases hm : m = n
    · rw [hm, start]; rfl
    · rw [others m hm]
  have leaves : d.state ≠ (s.lane n).state := by
    rcases decision_state hd with e | e <;> simp [e, h.state]
  refine ⟨?_, re.holds.trans (holds_resolveStart h.count (by simp [h.state])), by rw [re.lamps, resolveStart_lamps h.count h.last]⟩
  constructor
  · exact lane
  · intro m hm
    rw [re.others m hm, others m hm]
  · exact re.ranked.of_before (by rw [resolveStart_race]) (by rw [start]; rfl) (resolveStart_lamps h.count h.last) outer_resolveStart
  · rw [re.race, resolveStart_race]
  · rw [re.link, resolveStart_link h.count h.open_, places, recordNotice, recordNotice, start, List.append_assoc,
      withNotices_append, withNotices_append, withNotices_append, lane]
    rfl
  · have first := rowsMarked_resolveStart (d := d) h.count leaves
    rw [← rows]
    exact (first.trans re.rows).mono (by simp) (by simp)

/-! ## The resolution with the end of the race and the watch (R89 step 7, R118, R171) -/

theorem raceEnds_congr {s t u : State} (race : t.race.state = s.race.state) (lanes : u.lanes = t.lanes) :
    raceEnds t u = raceEnds s t := by
  rw [raceEnds, raceEnds, race, lanes]

/-- The end of the race and the watch check behind a change from `s` to `t` that keeps the race state: what they do, part by
part. -/
structure EndsAndSees (s t u : State) : Prop where
  lanes : u.lanes = t.lanes
  lamps : u.lamps = t.lamps
  outer : u.outer = t.outer
  holds : HoldsKept t u
  race : u.race = { t.race with
    state := if raceEnds s t then .unofficial else t.race.state, pastLimit := t.race.pastLimit && !raceEnds s t }
  link : u.link = (if raceEnds s t then t.link.withRaceState .unofficial .running t.race.event else t.link).seen u.vector
  rows : RowsMarked (if raceEnds s t then [0] else []) (if raceEnds s t then [0] else []) t u

theorem endsAndSees {s t : State} (race : t.race.state = s.race.state) : EndsAndSees s t (watchCheck (endOfRaceCheck t)) := by
  have vector : (watchCheck (endOfRaceCheck t)).vector = (endOfRaceCheck t).vector := watchCheck_vector _
  have same : raceEnds t t = raceEnds s t := raceEnds_congr race rfl
  have ending := endOfRaceCheck_eq t
  rw [same] at ending
  cases ends : raceEnds s t with
  | true =>
    rw [ends, if_pos rfl] at ending
    constructor
    · simp
    · simp
    · simp
    · rw [HoldsKept, watchCheck_board, ending, Board.marked_holds]
    · rw [watchCheck_race, ending, ends]
      simp
    · rw [vector, watchCheck_eq, ending, ends]
      rfl
    · rw [ends]
      exact rowsMarked_marked (by rw [watchCheck_board, ending])
  | false =>
    rw [ends, if_neg (by simp)] at ending
    constructor
    · simp
    · simp
    · simp
    · rw [HoldsKept, watchCheck_board, ending]
    · rw [watchCheck_race, ending, ends]
      simp
    · rw [vector, watchCheck_eq, ending, ends]
      rfl
    · rw [ends]
      exact rowsMarked_none (by rw [watchCheck_board, ending])

theorem places_of_sameLanes {s t : State} (h : t.lanes = s.lanes) : t.places = s.places :=
  places_of_lanes fun n => by rw [lane_of_lanes h]

theorem PlacesRight.of_lanes {s t : State} (h : PlacesRight s) (lanes : t.lanes = s.lanes) : PlacesRight t := by
  rw [PlacesRight, lanes]
  exact h

theorem RankingRight.of_parts {s t : State} (h : RankingRight s) (lanes : t.lanes = s.lanes)
    (ranking : t.race.ranking = s.race.ranking) : RankingRight t := h.of_standings (by rw [State.standings, lanes]; rfl) ranking

theorem Ranked.of_after {n : Nat} {s t u : State} (h : Ranked n s t) (lanes : u.lanes = t.lanes)
    (ranking : u.race.ranking = t.race.ranking) (lamps : u.lamps = t.lamps) : Ranked n s u where
  places := h.places.of_lanes lanes
  ranking := h.ranking.of_parts lanes ranking
  records i := by rw [lane_of_lanes lanes, h.records]
  beacon := by rw [lamps, h.beacon, lane_of_lanes lanes]

theorem placeRows_of_lanes {s t u : State} (h : u.lanes = t.lanes) : placeRows s u = placeRows s t := by
  simp only [placeRows, lane_of_lanes h]

theorem ResolvedOne.resolved {n : Nat} {l : Lane} {d : Decision} {s t u : State} (h : ResolvedOne n l d s t)
    (hd : s.decision l = some d) (e : EndsAndSees s t u) : Resolved n l s u := by
  have lane := lane_of_lanes e.lanes n
  have parts : u.lane n = { l.resolved s.event (lagEstimate s.event s.race.lags) d with
      place := (u.lane n).place, records := (u.lane n).records } := by
    rw [lane]
    exact h.lane
  have state : raceEnds s u = raceEnds s t := by rw [raceEnds, e.lanes, raceEnds]
  have lags : u.race.lags = s.race.lags ++ d.sample.toList.map (fun x => { lane := n, delta := x }) := by rw [e.race, h.race]
  constructor
  · rw [parts]
    rfl
  · rw [parts]
    rfl
  · rw [parts]
    dsimp only [Lane.resolved, Lane.backup, candidateOf]
    cases l.agreed <;> rfl
  · refine ⟨d, ?_, ?_, lags, ?_⟩
    · rw [parts]
      exact decidedBy_of_decide hd (by simp [Lane.resolved, Lane.backup])
    · rw [parts]
      rfl
    · rw [state, e.link, h.link, ← lane, places_of_sameLanes e.lanes, recordNotice, recordNotice, lane]
      have event : t.race.event = s.race.event := by rw [h.race]
      rw [event]
  · exact h.ranked.of_after e.lanes (by rw [e.race]) e.lamps
  · intro m hm
    rw [lane_of_lanes e.lanes, h.others m hm]
  · rw [e.race, state, h.race]
  · rw [state, placeRows_of_lanes e.lanes]
    exact h.rows.trans e.rows

/-- The resolution of a lane with everything behind it, as the statements tell it. -/
theorem resolved_whole {n : Nat} {s : State} (h : Resolvable n s) (evidence : (s.lane n).pad ≠ none ∨ (s.lane n).presses ≠ []) :
    let t := watchCheck (endOfRaceCheck (resolveLane n s))
    Resolved n (s.lane n) s t ∧ HoldsKept s t ∧ t.lamps = { s.lamps with record := t.lamps.record } ∧ t.outer = s.outer := by
  obtain ⟨d, hd⟩ := exists_decision s.event evidence ((s.lane n).backup s.event (lagEstimate s.event s.race.lags))
  obtain ⟨one, holds, lamps⟩ := resolvedOne h hd
  have behind := endsAndSees (s := s) (t := resolveLane n s) (by rw [one.race])
  exact ⟨one.resolved hd behind, behind.holds.trans holds, by rw [behind.lamps]; exact lamps, behind.outer.trans (by simp)⟩

/-- Settles O17. -/
theorem windowExpiryResolvesTheLane : Obligations.WindowExpiryResolvesTheLane := by
  intro s n w hn count state window expired evidence last final
  have resolvable : Resolvable n s := ⟨by omega, state, last, final⟩
  obtain ⟨resolved, holds, lamps, outer⟩ := resolved_whole resolvable evidence
  have due : windowExpired n s = true := (windowExpired_iff n s).mpr ⟨state, w, window, expired⟩
  refine ⟨watchCheck (endOfRaceCheck (resolveLane n s)), ?_, resolved, holds, ?_, changesOnly_of_outer outer⟩
  · change execBackupWindowExpiry n s = _
    rw [execBackupWindowExpiry, if_neg (show ¬ Config.laneCount ≤ n from Nat.not_le.mpr hn), if_pos due]
  · rw [lamps]

end Sys2Proof.Machine
end

section
/-!
Touches and presses of a lane under way (R61 to R67, R75): the capture events that the lines of a lane bring, the entries that a
touch appends, and what is stray.
-/
namespace Sys2Proof.Machine

/-! ## The capture events of a lane's lines (R9 to R14) -/

theorem lineClass_pad {k : Nat} (start : k ≠ 60) (pad : k % 6 < 2) : lineClass k = .pad := by
  rw [lineClass, if_neg start, if_pos pad]

theorem lineClass_button {k : Nat} (start : k ≠ 60) (pad : ¬ k % 6 < 2) (button : k % 6 < 5) : lineClass k = .button := by
  rw [lineClass, if_neg start, if_neg pad, if_pos button]

theorem lineClass_block {k : Nat} (start : k ≠ 60) (pad : ¬ k % 6 < 2) (button : ¬ k % 6 < 5) : lineClass k = .block := by
  rw [lineClass, if_neg start, if_neg pad, if_neg button]

theorem padLine_far (n : Nat) : padLine n .far = 6 * n := rfl

theorem padLine_near (n : Nat) : padLine n .near = 6 * n + 1 := rfl

theorem padLine_class {n : Nat} (hn : n < 10) (at0 : PoolEnd) : lineClass (padLine n at0) = .pad := by
  cases at0 with
  | far => exact lineClass_pad (by rw [padLine_far]; omega) (by rw [padLine_far]; omega)
  | near => exact lineClass_pad (by rw [padLine_near]; omega) (by rw [padLine_near]; omega)

theorem padLine_lane (n : Nat) (at0 : PoolEnd) : lineLane (padLine n at0) = n := by
  unfold lineLane
  cases at0 with
  | far => rw [padLine_far]; omega
  | near => rw [padLine_near]; omega

theorem padLine_end (n : Nat) (at0 : PoolEnd) : lineEnd (padLine n at0) = at0 := by
  unfold lineEnd
  cases at0 with
  | far => exact if_pos (by rw [padLine_far]; omega)
  | near => exact if_neg (by rw [padLine_near]; omega)

theorem delivered_touch {n : Nat} {at0 : PoolEnd} {e : PendingEdge} {s : State} (hn : n < 10)
    (h : Delivers (padLine n at0) e s) :
    delivered (padLine n at0) (s.line (padLine n at0)) e s.options.trigger = some (.padMake n at0 e.lead) := by
  unfold Delivers at h
  rw [padLine_class hn] at h
  obtain ⟨unmasked, normal, active, ready⟩ := h
  simp [delivered, captureOf, padLine_class hn, padLine_lane, padLine_end, unmasked, normal, active, ready]

theorem delivered_press {n b : Nat} {e : PendingEdge} {s : State} (_ : n < 10) (hb : 1 ≤ b ∧ b ≤ 3)
    (h : Delivers (buttonLine n b) e s) :
    delivered (buttonLine n b) (s.line (buttonLine n b)) e s.options.trigger = some (.buttonPress n b e.lead) := by
  have line : buttonLine n b = 6 * n + 1 + b := rfl
  have kind : lineClass (buttonLine n b) = .button :=
    lineClass_button (by rw [line]; omega) (by rw [line]; omega) (by rw [line]; omega)
  have lane : lineLane (buttonLine n b) = n := by rw [lineLane, line]; omega
  have number : lineButton (buttonLine n b) = b := by rw [lineButton, line]; omega
  unfold Delivers at h
  rw [kind] at h
  obtain ⟨unmasked, normal, active, ready⟩ := h
  simp [delivered, captureOf, kind, lane, number, unmasked, normal, active, ready]

/-- The capture event of a block edge (R14). -/
def blockEvent (n : Nat) (e : PendingEdge) : CaptureEvent := if e.active then .blockLoad n e.lead else .blockRelease n e.lead

theorem delivered_block {n : Nat} {e : PendingEdge} {s : State} (_ : n < 10) (h : Delivers (blockLine n) e s) :
    delivered (blockLine n) (s.line (blockLine n)) e s.options.trigger = some (blockEvent n e) := by
  have line : blockLine n = 6 * n + 5 := rfl
  have kind : lineClass (blockLine n) = .block :=
    lineClass_block (by rw [line]; omega) (by rw [line]; omega) (by rw [line]; omega)
  have lane : lineLane (blockLine n) = n := by rw [lineLane, line]; omega
  unfold Delivers at h
  obtain ⟨unmasked, normal, _⟩ := h
  cases active : e.active <;> simp [delivered, captureOf, kind, lane, unmasked, normal, active, blockEvent]

/-- A delivered edge is taken as its capture event (R9). -/
theorem exec_delivered {n : Nat} {high : Bool} {e : PendingEdge} {s : State} {c : CaptureEvent} (h : Confirms n high e s)
    (hd : delivered n (s.line n) e s.options.trigger = some c) :
    exec (.edgeConfirmed n high) s = .next (takeCapture c (edgeConfirmedState n high e s)) := by
  have sampled : delivered n ((s.sampleLine n high).line n) e (s.sampleLine n high).options.trigger = some c := hd
  rw [exec_edgeConfirmed h, confirmEdge, sampled]
  rfl

theorem exec_touch {n : Nat} {at0 : PoolEnd} {high : Bool} {e : PendingEdge} {s : State} (h : Touch n at0 high e s) :
    exec (.edgeConfirmed (padLine n at0) high) s
      = .next (watchCheck (takePadMake n at0 e.lead (edgeConfirmedState (padLine n at0) high e s))) :=
  exec_delivered h.confirms (delivered_touch h.lane h.delivers)

theorem exec_press {n b : Nat} {high : Bool} {e : PendingEdge} {s : State} (h : Press n b high e s) :
    exec (.edgeConfirmed (buttonLine n b) high) s
      = .next (watchCheck (takeButtonPress n b e.lead (edgeConfirmedState (buttonLine n b) high e s))) :=
  exec_delivered h.confirms (delivered_press h.lane h.button h.delivers)

theorem exec_block {n : Nat} {high : Bool} {e : PendingEdge} {s : State} (h : BlockEdge n high e s) :
    exec (.edgeConfirmed (blockLine n) high) s
      = .next (takeCapture (blockEvent n e) (edgeConfirmedState (blockLine n) high e s)) :=
  exec_delivered h.confirms (delivered_block h.lane h.delivers)

/-! ## OVERRANGE (R55) -/

/-- The lane with the over-range mark of a touch or press raised (R55). -/
def Lane.overmarked (mark : Bool) (l : Lane) : Lane := { l with overrange := l.overrange || mark }

theorem raiseOverrange_eq (n : Nat) (mark : Bool) (s : State) : raiseOverrange n mark s = s.updLane n (Lane.overmarked mark) := by
  cases mark with
  | true =>
    refine congrArg (fun k => { s with lanes := k }) (modify_congr_lane ?_)
    simp [Lane.overmarked]
  | false =>
    have kept : s.lanes.modify n (Lane.overmarked false) = s.lanes := modify_self_lane (by simp [Lane.overmarked])
    exact congrArg (fun k => { s with lanes := k }) kept.symm

theorem watchCurrent_of_gist {s t : State} (h : t.gist = s.gist) (hs : WatchCurrent s) : WatchCurrent t :=
  (sees_of_gist h).watchCurrent hs

/-! ## Exchange lengths (R95) -/

theorem exchangeAt_eq_some_iff {e : EventDesc} {k j : Nat} : exchangeAt e k = some j
    ↔ e.kind = .relay ∧ 0 < e.total / 4 ∧ 1 ≤ j ∧ j ≤ 3 ∧ k = j * (e.total / 4) := by
  unfold exchangeAt
  by_cases relay : e.kind = .relay ∧ 0 < e.total / 4
  · rw [if_pos relay]
    obtain ⟨kind, leg⟩ := relay
    simp only [kind, leg, true_and]
    generalize e.total / 4 = q at leg
    constructor
    · intro h
      split at h
      · next hk => cases h; omega
      · split at h
        · next hk => cases h; omega
        · split at h
          · next hk => cases h; omega
          · cases h
    · rintro ⟨low, high, rfl⟩
      obtain rfl | rfl | rfl : j = 1 ∨ j = 2 ∨ j = 3 := by omega
      · rw [if_pos (by omega)]
      · rw [if_neg (by omega), if_pos rfl]
      · rw [if_neg (by omega), if_neg (by omega), if_pos rfl]
  · rw [if_neg relay]
    constructor
    · intro h
      cases h
    · rintro ⟨kind, leg, _⟩
      exact absurd ⟨kind, leg⟩ relay

theorem exchangeAt_noExchange {e : EventDesc} {k : Nat} (h : NoExchange e k) : exchangeAt e k = none := by
  refine Option.eq_none_iff_forall_ne_some.mpr fun j hj => ?_
  obtain ⟨kind, _, _, _, rfl⟩ := exchangeAt_eq_some_iff.mp hj
  rcases h with individual | odd
  · rw [individual] at kind
    cases kind
  · exact odd (Nat.mul_mod_left _ _)

theorem exchangeOutcome_none {e : EventDesc} {l : Lane} {x : Split} (h : exchangeAt e x.length = none) :
    exchangeOutcome e l x = none := by
  rw [exchangeOutcome, h]
  rfl

/-- Appended at an exchange length, a TIMED entry judges the exchange of its takeoff. -/
theorem exchangeOutcome_timed {e : EventDesc} {l : Lane} {k j time : Nat} {mark : Bool} (h : exchangeAt e (l.done + 1) = some j)
    (hk : k = l.done + 1) : exchangeOutcome e l (timedEntry k .timed { time := time, overMark := mark })
      = (l.exchange j).takeoff.map fun tau => (j, judgement e tau time) := by
  subst hk
  rw [exchangeOutcome, timedEntry, h]
  rfl

/-! ## The append behind an event, with the FINAL_LENGTH input (R68, R70) -/

/-- What an append and the update of the FINAL_LENGTH input behind it do. -/
structure AppendDone (n : Nat) (k : SplitKind) (time : Option Nat) (mark : Bool) (s t : State) : Prop where
  lanes : t.lanes = s.lanes.modify n (Lane.appended s.event k time mark)
  link : t.link = s.link.appended n s.event (s.lane n) k time mark
  rows : RowsMarked [n + 1, n + 12] [n + 1, n + 12] s t
  holds : k ≠ .timed → HoldsKept s t
  hold : k = .timed → (s.lane n).state = .swimming → n < s.board.holds.length → HoldSet n (holdStarted s) s t
  lamps : t.lamps = { s.lamps with
    takeoffAlert := alertsAfter n (exchangeOutcome s.event (s.lane n) (nextEntry (s.lane n) k time mark)) s
    finalLength := s.lamps.finalLength.modify n (LampTimer.setInput s.tick s.options.offDelay
      (decide (8 ≤ s.event.total ∧ (s.lane n).state = .swimming ∧ (s.lane n).done + 2 = s.event.total)))
    bell := if 8 ≤ s.event.total ∧ (s.lane n).done + 3 = s.event.total then s.lamps.bell.pulse s.tick s.options.bellWidth
      else s.lamps.bell }
  race : t.race = s.race
  outer : t.outer = s.outer
  gist : t.gist = s.gist

theorem appended_state (ev : EventDesc) (k : SplitKind) (time : Option Nat) (mark : Bool) (l : Lane) :
    (l.appended ev k time mark).state = l.state :=
  appended_keeps Lane.state setExchange_state (fun _ => rfl) ev k time mark l

theorem appendDone {n : Nat} {s : State} (hn : n < s.lanes.length) (k : SplitKind) (time : Option Nat) (mark : Bool) :
    AppendDone n k time mark s (syncFinalLength n (appendSplit n k time mark s)) := by
  have outer := outer_appendSplit n k time mark s
  constructor
  · rw [syncFinalLength_lanes, appendSplit_lanes hn]
  · rw [syncFinalLength_link, appendSplit_link hn]
  · exact (rowsMarked_appendSplit hn k time mark).of_board (syncFinalLength_board n _)
  · intro untimed
    rw [HoldsKept, syncFinalLength_board, holds_appendSplit hn k time mark fun h => untimed h.1]
  · rintro rfl swimming holds
    obtain ⟨mine, others⟩ := holdSet_appendSplit hn time mark swimming holds
    have same : (syncFinalLength n (appendSplit n .timed time mark s)).board.holds = (appendSplit n .timed time mark s).board.holds := by
      rw [syncFinalLength_board]
    exact ⟨(hold_of_holds same n).trans mine, fun m hm => (hold_of_holds same m).trans (others m hm)⟩
  · rw [syncFinalLength_eq]
    simp only [appendSplit_lamps hn, outer_tick outer, outer_options outer, event_of_race (appendSplit_race n k time mark s),
      appendSplit_lane hn, onFinalLength, appended_state, Lane.appended_done, Nat.add_assoc]
  · simp
  · simp
  · simp

/-! ## The class of a touch (R62) -/

section
variable {ev : EventDesc} {l : Lane} {at0 : PoolEnd} {time : Nat} (timed : at0 = .far → l.farTiming = .fitted)
include timed

theorem not_stray_end : ¬ (at0 = .far ∧ l.farTiming = .untimed) := by
  rintro ⟨far, untimed⟩
  rw [timed far] at untimed
  cases untimed

theorem classify_ordinary (hend : at0 = endOf (l.done + 1)) (more : l.done + 1 < ev.total) (limit : lengthLimit ev l 1 ≤ time) :
    classifyTouch ev l at0 time = .ordinary := by
  rw [classifyTouch, if_neg (not_stray_end timed), if_pos ⟨hend, more, decide_eq_true limit⟩]

theorem classify_finish (hend : at0 = endOf (l.done + 1)) (last : l.done + 1 = ev.total) (limit : lengthLimit ev l 1 ≤ time) :
    classifyTouch ev l at0 time = .finish := by
  rw [classifyTouch, if_neg (not_stray_end timed), if_neg fun h => absurd h.2.1 (by omega), if_pos ⟨hend, last, decide_eq_true limit⟩]

theorem classify_missedTurn (hend : at0 ≠ endOf (l.done + 1)) (more : l.done + 2 ≤ ev.total) (limit : lengthLimit ev l 2 ≤ time) :
    classifyTouch ev l at0 time = .missedTurn := by
  rw [classifyTouch, if_neg (not_stray_end timed), if_neg fun h => hend h.1, if_neg fun h => hend h.1,
    if_pos ⟨hend, more, decide_eq_true limit⟩]

end

theorem classify_stray {ev : EventDesc} {l : Lane} {at0 : PoolEnd} {time : Nat}
    (h : (at0 = .far ∧ l.farTiming = .untimed)
      ∨ (at0 = endOf (l.done + 1) ∧ (time < lengthLimit ev l 1 ∨ ev.total < l.done + 1))
      ∨ (at0 ≠ endOf (l.done + 1) ∧ (time < lengthLimit ev l 2 ∨ ev.total < l.done + 2))) :
    classifyTouch ev l at0 time = .stray := by
  unfold classifyTouch
  by_cases untimed : at0 = .far ∧ l.farTiming = .untimed
  · exact if_pos untimed
  · rw [if_neg untimed]
    rcases (h.resolve_left untimed) with ⟨hend, short⟩ | ⟨hend, short⟩
    · have early (h : passes ev l 1 time = true) : lengthLimit ev l 1 ≤ time := of_decide_eq_true h
      rw [if_neg fun ⟨_, more, pass⟩ => by have := early pass; omega, if_neg fun ⟨_, last, pass⟩ => by have := early pass; omega,
        if_neg fun ⟨other, _⟩ => other hend]
    · have early (h : passes ev l 2 time = true) : lengthLimit ev l 2 ≤ time := of_decide_eq_true h
      rw [if_neg fun ⟨same, _⟩ => hend same, if_neg fun ⟨same, _⟩ => hend same,
        if_neg fun ⟨_, more, pass⟩ => by have := early pass; omega]

/-! ## A touch or a press by the lane's state (R61) -/

section
variable {n : Nat} {s : State}

theorem takePadMake_swimming (hs : (s.lane n).state = .swimming) (at0 : PoolEnd) (e : Tick) : takePadMake n at0 e s
    = syncFinalLength n (touchSwimming n at0 e (s.raceTime e) (s.updLane n (Lane.overmarked (s.raceTime e).overMark))) := by
  rw [← raiseOverrange_eq, takePadMake, hs]

theorem takePadMake_finishing (hs : (s.lane n).state = .finishing) (at0 : PoolEnd) (e : Tick) : takePadMake n at0 e s
    = touchFinishing n at0 (s.raceTime e) (s.updLane n (Lane.overmarked (s.raceTime e).overMark)) := by
  rw [← raiseOverrange_eq, takePadMake, hs]

theorem takePadMake_idle (hs : (s.lane n).state ≠ .swimming) (hf : (s.lane n).state ≠ .finishing) (at0 : PoolEnd) (e : Tick) :
    takePadMake n at0 e s = s := by
  unfold takePadMake
  cases state : (s.lane n).state <;> simp_all

theorem takeButtonPress_swimming (hs : (s.lane n).state = .swimming) (b : Nat) (e : Tick) : takeButtonPress n b e s
    = syncFinalLength n (pressSwimming n b e (s.raceTime e) (s.updLane n (Lane.overmarked (s.raceTime e).overMark))) := by
  rw [← raiseOverrange_eq, takeButtonPress, hs]

theorem takeButtonPress_finishing (hs : (s.lane n).state = .finishing) (b : Nat) (e : Tick) : takeButtonPress n b e s
    = pressFinishing n b (s.raceTime e) (s.updLane n (Lane.overmarked (s.raceTime e).overMark)) := by
  rw [← raiseOverrange_eq, takeButtonPress, hs]

theorem takeButtonPress_idle (hs : (s.lane n).state ≠ .swimming) (hf : (s.lane n).state ≠ .finishing) (b : Nat) (e : Tick) :
    takeButtonPress n b e s = s := by
  unfold takeButtonPress
  cases state : (s.lane n).state <;> simp_all

end

theorem syncFinalLength_same {n : Nat} {s : State}
    (h : s.lamps.finalLength[n]?.map (·.input) = some (onFinalLength s.event (s.lane n))) : syncFinalLength n s = s := by
  have kept : s.lamps.finalLength.modify n (LampTimer.setInput s.tick s.options.offDelay (onFinalLength s.event (s.lane n)))
      = s.lamps.finalLength := by
    refine List.ext_getElem? fun i => ?_
    rw [List.getElem?_modify]
    by_cases hi : n = i
    · subst hi
      obtain ⟨x, at_n, input⟩ := Option.map_eq_some_iff.mp h
      rw [at_n]
      simp [LampTimer.setInput, input]
    · simp [hi]
  rw [syncFinalLength_eq, kept]

/-- With no state code changed, a current watch is not answered. -/
theorem watchCheck_of_gist {s t : State} (h : t.gist = s.gist) (hs : WatchCurrent s) : watchCheck t = t :=
  watchCheck_of_watchCurrent (watchCurrent_of_gist h hs)

theorem gist_overmarked (n : Nat) (mark : Bool) (s : State) : (s.updLane n (Lane.overmarked mark)).gist = s.gist := by
  rw [← raiseOverrange_eq, gist_raiseOverrange]

/-! ## What a touch or a press does, by its class -/

section
variable {n : Nat} {s : State} {at0 : PoolEnd} {ev : Evidence}

theorem touchSwimming_stray (h : classifyTouch s.event (s.lane n) at0 ev.time = .stray) (e : Tick) :
    touchSwimming n at0 e ev s = s := by
  rw [touchSwimming, h]

theorem touchSwimming_ordinary (h : classifyTouch s.event (s.lane n) at0 ev.time = .ordinary) (e : Tick) :
    touchSwimming n at0 e ev s = appendSplit n .timed (some ev.time) ev.overMark s := by
  rw [touchSwimming, h]

theorem touchSwimming_finish (h : classifyTouch s.event (s.lane n) at0 ev.time = .finish) (e : Tick) :
    touchSwimming n at0 e ev s = openFinish n e ev none s := by
  rw [touchSwimming, h]

theorem touchSwimming_missedTurn (h : classifyTouch s.event (s.lane n) at0 ev.time = .missedTurn) (e : Tick) :
    touchSwimming n at0 e ev s
      = if (s.lane n).done + 2 < s.event.total then
          appendSplit n .timed (some ev.time) ev.overMark
            (appendSplit n (missingKind (s.lane n) ((s.lane n).done + 1)) none false s)
        else openFinish n e ev none (appendSplit n (missingKind (s.lane n) ((s.lane n).done + 1)) none false s) := by
  rw [touchSwimming, h]

theorem touchFinishing_ignored (h : (s.lane n).pad ≠ none ∨ (at0 = .far ∧ (s.lane n).farTiming = .untimed)
    ∨ at0 ≠ endOf s.event.total ∨ ev.time < lengthLimit s.event (s.lane n) 1) : touchFinishing n at0 ev s = s := by
  refine if_pos ?_
  rw [Option.isSome_iff_ne_none, passes, decide_eq_false_iff_not, Nat.not_le]
  exact h

theorem pressSwimming_stray {b : Nat} (e : Tick) (h : s.event.buttons < b
    ∨ ((s.lane n).done + 1 ≠ s.event.total ∧ (s.lane n).done + 2 ≠ s.event.total)
    ∨ ((s.lane n).done + 1 = s.event.total ∧ ev.time < lengthLimit s.event (s.lane n) 1)
    ∨ ((s.lane n).done + 2 = s.event.total ∧ ev.time < lengthLimit s.event (s.lane n) 2)) :
    pressSwimming n b e ev s = s := by
  unfold pressSwimming
  have pass (k : Nat) : passes s.event (s.lane n) k ev.time = true ↔ lengthLimit s.event (s.lane n) k ≤ ev.time := decide_eq_true_iff
  dsimp only
  simp only [pass]
  by_cases unused : s.event.buttons < b
  · exact if_pos unused
  · rw [if_neg unused, if_neg (by omega), if_neg (by omega)]

theorem pressFinishing_ignored {b : Nat} (h : s.event.buttons < b ∨ (s.lane n).press b ≠ none) : pressFinishing n b ev s = s := by
  refine if_pos ?_
  rw [Option.isSome_iff_ne_none]
  exact h

end

/-! ## Stray touches and presses (R67, R75) -/

section
variable {line n : Nat} {high : Bool} {e : PendingEdge} {s : State} (hn : n < s.lanes.length) (h : Confirms line high e s)

/-- The state in which an edge has been confirmed and OVERRANGE of its lane raised by the mark `mark` (R55). -/
def edgeMarked (line n : Nat) (high : Bool) (e : PendingEdge) (mark : Bool) (s : State) : State :=
  (edgeConfirmedState line high e s).updLane n (Lane.overmarked mark)

include hn in
theorem edgeMarked_lane (mark : Bool) : (edgeMarked line n high e mark s).lane n = (s.lane n).overmarked mark :=
  lane_updLane_same (s := edgeConfirmedState line high e s) hn _

theorem edgeMarked_others (mark : Bool) : OtherLanesKept n s (edgeMarked line n high e mark s) :=
  fun _ hm => lane_updLane_other hm _ (edgeConfirmedState line high e s)

theorem watchCurrent_edgeMarked (current : WatchCurrent s) (mark : Bool) : WatchCurrent (edgeMarked line n high e mark s) :=
  watchCurrent_of_gist (gist_overmarked n mark (edgeConfirmedState line high e s)) current

include h in
theorem edgeTaken_edgeMarked (mark : Bool) : EdgeTaken line high e [.lanes] s (edgeMarked line n high e mark s) := by
  have changed : ChangesOnly [.lanes] (edgeConfirmedState line high e s) (edgeMarked line n high e mark s) := fun b hb => by
    cases b <;> simp_all [Block.same, edgeMarked, State.updLane]
  exact (edgeTaken_edgeConfirmedState h).andThen changed (by simp) (by simp)

include hn h in
/-- An event that raises OVERRANGE at most. -/
theorem raises_overrange {c : Instr} {t : State} {mark : Bool} (current : WatchCurrent s) (hc : exec c s = .next (watchCheck t))
    (ht : t = edgeMarked line n high e mark s) :
    ∃ t, exec c s = .next t ∧ EdgeTaken line high e [.lanes] s t ∧ OtherLanesKept n s t
      ∧ t.lane n = { s.lane n with overrange := (s.lane n).overrange || mark } := by
  subst ht
  rw [watchCheck_of_watchCurrent (watchCurrent_edgeMarked current mark)] at hc
  exact ⟨_, hc, edgeTaken_edgeMarked h mark, edgeMarked_others mark, edgeMarked_lane hn mark⟩

include hn in
/-- The FINAL_LENGTH input is as a lane's OVERRANGE leaves it (R70). -/
theorem syncFinalLength_edgeMarked (mark : Bool) (swimming : (s.lane n).state = .swimming)
    (input : s.lamps.finalLength[n]?.map (·.input) = some (decide (8 ≤ s.event.total ∧ (s.lane n).done + 1 = s.event.total))) :
    syncFinalLength n (edgeMarked line n high e mark s) = edgeMarked line n high e mark s := by
  refine syncFinalLength_same ?_
  have state : ((s.lane n).overmarked mark).state = .swimming := swimming
  rw [edgeMarked_lane hn, onFinalLength, state]
  simp only [true_and]
  exact input

end

/-! ## A state in which an edge has been confirmed, as a base for what follows -/

/-- Line records, pins and lane records apart, nothing has changed; no mask has. -/
structure SameBase (s u : State) : Prop where
  race : u.race = s.race
  board : u.board = s.board
  lamps : u.lamps = s.lamps
  link : u.link = s.link
  tick : u.tick = s.tick
  options : u.options = s.options
  masked : ∀ m, (u.line m).masked = (s.line m).masked

theorem sameBase_edgeMarked {line : Nat} {high : Bool} {e : PendingEdge} {s : State} (h : Confirms line high e s) (n : Nat)
    (mark : Bool) : SameBase s (edgeMarked line n high e mark s) := by
  obtain ⟨confirmed, others, _⟩ := edgeTaken_edgeConfirmedState h
  refine ⟨rfl, rfl, rfl, rfl, rfl, rfl, fun m => ?_⟩
  have line_ : (edgeMarked line n high e mark s).line m = (edgeConfirmedState line high e s).line m := rfl
  by_cases hm : m = line
  · rw [line_, hm, confirmed.masked]
  · rw [line_, others m hm]

section
variable {s u : State} (h : SameBase s u)
include h

theorem SameBase.event : u.event = s.event := event_of_race h.race

theorem SameBase.holdStarted : Machine.holdStarted u = Machine.holdStarted s := by
  rw [Machine.holdStarted, h.options, h.tick, Machine.holdStarted]

theorem SameBase.alerts (n : Nat) (o : Option (Nat × Exchange)) : alertsAfter n o u = alertsAfter n o s :=
  alertsAfter_congr (congrArg Lamps.takeoffAlert h.lamps) h.tick h.options

theorem SameBase.rows {must may : List Nat} {t : State} (hr : RowsMarked must may u t) : RowsMarked must may s t :=
  hr.of_boards (by rw [h.board]) rfl

theorem SameBase.holdSet {n : Nat} {x : Option Timer} {t : State} (hs : HoldSet n x u t) : HoldSet n x s t :=
  ⟨hs.1, fun m hm => (hs.2 m hm).trans (hold_of_holds (by rw [h.board]) m)⟩

end

/-- Settles O14. -/
theorem strayTouchesAndPressesChangeNothing : Obligations.StrayTouchesAndPressesChangeNothing := by
  constructor
  · intro s n at0 high e h current l ev
    have hn : n < s.lanes.length := by rw [h.lanes]; exact h.lane
    refine ⟨fun ⟨notSwimming, notFinishing⟩ => ?_, fun swimming stray input => ?_, fun finishing stray => ?_⟩
    · have current' : WatchCurrent (edgeConfirmedState (padLine n at0) high e s) := current
      refine ⟨_, exec_touch h, ?_⟩
      rw [takePadMake_idle (s := edgeConfirmedState (padLine n at0) high e s) notSwimming notFinishing,
        watchCheck_of_watchCurrent current']
      exact edgeTaken_edgeConfirmedState h.confirms
    · refine raises_overrange hn h.confirms current (exec_touch h) ?_
      refine (takePadMake_swimming (s := edgeConfirmedState (padLine n at0) high e s) swimming at0 e.lead).trans ?_
      refine (congrArg (syncFinalLength n) (touchSwimming_stray ?_ e.lead)).trans (syncFinalLength_edgeMarked hn _ swimming input)
      exact (congrArg (classifyTouch s.event · at0 ev.time) (edgeMarked_lane hn ev.overMark)).trans (classify_stray stray)
    · refine raises_overrange hn h.confirms current (exec_touch h) ?_
      refine (takePadMake_finishing (s := edgeConfirmedState (padLine n at0) high e s) finishing at0 e.lead).trans ?_
      refine touchFinishing_ignored (s := edgeMarked (padLine n at0) n high e ev.overMark s) ?_
      rw [edgeMarked_lane hn]
      exact stray
  · intro s n b high e h current l ev
    have hn : n < s.lanes.length := by rw [h.lanes]; exact h.lane
    refine ⟨fun ⟨notSwimming, notFinishing⟩ => ?_, fun swimming stray input => ?_, fun finishing stray => ?_⟩
    · have current' : WatchCurrent (edgeConfirmedState (buttonLine n b) high e s) := current
      refine ⟨_, exec_press h, ?_⟩
      rw [takeButtonPress_idle (s := edgeConfirmedState (buttonLine n b) high e s) notSwimming notFinishing,
        watchCheck_of_watchCurrent current']
      exact edgeTaken_edgeConfirmedState h.confirms
    · refine raises_overrange hn h.confirms current (exec_press h) ?_
      refine (takeButtonPress_swimming (s := edgeConfirmedState (buttonLine n b) high e s) swimming b e.lead).trans ?_
      refine (congrArg (syncFinalLength n) (pressSwimming_stray (s := edgeMarked (buttonLine n b) n high e ev.overMark s)
        e.lead ?_)).trans (syncFinalLength_edgeMarked hn _ swimming input)
      rw [edgeMarked_lane hn]
      exact stray
    · refine raises_overrange hn h.confirms current (exec_press h) ?_
      refine (takeButtonPress_finishing (s := edgeConfirmedState (buttonLine n b) high e s) finishing b e.lead).trans ?_
      refine pressFinishing_ignored (s := edgeMarked (buttonLine n b) n high e ev.overMark s) ?_
      rw [edgeMarked_lane hn]
      exact stray

end Sys2Proof.Machine
end

section
/-!
Touches that are counted on a lane that swims on (R63, R65, R66, R68 to R70, R101 to R103): an ordinary touch, a touch at an
exchange length, and a touch at the other end after a missed turn.
-/
namespace Sys2Proof.Machine

/-- The parts that an append reaches. -/
theorem changesOnly_append {s t : State} (race : t.race = s.race) (outer : t.outer = s.outer) :
    ChangesOnly [.lanes, .board, .lamps, .link] s t := by
  intro b hb
  by_cases hr : b = .race
  · subst hr
    exact race
  · exact changesOnly_of_outer outer b (by simp_all [racePartsOf])

/-- An ordinary touch, whatever the exchange at its length (R63, R68). -/
theorem touch_ordinary {n : Nat} {at0 : PoolEnd} {high : Bool} {e : PendingEdge} {s : State} (h : Touch n at0 high e s)
    (current : WatchCurrent s) (swimming : (s.lane n).state = .swimming) (timed : at0 = .far → (s.lane n).farTiming = .fitted)
    (hend : at0 = endOf ((s.lane n).done + 1)) (more : (s.lane n).done + 1 < s.event.total)
    (limit : lengthLimit s.event (s.lane n) 1 ≤ (s.raceTime e.lead).time) :
    let ev := s.raceTime e.lead
    let l := s.lane n
    ∃ t, exec (.edgeConfirmed (padLine n at0) high) s = .next t
      ∧ EdgeTaken (padLine n at0) high e [.lanes, .board, .lamps, .link] s t ∧ OtherLanesKept n s t
      ∧ t.lane n = (l.overmarked ev.overMark).appended s.event .timed (some ev.time) ev.overMark
      ∧ t.link = s.link.appended n s.event l .timed (some ev.time) ev.overMark
      ∧ RowsMarked [n + 1, n + 12] [n + 1, n + 12] s t
      ∧ (s.board.holds.length = 10 → HoldSet n (holdStarted s) s t)
      ∧ t.lamps = { s.lamps with
          takeoffAlert := alertsAfter n (exchangeOutcome s.event l (timedEntry (l.done + 1) .timed ev)) s
          finalLength := s.lamps.finalLength.modify n (LampTimer.setInput s.tick s.options.offDelay
            (decide (8 ≤ s.event.total ∧ l.done + 2 = s.event.total)))
          bell := if 8 ≤ s.event.total ∧ l.done + 3 = s.event.total then s.lamps.bell.pulse s.tick s.options.bellWidth
            else s.lamps.bell } := by
  intro ev l
  have hn : n < s.lanes.length := by rw [h.lanes]; exact h.lane
  have marked := edgeMarked_lane (line := padLine n at0) (high := high) (e := e) hn ev.overMark
  have hnv : n < (edgeMarked (padLine n at0) n high e ev.overMark s).lanes.length := by
    simpa [edgeMarked, State.updLane, edgeConfirmedState] using hn
  have base := sameBase_edgeMarked h.confirms n ev.overMark
  have done := appendDone hnv .timed (some ev.time) ev.overMark
  have same : takePadMake n at0 e.lead (edgeConfirmedState (padLine n at0) high e s)
      = syncFinalLength n (appendSplit n .timed (some ev.time) ev.overMark (edgeMarked (padLine n at0) n high e ev.overMark s)) := by
    refine (takePadMake_swimming (s := edgeConfirmedState (padLine n at0) high e s) swimming at0 e.lead).trans ?_
    refine congrArg (syncFinalLength n) (touchSwimming_ordinary ?_ e.lead)
    exact (congrArg (classifyTouch s.event · at0 ev.time) marked).trans (classify_ordinary timed hend more limit)
  have taken := exec_touch h
  rw [same, watchCheck_of_gist done.gist (watchCurrent_edgeMarked current _)] at taken
  have outcome : exchangeOutcome s.event (l.overmarked ev.overMark) = exchangeOutcome s.event l :=
    funext fun x => exchangeOutcome_congr (fun _ => by rfl) x
  have state : (l.overmarked ev.overMark).state = .swimming := swimming
  refine ⟨_, taken, ?_, ?_, ?_, ?_, ?_, fun holds => ?_, ?_⟩
  · exact (edgeTaken_edgeConfirmedState h.confirms).andThen (changesOnly_append done.race (done.outer.trans rfl)) (by simp) (by simp)
  · intro m hm
    exact (othersKept_of_modify done.lanes m hm).trans (edgeMarked_others ev.overMark m hm)
  · rw [lane_of_modify done.lanes hnv, marked, base.event]
  · rw [done.link, marked]
    rw [Link.appended, base.event, outcome, base.link]
    rfl
  · exact base.rows done.rows
  · rw [← base.holdStarted]
    exact base.holdSet (done.hold rfl (by rw [marked]; exact swimming) (by rw [base.board, holds]; exact h.lane))
  · rw [done.lamps, marked, base.event, base.lamps, base.tick, base.options, outcome, base.alerts, state]
    simp only [true_and]
    rfl

/-- Settles O12. -/
theorem ordinaryTouchAppendsASplit : Obligations.OrdinaryTouchAppendsASplit := by
  intro s n at0 high e h current l ev swimming timed hend more limit noExchange
  obtain ⟨t, ht, taken, others, lane, link, rows, hold, lamps⟩ := touch_ordinary h current swimming timed hend more limit
  have none_ (m : Lane) (hm : m.done = l.done) :
      exchangeOutcome s.event m (nextEntry m .timed (some ev.time) ev.overMark) = none :=
    exchangeOutcome_none (by rw [nextEntry, hm]; exact exchangeAt_noExchange noExchange)
  refine ⟨t, ht, taken, others, ?_, ?_, rows, hold, ?_⟩
  · rw [lane, Lane.appended, none_ (l.overmarked ev.overMark) rfl]
    rfl
  · rw [link, Link.appended, none_ l rfl]
    rfl
  · rw [lamps, exchangeOutcome_none (exchangeAt_noExchange noExchange)]
    rfl

/-- Settles O21. -/
theorem touchJudgesTheExchange : Obligations.TouchJudgesTheExchange := by
  intro s n j at0 high e h current l ev entry appended link kind leg low high' length swimming timed hend more limit
  obtain ⟨t, ht, taken, others, lane, link', rows, hold, lamps⟩ := touch_ordinary h current swimming timed hend more limit
  have at_j : exchangeAt s.event (l.done + 1) = some j := exchangeAt_eq_some_iff.mpr ⟨kind, leg, low, high', length⟩
  have outcome (m : Lane) (hm : m.exchange j = l.exchange j) (hd : m.done = l.done) :
      exchangeOutcome s.event m (nextEntry m .timed (some ev.time) ev.overMark)
        = (l.exchange j).takeoff.map fun tau => (j, judgement s.event tau ev.time) := by
    rw [← hm]
    exact exchangeOutcome_timed (mark := ev.overMark) (by rw [hd]; exact at_j) rfl
  have mine : t.lane n = appended.withOutcome ((l.exchange j).takeoff.map fun tau => (j, judgement s.event tau ev.time)) := by
    rw [lane, Lane.appended, outcome (l.overmarked ev.overMark) rfl rfl]
    rfl
  have handed : t.link = link.withOutcome n ((l.exchange j).takeoff.map fun tau => (j, judgement s.event tau ev.time)) := by
    rw [link', Link.appended, outcome l rfl rfl]
    rfl
  have alerts : t.lamps.takeoffAlert
      = alertsAfter n ((l.exchange j).takeoff.map fun tau => (j, judgement s.event tau ev.time)) s := by
    rw [lamps]
    exact congrArg (alertsAfter n · s) (outcome l rfl rfl)
  refine ⟨t, ht, taken, others, fun absent => ?_, fun tau present => ?_, rows, hold, ?_⟩
  · rw [mine, handed, alerts, absent]
    exact ⟨rfl, rfl, rfl⟩
  · rw [mine, handed, alerts, present]
    exact ⟨rfl, rfl, rfl⟩
  · rw [lamps]

/-! ## The missing length of a missed turn (R65, R66, R69, R101) -/

theorem exchangeAt_eq_find (e : EventDesc) (k : Nat) : exchangeAt e k
    = [1, 2, 3].find? (fun j => decide (e.kind = .relay ∧ 0 < e.total / 4 ∧ k = j * (e.total / 4))) := by
  unfold exchangeAt
  by_cases relay : e.kind = .relay ∧ 0 < e.total / 4
  · rw [if_pos relay]
    obtain ⟨kind, leg⟩ := relay
    simp only [List.find?_cons, List.find?_nil, kind, leg, true_and, one_mul]
    by_cases first : k = e.total / 4
    · rw [if_pos first, decide_eq_true first]
    · rw [if_neg first, decide_eq_false first]
      by_cases second : k = 2 * (e.total / 4)
      · rw [if_pos second, decide_eq_true second]
      · rw [if_neg second, decide_eq_false second]
        by_cases third : k = 3 * (e.total / 4)
        · rw [if_pos third, decide_eq_true third]
        · rw [if_neg third, decide_eq_false third]
  · rw [if_neg relay]
    refine (List.find?_eq_none.mpr fun j _ hj => ?_).symm
    obtain ⟨kind, leg, _⟩ := of_decide_eq_true hj
    exact relay ⟨kind, leg⟩

theorem unjudgedBy_eq (e : EventDesc) (l : Lane) : unjudgedBy e l
    = if (missingEntry l).kind = .missed then exchangeAt e (l.done + 1) else none := by
  rw [unjudgedBy, exchangeAt_eq_find]

theorem nextEntry_missing (l : Lane) : nextEntry l (missingKind l (l.done + 1)) none false = missingEntry l := rfl

theorem missingKind_cases (l : Lane) :
    (missingKind l (l.done + 1) = .missed ∧ (missingEntry l).kind = .missed)
    ∨ (missingKind l (l.done + 1) = .untimed ∧ (missingEntry l).kind = .untimed) := by
  have same : (missingEntry l).kind = missingKind l (l.done + 1) := rfl
  rw [same, missingKind]
  split
  · exact .inr ⟨rfl, rfl⟩
  · exact .inl ⟨rfl, rfl⟩

/-- The exchange that the missing length leaves UNJUDGED (R101). -/
theorem exchangeOutcome_missing (e : EventDesc) (l : Lane) :
    exchangeOutcome e l (missingEntry l) = (unjudgedBy e l).map fun j => (j, l.unjudged j) := by
  have length : (missingEntry l).length = l.done + 1 := rfl
  rw [unjudgedBy_eq, exchangeOutcome, length]
  rcases missingKind_cases l with ⟨_, kind⟩ | ⟨_, kind⟩
  · rw [if_pos kind]
    cases exchangeAt e (l.done + 1) with
    | none => rfl
    | some j => simp [kind]
  · rw [if_neg (by simp [kind])]
    cases exchangeAt e (l.done + 1) with
    | none => rfl
    | some j => simp [kind]

theorem withMissing_eq (e : EventDesc) (l : Lane) : l.withMissing e = l.appended e (missingKind l (l.done + 1)) none false := by
  rw [Lane.appended, nextEntry_missing, exchangeOutcome_missing, Lane.withMissing]
  rcases missingKind_cases l with ⟨kind, entry⟩ | ⟨kind, entry⟩
  · rw [if_pos kind]
    cases unjudgedBy e l <;> simp [entry, Lane.withOutcome, Lane.counted, Lane.append]
  · have counted : ¬ missingKind l (l.done + 1) = .missed := by simp [kind]
    have other : (SplitKind.untimed == SplitKind.missed) = false := rfl
    rw [if_neg counted]
    cases unjudgedBy e l <;> simp [entry, other, Lane.withOutcome, Lane.append]

theorem withExchange_unjudged (k : Link) (n j : Nat) (l : Lane) : k.withExchange n j (l.unjudged j) = k.withNotice 0x47
    ([byte n, byte j, exchangeCode (l.unjudged j).status] ++ timeBytes (l.unjudged j).takeoff
      ++ signedBytes (l.unjudged j).margin) := by
  rw [Link.withExchange, if_neg (by simp [Lane.unjudged])]

theorem link_withMissing_eq (n : Nat) (e : EventDesc) (l : Lane) (k : Link) :
    k.withMissing n e l = k.appended n e l (missingKind l (l.done + 1)) none false := by
  rw [Link.appended, nextEntry_missing, exchangeOutcome_missing, Link.withMissing]
  rcases missingKind_cases l with ⟨kind, entry⟩ | ⟨kind, entry⟩
  · rw [if_pos kind]
    cases unjudgedBy e l with
    | none => simp [entry, Link.withOutcome, Link.counted]
    | some j => simp only [entry, Link.withOutcome, Link.counted, Option.map_some, withExchange_unjudged, beq_self_eq_true, Bool.true_and]
  · have counted : ¬ missingKind l (l.done + 1) = .missed := by simp [kind]
    have other : (SplitKind.untimed == SplitKind.missed) = false := rfl
    rw [if_neg counted]
    cases unjudgedBy e l with
    | none => simp [entry, other, Link.withOutcome]
    | some j => simp [entry, other, Link.withOutcome, withExchange_unjudged]

theorem alerts_missing (n : Nat) (e : EventDesc) (l : Lane) (s : State) :
    alertsAfter n (exchangeOutcome e l (missingEntry l)) s = s.lamps.takeoffAlert := by
  rw [exchangeOutcome_missing]
  cases unjudgedBy e l with
  | none => rfl
  | some j =>
    have status : (l.unjudged j).status ≠ .early := by simp [Lane.unjudged]
    have kept : alertAfter n (l.unjudged j) s = s.lamps.takeoffAlert := by rw [alertAfter, if_neg status]
    exact kept

theorem overmarked_setExchange (j : Nat) (x : Exchange) (mark : Bool) (l : Lane) :
    (l.overmarked mark).setExchange j x = (l.setExchange j x).overmarked mark := by
  match j with
  | 0 | 1 | 2 | _ + 3 => rfl

theorem withOutcome_overmarked (o : Option (Nat × Exchange)) (mark : Bool) (l : Lane) :
    (l.overmarked mark).withOutcome o = (l.withOutcome o).overmarked mark := by
  cases o with
  | none => rfl
  | some x => exact overmarked_setExchange x.1 x.2 mark l

theorem appended_overmarked (ev : EventDesc) (k : SplitKind) (time : Option Nat) (over_ mark : Bool) (l : Lane) :
    (l.overmarked mark).appended ev k time over_ = (l.appended ev k time over_).overmarked mark := by
  have outcome : exchangeOutcome ev (l.overmarked mark) (nextEntry (l.overmarked mark) k time over_)
      = exchangeOutcome ev l (nextEntry l k time over_) := rfl
  have counted : (if k = .missed then ((l.overmarked mark).append (nextEntry (l.overmarked mark) k time over_)).counted
        else (l.overmarked mark).append (nextEntry (l.overmarked mark) k time over_))
      = (if k = .missed then (l.append (nextEntry l k time over_)).counted else l.append (nextEntry l k time over_)).overmarked mark := by
    split <;> rfl
  rw [Lane.appended, Lane.appended, outcome, counted, withOutcome_overmarked]

theorem withMissing_overmarked (e : EventDesc) (mark : Bool) (l : Lane) :
    (l.overmarked mark).withMissing e = (l.withMissing e).overmarked mark := by
  rw [withMissing_eq, withMissing_eq, ← appended_overmarked]
  rfl

theorem withMissing_keeps {α : Type} (part : Lane → α) (hx : ∀ j x l, part (l.setExchange j x) = part l)
    (hc : ∀ l, part l.counted = part l) (e : EventDesc) (l : Lane) :
    part (l.withMissing e) = part (l.append (missingEntry l)) := by
  rw [withMissing_eq, appended_keeps part hx hc, nextEntry_missing]

theorem withMissing_done (e : EventDesc) (l : Lane) : (l.withMissing e).done = l.done + 1 :=
  withMissing_keeps Lane.done setExchange_done (fun _ => rfl) e l

theorem withMissing_state (e : EventDesc) (l : Lane) : (l.withMissing e).state = l.state :=
  withMissing_keeps Lane.state setExchange_state (fun _ => rfl) e l

theorem setExchange_overrange (j : Nat) (x : Exchange) (l : Lane) : (l.setExchange j x).overrange = l.overrange := by
  match j with
  | 0 | 1 | 2 | _ + 3 => rfl

theorem withMissing_overrange (e : EventDesc) (l : Lane) : (l.withMissing e).overrange = l.overrange :=
  withMissing_keeps Lane.overrange setExchange_overrange (fun _ => rfl) e l

/-- The missing length has been appended to lane `n`. -/
structure MissingAppended (n : Nat) (s t : State) : Prop where
  lanes : t.lanes = s.lanes.modify n (Lane.withMissing s.event)
  link : t.link = s.link.withMissing n s.event (s.lane n)
  rows : RowsMarked [n + 1, n + 12] [n + 1, n + 12] s t
  holds : HoldsKept s t
  lamps : t.lamps = { s.lamps with
    bell := if 8 ≤ s.event.total ∧ (s.lane n).done + 3 = s.event.total then s.lamps.bell.pulse s.tick s.options.bellWidth
      else s.lamps.bell }
  race : t.race = s.race
  outer : t.outer = s.outer
  gist : t.gist = s.gist

theorem missingAppended {n : Nat} {s : State} (hn : n < s.lanes.length) :
    MissingAppended n s (appendSplit n (missingKind (s.lane n) ((s.lane n).done + 1)) none false s) := by
  have untimed : missingKind (s.lane n) ((s.lane n).done + 1) ≠ .timed := by
    rcases missingKind_cases (s.lane n) with ⟨kind, _⟩ | ⟨kind, _⟩ <;> simp [kind]
  constructor
  · rw [appendSplit_lanes hn]
    exact modify_congr_lane (withMissing_eq _ _).symm
  · rw [appendSplit_link hn, link_withMissing_eq]
  · exact rowsMarked_appendSplit hn _ _ _
  · exact holds_appendSplit hn _ _ _ fun h => untimed h.1
  · rw [appendSplit_lamps hn, nextEntry_missing, alerts_missing]
  · simp
  · simp
  · simp

/-! ## The touch behind a missed turn -/

/-- The touch at length `k` of lane `l` judges exchange `j` with the takeoff `tau` (R101, R102). -/
def JudgedBy (ev : EventDesc) (l : Lane) (k j tau : Nat) : Prop :=
  ev.kind = .relay ∧ 0 < ev.total / 4 ∧ 1 ≤ j ∧ j ≤ 3 ∧ k = j * (ev.total / 4) ∧ (l.exchange j).takeoff = some tau

theorem exchangeOutcome_unjudged {ev : EventDesc} {l : Lane} {time : Nat} {mark : Bool}
    (h : ∀ j tau, ¬ JudgedBy ev l (l.done + 1) j tau) : exchangeOutcome ev l (nextEntry l .timed (some time) mark) = none := by
  cases at_j : exchangeAt ev (l.done + 1) with
  | none => exact exchangeOutcome_none at_j
  | some j =>
    obtain ⟨kind, leg, low, top, length⟩ := exchangeAt_eq_some_iff.mp at_j
    refine (exchangeOutcome_timed (time := time) (mark := mark) at_j rfl).trans (Option.map_eq_none_iff.mpr ?_)
    exact Option.eq_none_iff_forall_ne_some.mpr fun tau takeoff => h j tau ⟨kind, leg, low, top, length, takeoff⟩

theorem exchangeOutcome_judged {ev : EventDesc} {l : Lane} {j tau time : Nat} {mark : Bool} (h : JudgedBy ev l (l.done + 1) j tau) :
    exchangeOutcome ev l (nextEntry l .timed (some time) mark) = some (j, judgement ev tau time) := by
  obtain ⟨kind, leg, low, top, length, takeoff⟩ := h
  have at_j : exchangeAt ev (l.done + 1) = some j := exchangeAt_eq_some_iff.mpr ⟨kind, leg, low, top, length⟩
  refine (exchangeOutcome_timed (time := time) (mark := mark) at_j rfl).trans ?_
  rw [takeoff]
  rfl

/-- Of two appends in a row at most one brings the lane to two lengths to go (R70). -/
theorem one_of_two_bells {α : Type} (total done : Nat) (rung still : α) (f : α → α) (h : f still = rung) :
    (if 8 ≤ total ∧ done + 4 = total then f (if 8 ≤ total ∧ done + 3 = total then rung else still)
      else if 8 ≤ total ∧ done + 3 = total then rung else still)
    = if 8 ≤ total ∧ (done + 3 = total ∨ done + 4 = total) then rung else still := by
  by_cases second : 8 ≤ total ∧ done + 4 = total
  · rw [if_pos second, if_neg (by omega), if_pos (by omega), h]
  · rw [if_neg second]
    by_cases first : 8 ≤ total ∧ done + 3 = total
    · rw [if_pos first, if_pos (by omega)]
    · rw [if_neg first, if_neg (by omega)]

/-- Settles O13. -/
theorem missedTurnAppendsTwoEntries : Obligations.MissedTurnAppendsTwoEntries := by
  intro s n at0 high e h current l ev m entry appended link judged swimming timed hend more limit
  have hn : n < s.lanes.length := by rw [h.lanes]; exact h.lane
  have base := sameBase_edgeMarked h.confirms n ev.overMark
  have marked := edgeMarked_lane (line := padLine n at0) (high := high) (e := e) hn ev.overMark
  generalize hv : edgeMarked (padLine n at0) n high e ev.overMark s = v at base marked
  have hnv : n < v.lanes.length := by rw [← hv]; simpa [edgeMarked, State.updLane, edgeConfirmedState] using hn
  have first := missingAppended hnv
  generalize hw : appendSplit n (missingKind (v.lane n) ((v.lane n).done + 1)) none false v = w at first
  have hnw : n < w.lanes.length := by rw [first.lanes, List.length_modify]; exact hnv
  have second := appendDone hnw .timed (some ev.time) ev.overMark
  have same : takePadMake n at0 e.lead (edgeConfirmedState (padLine n at0) high e s)
      = syncFinalLength n (appendSplit n .timed (some ev.time) ev.overMark w) := by
    refine (takePadMake_swimming (s := edgeConfirmedState (padLine n at0) high e s) swimming at0 e.lead).trans ?_
    refine congrArg (syncFinalLength n) ?_
    have missed : classifyTouch v.event (v.lane n) at0 ev.time = .missedTurn := by
      rw [base.event, marked]
      exact classify_missedTurn timed hend (by exact more.le) limit
    have turned := touchSwimming_missedTurn missed e.lead
    rw [hw, if_pos (by rw [base.event, marked]; exact more), ← hv] at turned
    exact turned
  have taken := exec_touch h
  have currentW : WatchCurrent w := watchCurrent_of_gist first.gist (hv ▸ watchCurrent_edgeMarked current _)
  rw [same, watchCheck_of_gist second.gist currentW] at taken
  have eventW : w.event = s.event := (event_of_race first.race).trans base.event
  have lane : w.lane n = m.overmarked ev.overMark := by
    rw [lane_of_modify first.lanes hnv, marked, base.event, withMissing_overmarked]
  have mdone : m.done = l.done + 1 := withMissing_done s.event l
  have whole : (m.append entry).overmarked ev.overMark = appended := by
    have over_ : m.overrange = l.overrange := withMissing_overrange s.event l
    simp only [Lane.append, Lane.overmarked, mdone, over_, appended]
  have next : nextEntry m .timed (some ev.time) ev.overMark = entry := by rw [nextEntry, mdone]; rfl
  obtain ⟨o, ho⟩ : ∃ o, exchangeOutcome s.event m entry = o := ⟨_, rfl⟩
  have unjudged (none_ : ∀ j tau, ¬ judged j tau) : o = none := by
    rw [← ho, ← next]
    exact exchangeOutcome_unjudged fun j tau hj => none_ j tau (by rw [mdone] at hj; exact hj)
  have judges (j tau : Nat) (hj : judged j tau) : o = some (j, judgement s.event tau ev.time) := by
    rw [← ho, ← next]
    exact exchangeOutcome_judged (by rw [mdone]; exact hj)
  have outcomeW : exchangeOutcome w.event (w.lane n) (nextEntry (w.lane n) .timed (some ev.time) ev.overMark) = o := by
    rw [eventW, lane, ← ho, ← next]
    rfl
  have mine : (syncFinalLength n (appendSplit n .timed (some ev.time) ev.overMark w)).lane n = appended.withOutcome o := by
    rw [lane_of_modify second.lanes hnw, Lane.appended, outcomeW, lane, if_neg (by simp), ← whole]
    have entry_ : nextEntry (m.overmarked ev.overMark) .timed (some ev.time) ev.overMark = entry := next
    rw [entry_]
    rfl
  have handed : (syncFinalLength n (appendSplit n .timed (some ev.time) ev.overMark w)).link = link.withOutcome n o := by
    have entry_ : nextEntry (m.overmarked ev.overMark) .timed (some ev.time) ev.overMark = entry := next
    have missing : v.lane n = l.overmarked ev.overMark := marked
    rw [second.link, Link.appended, outcomeW, lane, entry_, if_neg (by simp), first.link, base.link, base.event, missing]
    rfl
  have alertsW : alertsAfter n o w = alertsAfter n o s :=
    (alertsAfter_congr (s := v) (by rw [first.lamps]) (outer_tick first.outer) (outer_options first.outer)).trans (base.alerts n o)
  have alerts : (syncFinalLength n (appendSplit n .timed (some ev.time) ev.overMark w)).lamps.takeoffAlert = alertsAfter n o s := by
    rw [second.lamps, outcomeW]
    exact alertsW
  refine ⟨_, taken, ?_, ?_, fun none_ => ?_, fun j tau hj => ?_, ?_, fun holds => ?_, ?_⟩
  · refine (edgeTaken_edgeConfirmedState h.confirms).andThen (changesOnly_append ?_ ?_) (by simp) (by simp)
    · exact (second.race.trans first.race).trans (hv ▸ rfl)
    · exact (second.outer.trans first.outer).trans (hv ▸ rfl)
  · intro i hi
    refine (othersKept_of_modify second.lanes i hi).trans ((othersKept_of_modify first.lanes i hi).trans ?_)
    rw [← hv]
    exact edgeMarked_others ev.overMark i hi
  · rw [mine, handed, alerts, unjudged none_]
    exact ⟨rfl, rfl, rfl⟩
  · rw [mine, handed, alerts, judges j tau hj]
    exact ⟨rfl, rfl, rfl⟩
  · exact (base.rows (first.rows.trans second.rows)).mono (by simp) (by simp)
  · have heldW : n < w.board.holds.length := by rw [first.holds, base.board, holds]; exact h.lane
    have started : holdStarted w = holdStarted s := by
      rw [← base.holdStarted, holdStarted, outer_tick first.outer, outer_options first.outer, holdStarted]
    obtain ⟨here, elsewhere⟩ := second.hold rfl (by rw [lane]; exact (withMissing_state s.event l).trans swimming) heldW
    refine base.holdSet ⟨here.trans started, fun i hi => (elsewhere i hi).trans ?_⟩
    exact hold_of_holds first.holds i
  · have swims : (m.overmarked ev.overMark).state = .swimming := (withMissing_state s.event l).trans swimming
    have count : (m.overmarked ev.overMark).done = l.done + 1 := mdone
    have before : (Lane.overmarked ev.overMark (s.lane n)).done = l.done := rfl
    rw [alerts, second.lamps, outcomeW, alertsW, lane, swims, count, eventW, first.lamps, marked, before, base.event, base.lamps,
      outer_tick first.outer, outer_options first.outer, base.tick, base.options]
    simp only [true_and, Nat.add_assoc, Nat.reduceAdd, one_of_two_bells]

end Sys2Proof.Machine
end

section
/-!
The finish (R64, R75 to R82): the opening of the finish by a touch or a press, the early-close check, and the evidence of a
FINISHING lane.
-/
namespace Sys2Proof.Machine

/-! ## A resolution told from an earlier state -/

/-- The state `u` is `s` but for lane `n`, whose record is `l` there, for lines, lamps other than RECORD, and rows and split hold of
the lane. -/
structure LaneChanged (n : Nat) (l : Lane) (s u : State) : Prop where
  lane : u.lane n = l
  others : OtherLanesKept n s u
  place : l.place = (s.lane n).place
  records : l.records = (s.lane n).records
  race : u.race = s.race
  link : u.link = s.link
  record : u.lamps.record = s.lamps.record
  tick : u.tick = s.tick
  options : u.options = s.options
  rows : RowsMarked [] [n + 1, n + 12] s u

section
variable {n : Nat} {l : Lane} {s u t : State} (h : LaneChanged n l s u)
include h

theorem LaneChanged.places : u.places = s.places := places_of_lanes fun m => by
  by_cases hm : m = n
  · rw [hm, h.lane, h.place]
  · rw [h.others m hm]

theorem LaneChanged.placeRows : Machine.placeRows u t = Machine.placeRows s t := by
  unfold Machine.placeRows
  refine congrArg (List.map (· + 1)) (List.filter_congr fun m _ => ?_)
  by_cases hm : m = n
  · rw [hm, h.lane, h.place]
  · rw [h.others m hm]

theorem LaneChanged.recordNotice : Machine.recordNotice n u t = Machine.recordNotice n s t := by
  rw [Machine.recordNotice, h.lane, h.records, Machine.recordNotice]

theorem LaneChanged.ranked (hr : Ranked n u t) : Ranked n s t where
  places := hr.places
  ranking := hr.ranking
  records i := by rw [hr.records, h.race]
  beacon := by rw [hr.beacon, h.lane, h.records, h.record, h.tick, h.options]

/-- The resolution that follows a change of the lane is one of the state before it. -/
theorem ResolvedOne.from {d : Decision} (hr : ResolvedOne n l d u t) : ResolvedOne n l d s t where
  lane := by rw [hr.lane, event_of_race h.race, h.race]
  others m hm := by rw [hr.others m hm, h.others m hm]
  ranked := h.ranked hr.ranked
  race := by rw [hr.race, h.race]
  link := by rw [hr.link, h.places, h.recordNotice, h.link]
  rows := by
    rw [← h.placeRows]
    exact (h.rows.trans hr.rows).mono (by simp) (by simp)

theorem LaneChanged.decision : s.decision l = u.decision (u.lane n) := by
  rw [h.lane, State.decision, State.decision, event_of_race h.race, h.race]

end

/-- Evidence that leaves nothing to wait for resolves its lane, told from the state before it. -/
theorem resolved_from {n : Nat} {l : Lane} {s u : State} (h : LaneChanged n l s u) (resolvable : Resolvable n u)
    (evidence : l.pad ≠ none ∨ l.presses ≠ []) :
    let t := watchCheck (endOfRaceCheck (resolveLane n u))
    Resolved n l s t ∧ HoldsKept u t ∧ t.lamps = { u.lamps with record := t.lamps.record } ∧ t.outer = u.outer
      ∧ (t.lane n).state ≠ .swimming := by
  obtain ⟨d, hd⟩ := exists_decision u.event (h.lane ▸ evidence) ((u.lane n).backup u.event (lagEstimate u.event u.race.lags))
  obtain ⟨one, holds, lamps⟩ := resolvedOne resolvable hd
  have behind := endsAndSees (s := s) (t := resolveLane n u) (by rw [one.race, h.race])
  have here : ResolvedOne n l d s (resolveLane n u) := (h.lane ▸ one).from h
  refine ⟨here.resolved (h.decision.trans hd) behind, behind.holds.trans holds, by rw [behind.lamps]; exact lamps,
    behind.outer.trans (by simp), fun swimming => ?_⟩
  rw [lane_of_lanes behind.lanes, one.lane] at swimming
  have decided : d.state = .swimming := swimming
  rcases decideFinish_state hd with state | state <;> simp [state] at decided

/-- What follows a resolution without touching what the statements tell of it. -/
theorem Resolved.of_after {n : Nat} {l : Lane} {s t u : State} (h : Resolved n l s t) (lanes : u.lanes = t.lanes)
    (race : u.race = t.race) (board : u.board = t.board) (link : u.link = t.link) (record : u.lamps.record = t.lamps.record) :
    Resolved n l s u := by
  have lane (m : Nat) : u.lane m = t.lane m := lane_of_lanes lanes m
  have ends : raceEnds s u = raceEnds s t := by rw [raceEnds, lanes, raceEnds]
  have vector : u.vector = t.vector := by rw [State.vector, race, lanes, State.vector]
  obtain ⟨d, decided, record_, lags, handed⟩ := h.decided
  constructor
  · rw [lane, h.consensus]
  · rw [lane, h.lag]
  · rw [lane]; exact h.candidate
  · refine ⟨d, by rw [lane]; exact decided, by rw [lane]; exact record_, by rw [race]; exact lags, ?_⟩
    rw [ends, vector, link, places_of_sameLanes lanes, recordNotice, lane]
    exact handed
  · refine ⟨h.ranked.places.of_lanes lanes, h.ranked.ranking.of_parts lanes (by rw [race]), fun i => ?_, ?_⟩
    · rw [lane, h.ranked.records]
    · rw [record, h.ranked.beacon, lane]
  · intro m hm
    rw [lane, h.others m hm]
  · rw [race, ends, ← h.race]
  · rw [ends, placeRows_of_lanes lanes]
    exact h.rows.of_board board

/-! ## The early-close check (R81) -/

theorem buttonsComplete_iff (n : Nat) (s : State) : buttonsComplete s n = true ↔ ¬ PressAwaited 0 n s := by
  unfold buttonsComplete PressAwaited
  rw [List.all_eq_true]
  constructor
  · rintro all ⟨b, _, low, high, used, unmasked, none_⟩
    have := all b (by simp; omega)
    simp [unmasked, none_, Nat.not_lt.mpr used] at this
  · intro no b hb
    by_contra incomplete
    simp only [Bool.or_eq_true, decide_eq_true_eq, not_or, Bool.not_eq_true, Option.isSome_eq_false_iff, Option.isNone_iff_eq_none,
      Nat.not_lt] at incomplete
    obtain ⟨⟨used, unmasked⟩, none_⟩ := incomplete
    have range : b = 1 ∨ b = 2 ∨ b = 3 := by simpa using hb
    exact no ⟨b, by omega, by omega, by omega, used, unmasked, none_⟩

theorem farTiming_fitted_iff (x : FarTiming) : x = .fitted ↔ ¬ x = .untimed := by cases x <;> simp

theorem padSettled_iff (n : Nat) (s : State) : padSettled s n = true ↔ ¬ PadAwaited n s := by
  unfold padSettled PadAwaited
  simp only [Bool.or_eq_true, decide_eq_true_eq, Option.isSome_iff_ne_none, farTiming_fitted_iff]
  cases (s.line (padLine n (endOf s.event.total))).masked with
  | true => simp
  | false => simp; tauto

theorem earlyCloseCheck_waits {n : Nat} {s : State} (h : PressAwaited 0 n s ∨ PadAwaited n s) : earlyCloseCheck n s = s := by
  refine if_neg fun ⟨buttons, pad⟩ => ?_
  exact h.elim ((buttonsComplete_iff n s).mp buttons) ((padSettled_iff n s).mp pad)

theorem earlyCloseCheck_closes {n : Nat} {s : State} (h : ¬ (PressAwaited 0 n s ∨ PadAwaited n s)) :
    earlyCloseCheck n s = endOfRaceCheck (resolveLane n s) := by
  rw [not_or] at h
  exact if_pos ⟨(buttonsComplete_iff n s).mpr h.1, (padSettled_iff n s).mpr h.2⟩

theorem press_setPress_same {b : Nat} (h : 1 ≤ b ∧ b ≤ 3) (x : Evidence) (l : Lane) : (l.setPress b x).press b = some x := by
  obtain rfl | rfl | rfl : b = 1 ∨ b = 2 ∨ b = 3 := by omega
  · rfl
  · rfl
  · rfl

theorem press_setPress_other {b i : Nat} (hb : 1 ≤ b ∧ b ≤ 3) (hi : 1 ≤ i ∧ i ≤ 3) (h : i ≠ b) (x : Evidence) (l : Lane) :
    (l.setPress b x).press i = l.press i := by
  obtain rfl | rfl | rfl : b = 1 ∨ b = 2 ∨ b = 3 := by omega
  all_goals obtain rfl | rfl | rfl : i = 1 ∨ i = 2 ∨ i = 3 := by omega
  all_goals simp_all [Lane.setPress, Lane.press]

/-- The evidence that opens or follows a finish, recorded as the pad's or as a button's (R76, R79, R80). -/
def Lane.withEvidence (ev : Evidence) (button : Option Nat) (l : Lane) : Lane :=
  match button with
  | none => { l with pad := some ev }
  | some b => l.setPress b ev

theorem setPress_place (b : Nat) (x : Evidence) (l : Lane) : (l.setPress b x).place = l.place := by
  unfold Lane.setPress
  split <;> rfl

theorem setPress_records (b : Nat) (x : Evidence) (l : Lane) : (l.setPress b x).records = l.records := by
  unfold Lane.setPress
  split <;> rfl

theorem setPress_farTiming (b : Nat) (x : Evidence) (l : Lane) : (l.setPress b x).farTiming = l.farTiming := by
  unfold Lane.setPress
  split <;> rfl

theorem setPress_pad (b : Nat) (x : Evidence) (l : Lane) : (l.setPress b x).pad = l.pad := by
  unfold Lane.setPress
  split <;> rfl

theorem setPress_done (b : Nat) (x : Evidence) (l : Lane) : (l.setPress b x).done = l.done := by
  unfold Lane.setPress
  split <;> rfl

theorem setPress_splits (b : Nat) (x : Evidence) (l : Lane) : (l.setPress b x).splits = l.splits := by
  unfold Lane.setPress
  split <;> rfl

/-- What the record of evidence leaves of a lane beside it. -/
theorem withEvidence_keeps {α : Type} (part : Lane → α) (hpad : ∀ x l, part { l with pad := x } = part l)
    (hpress : ∀ b x l, part (Lane.setPress b x l) = part l) (ev : Evidence) (button : Option Nat) (l : Lane) :
    part (l.withEvidence ev button) = part l := by
  cases button with
  | none => exact hpad _ l
  | some b => exact hpress b ev l

/-- Recorded evidence is evidence (R76). -/
theorem withEvidence_evidence {button : Option Nat} (hb : ∀ b, button = some b → 1 ≤ b ∧ b ≤ 3) (ev : Evidence) (l : Lane) :
    (l.withEvidence ev button).pad ≠ none ∨ (l.withEvidence ev button).presses ≠ [] := by
  cases button with
  | none => exact .inl (by simp [Lane.withEvidence])
  | some b =>
    obtain rfl | rfl | rfl : b = 1 ∨ b = 2 ∨ b = 3 := by have := hb b rfl; omega
    all_goals exact .inr (by simp [Lane.withEvidence, Lane.setPress, Lane.presses])

/-- What a lane's early-close check waits for, beside the button `but` (R81). -/
def Awaits (button : Option Nat) (n : Nat) (s : State) : Prop :=
  match button with
  | none => PressAwaited 0 n s
  | some b => PressAwaited b n s ∨ PadAwaited n s

/-- What is awaited behind a piece of evidence is what was awaited before it, its own button apart (R81). -/
theorem awaits_recorded {n : Nat} {l : Lane} {s u : State} {ev : Evidence} {button : Option Nat}
    (lane : u.lane n = l.withEvidence ev button) (press : ∀ i, l.press i = (s.lane n).press i) (pad : l.pad = (s.lane n).pad)
    (farTiming : l.farTiming = (s.lane n).farTiming) (event : u.event = s.event)
    (masked : ∀ m, (u.line m).masked = (s.line m).masked) (hb : ∀ b, button = some b → 1 ≤ b ∧ b ≤ 3) :
    (PressAwaited 0 n u ∨ PadAwaited n u) ↔ Awaits button n s := by
  unfold PressAwaited PadAwaited
  rw [event, lane]
  simp only [masked]
  cases button with
  | none =>
    have absent : ¬ (l.withEvidence ev none).pad = none := by simp [Lane.withEvidence]
    simp only [absent, false_and, or_false]
    refine exists_congr fun i => ?_
    have kept : (l.withEvidence ev none).press i = (s.lane n).press i := press i
    rw [kept]
  | some b =>
    have range := hb b rfl
    refine or_congr (exists_congr fun i => ?_) ?_
    · by_cases hi : 1 ≤ i ∧ i ≤ 3
      · by_cases same : i = b
        · subst same
          have present : (l.withEvidence ev (some i)).press i = some ev := press_setPress_same range ev _
          simp [present]
        · have kept : (l.withEvidence ev (some b)).press i = (s.lane n).press i :=
            (press_setPress_other range hi same ev _).trans (press i)
          have counted : i ≠ 0 := by omega
          rw [kept]
          simp [same, counted]
      · constructor <;> rintro ⟨_, low, high, _⟩ <;> exact absurd ⟨low, high⟩ hi
    · have pad' : (l.withEvidence ev (some b)).pad = (s.lane n).pad := (setPress_pad b ev _).trans pad
      have far : (l.withEvidence ev (some b)).farTiming = (s.lane n).farTiming := (setPress_farTiming b ev _).trans farTiming
      rw [pad', far]
      rfl

/-! ## The opening of the finish (R64, R76 to R78) -/

/-- Lane `n`'s record as its finish opens (R76, R78). -/
def Lane.opening (ev : EventDesc) (e : Tick) (evidence : Evidence) (button : Option Nat) (l : Lane) : Lane :=
  Lane.withEvidence evidence button
    { l with state := .finishing, first := some evidence, window := some { start := e, width := ev.window } }

/-- The state in which lane `n`'s finish has been opened, before the early-close check. -/
def openedState (n : Nat) (e : Tick) (ev : Evidence) (button : Option Nat) (s : State) : State :=
  (setLaneState n .finishing s).updLane n (fun l =>
    Lane.withEvidence ev button { l with first := some ev, window := some { start := e, width := s.event.window } })

theorem openFinish_eq (n : Nat) (e : Tick) (ev : Evidence) (button : Option Nat) (s : State) :
    openFinish n e ev button s = earlyCloseCheck n (openedState n e ev button s) := by
  cases button <;> rfl

/-- The state `v` in which an edge is confirmed and lane `n` about to open its finish: its record is `l` but for the OVERRANGE that
the evidence raises, and `k` the link. -/
structure AboutToFinish (n : Nat) (l : Lane) (k : Link) (mark : Bool) (s v : State) : Prop where
  count : n < v.lanes.length
  lane : v.lane n = l.overmarked mark
  others : OtherLanesKept n s v
  race : v.race = s.race
  link : v.link = k
  lamps : v.lamps = s.lamps
  tick : v.tick = s.tick
  options : v.options = s.options
  rows : RowsMarked [] [n + 1, n + 12] s v
  holds : HoldsKept s v
  masked : ∀ m, (v.line m).masked = (s.line m).masked
  place : l.place = (s.lane n).place
  records : l.records = (s.lane n).records
  press : ∀ i, l.press i = (s.lane n).press i
  pad : l.pad = (s.lane n).pad
  farTiming : l.farTiming = (s.lane n).farTiming
  swimming : l.state = .swimming
  last : l.done + 1 = s.event.total

section
variable {n : Nat} {l : Lane} {k : Link} {s v : State} {e : Tick} {ev : Evidence} {button : Option Nat}
  (h : AboutToFinish n l k ev.overMark s v)
include h

theorem AboutToFinish.lanes : (openedState n e ev button v).lanes = v.lanes.modify n (Lane.opening s.event e ev button) := by
  rw [openedState, event_of_race h.race]
  change (setLaneState n .finishing v).lanes.modify n _ = _
  rw [setLaneState_lanes, List.modify_modify_eq]
  rfl

theorem AboutToFinish.opened : (openedState n e ev button v).lane n = (l.opened s.event e ev).withEvidence ev button := by
  rw [lane_of_modify h.lanes h.count, h.lane]
  rfl

theorem AboutToFinish.openedOthers : OtherLanesKept n s (openedState n e ev button v) :=
  fun m hm => (othersKept_of_modify h.lanes m hm).trans (h.others m hm)

theorem AboutToFinish.swims : (v.lane n).state = .swimming := by
  rw [h.lane]
  exact h.swimming

theorem AboutToFinish.openedRows : RowsMarked [n + 1, n + 12] [n + 1, n + 12] s (openedState n e ev button v) := by
  have marked := rowsMarked_setLaneState (n := n) (new := .finishing) (s := v) (by simp [h.swims])
  exact ((h.rows.trans marked).mono (by simp) (by simp)).of_board rfl

theorem AboutToFinish.openedHold : HoldSet n none s (openedState n e ev button v) := by
  obtain ⟨here, others⟩ := holdSet_setLaneState (n := n) (new := .finishing) (s := v) h.swims (by simp)
  exact ⟨here, fun m hm => (others m hm).trans (hold_of_holds h.holds m)⟩

theorem AboutToFinish.laneChanged : LaneChanged n ((l.opened s.event e ev).withEvidence ev button) { s with link := k }
    (openedState n e ev button v) where
  lane := h.opened
  others := h.openedOthers
  place := (withEvidence_keeps Lane.place (fun _ _ => rfl) setPress_place ev button _).trans h.place
  records := (withEvidence_keeps Lane.records (fun _ _ => rfl) setPress_records ev button _).trans h.records
  race := by simp [openedState, h.race]
  link := by simp [openedState, h.link]
  record := by simp [openedState, h.lamps]
  tick := (outer_tick (outer_setLaneState n .finishing v)).trans h.tick
  options := (outer_options (outer_setLaneState n .finishing v)).trans h.options
  rows := ((h.openedRows (e := e) (button := button)).mono (by simp) (by simp)).of_boards rfl rfl

theorem AboutToFinish.resolvable (final : ∀ x ∈ ((l.opened s.event e ev).withEvidence ev button).splits, x.kind ≠ .final) :
    Resolvable n (openedState n e ev button v) where
  count := by rw [h.lanes, List.length_modify]; exact h.count
  state := by rw [h.opened, withEvidence_keeps Lane.state (fun _ _ => rfl) setPress_state]; rfl
  last := by
    rw [h.opened, withEvidence_keeps Lane.done (fun _ _ => rfl) setPress_done, event_of_race h.laneChanged.race]
    exact h.last
  open_ := by
    rw [h.opened]
    exact final

theorem AboutToFinish.awaits_iff (hb : ∀ b, button = some b → 1 ≤ b ∧ b ≤ 3) :
    (PressAwaited 0 n (openedState n e ev button v) ∨ PadAwaited n (openedState n e ev button v)) ↔ Awaits button n s := by
  refine awaits_recorded h.opened h.press h.pad h.farTiming (event_of_race h.laneChanged.race) (fun m => ?_) hb
  have lines : (openedState n e ev button v).lines = v.lines := outer_lines (outer_setLaneState n .finishing v)
  rw [← h.masked, State.line, lines, State.line]

end

/-! ### The opening as a whole -/

/-- A FINISHING or a resolved lane has its FINAL_LENGTH input off (R70). -/
theorem syncFinalLength_off {n : Nat} {s : State} (h : (s.lane n).state ≠ .swimming) : syncFinalLength n s = { s with
    lamps := { s.lamps with finalLength := s.lamps.finalLength.modify n (LampTimer.setInput s.tick s.options.offDelay false) } } := by
  have off : onFinalLength s.event (s.lane n) = false := by simp [onFinalLength, h]
  rw [syncFinalLength_eq, off]

theorem watchCheck_syncFinalLength (n : Nat) (s : State) : watchCheck (syncFinalLength n s) = syncFinalLength n (watchCheck s) := by
  rw [watchCheck_eq, watchCheck_eq]
  rfl

section
variable {n : Nat} {l : Lane} {k : Link} {s v : State} {e : Tick} {ev : Evidence} {button : Option Nat}
  (h : AboutToFinish n l k ev.overMark s v) (hb : ∀ b, button = some b → 1 ≤ b ∧ b ≤ 3)
include h

theorem AboutToFinish.openedLamps : (openedState n e ev button v).lamps = s.lamps := by simp [openedState, h.lamps]

theorem AboutToFinish.openedState_ne : ((openedState n e ev button v).lane n).state ≠ .swimming := by
  rw [h.opened, withEvidence_keeps Lane.state (fun _ _ => rfl) setPress_state]
  simp [Lane.opened]

include hb

/-- The window stays open while something is awaited. -/
theorem AboutToFinish.waits {line : Nat} {high : Bool} {edge : PendingEdge} {u : State} (taken : EdgeTaken line high edge [] s u)
    (outer : v.outer = u.outer) (race : u.race = s.race) (awaits : Awaits button n s) :
    let t := watchCheck (syncFinalLength n (openFinish n e ev button v))
    EdgeTaken line high edge [.lanes, .board, .lamps, .link] s t ∧ OtherLanesKept n s t
      ∧ t.lane n = (l.opened s.event e ev).withEvidence ev button ∧ t.link = k.seen t.vector
      ∧ RowsMarked [n + 1, n + 12] [n + 1, n + 12] s t ∧ HoldSet n none s t
      ∧ t.lamps = { s.lamps with
          finalLength := s.lamps.finalLength.modify n (LampTimer.setInput s.tick s.options.offDelay false) } := by
  intro t
  have changed := h.laneChanged (e := e) (button := button)
  have stays : openFinish n e ev button v = openedState n e ev button v :=
    (openFinish_eq ..).trans (earlyCloseCheck_waits ((h.awaits_iff hb).mpr awaits))
  have ht : t = watchCheck (syncFinalLength n (openedState n e ev button v)) := by rw [← stays]
  have lanes : t.lanes = (openedState n e ev button v).lanes := by rw [ht]; simp
  have board : t.board = (openedState n e ev button v).board := by rw [ht]; simp
  refine ⟨taken.andThen (changesOnly_append ?_ ?_) (by simp) (by simp), ?_, ?_, ?_, h.openedRows.of_board board, ?_, ?_⟩
  · rw [ht, race]
    simp [openedState, h.race]
  · rw [ht]
    exact Eq.trans (by simp [openedState]) outer
  · intro m hm
    rw [lane_of_lanes lanes, h.openedOthers m hm]
  · rw [lane_of_lanes lanes, h.opened]
  · have vector : t.vector = (syncFinalLength n (openedState n e ev button v)).vector := by rw [ht, watchCheck_vector]
    rw [vector, ht, watchCheck_eq]
    dsimp only
    rw [syncFinalLength_link, changed.link]
  · obtain ⟨here, others⟩ := h.openedHold (e := e) (button := button)
    exact ⟨(hold_of_holds (by rw [board]) n).trans here, fun m hm => (hold_of_holds (by rw [board]) m).trans (others m hm)⟩
  · rw [ht, watchCheck_lamps, syncFinalLength_off h.openedState_ne, h.openedLamps, changed.tick, changed.options]

/-- With nothing awaited the lane is resolved at the same tick. -/
theorem AboutToFinish.closes {line : Nat} {high : Bool} {edge : PendingEdge} {u : State} (taken : EdgeTaken line high edge [] s u)
    (outer : v.outer = u.outer) (awaits : ¬ Awaits button n s)
    (final : ∀ x ∈ ((l.opened s.event e ev).withEvidence ev button).splits, x.kind ≠ .final) :
    let t := watchCheck (syncFinalLength n (openFinish n e ev button v))
    EdgeTaken line high edge [.race, .lanes, .board, .lamps, .link] s t
      ∧ Resolved n ((l.opened s.event e ev).withEvidence ev button) { s with link := k } t ∧ HoldSet n none s t
      ∧ t.lamps = { s.lamps with
          finalLength := s.lamps.finalLength.modify n (LampTimer.setInput s.tick s.options.offDelay false)
          record := t.lamps.record } := by
  intro t
  have changed := h.laneChanged (e := e) (button := button)
  have closes : openFinish n e ev button v = endOfRaceCheck (resolveLane n (openedState n e ev button v)) :=
    (openFinish_eq ..).trans (earlyCloseCheck_closes fun w => awaits ((h.awaits_iff hb).mp w))
  have evidence := withEvidence_evidence hb ev (l.opened s.event e ev)
  obtain ⟨resolved, holds, lamps, outer', state⟩ := resolved_from changed (h.resolvable final) evidence
  generalize hT : watchCheck (endOfRaceCheck (resolveLane n (openedState n e ev button v))) = T at *
  have ht : t = syncFinalLength n T := by
    change watchCheck (syncFinalLength n (openFinish n e ev button v)) = _
    rw [closes, watchCheck_syncFinalLength, hT]
  have outerT : T.outer = v.outer := outer'.trans (by simp [openedState])
  have tick : T.tick = s.tick := (outer_tick outerT).trans h.tick
  have options : T.options = s.options := (outer_options outerT).trans h.options
  rw [ht]
  refine ⟨taken.andThen ((changesOnly_of_outer (Eq.trans (by simp) (outerT.trans outer)))) (by simp) (by simp),
    resolved.of_after (by simp) (by simp) (by simp) (by simp) rfl, ?_, ?_⟩
  · obtain ⟨here, others⟩ := h.openedHold (e := e) (button := button)
    have same : (syncFinalLength n T).board.holds = (openedState n e ev button v).board.holds := by
      rw [syncFinalLength_board, holds]
    exact ⟨(hold_of_holds same n).trans here, fun m hm => (hold_of_holds same m).trans (others m hm)⟩
  · rw [syncFinalLength_off state, tick, options, lamps, h.openedLamps]

end

/-- What an edge does that opens the finish, as the statements tell it. -/
theorem AboutToFinish.opensTheFinish {n : Nat} {l : Lane} {k : Link} {s v : State} {e : Tick} {ev : Evidence} {button : Option Nat}
    (h : AboutToFinish n l k ev.overMark s v) (hb : ∀ b, button = some b → 1 ≤ b ∧ b ≤ 3) {c : Instr} {line : Nat} {high : Bool}
    {edge : PendingEdge} (confirms : Confirms line high edge s) (outer : v.outer = (edgeConfirmedState line high edge s).outer)
    (hc : exec c s = .next (watchCheck (syncFinalLength n (openFinish n e ev button v)))) :
    OpensTheFinish c line high edge n ((l.opened s.event e ev).withEvidence ev button) k (Awaits button n s) s := by
  have taken := edgeTaken_edgeConfirmedState confirms
  exact ⟨fun waits => ⟨_, hc, h.waits hb taken outer rfl waits⟩,
    fun closed final => ⟨_, hc, h.closes hb taken outer closed final⟩⟩

/-- The finish opens on the last length. -/
theorem aboutToFinish_last {line n : Nat} {high : Bool} {e : PendingEdge} {s : State} (hn : n < s.lanes.length)
    (confirms : Confirms line high e s) (mark : Bool) (swimming : (s.lane n).state = .swimming)
    (last : (s.lane n).done + 1 = s.event.total) :
    AboutToFinish n (s.lane n) s.link mark s (edgeMarked line n high e mark s) := by
  have base := sameBase_edgeMarked confirms n mark
  exact {
    count := by simpa [edgeMarked, State.updLane, edgeConfirmedState] using hn
    lane := edgeMarked_lane hn mark
    others := edgeMarked_others mark
    race := base.race
    link := base.link
    lamps := base.lamps
    tick := base.tick
    options := base.options
    rows := base.rows ((RowsMarked.refl _).mono (by simp) (by simp))
    holds := by rw [HoldsKept, base.board]
    masked := base.masked
    place := rfl
    records := rfl
    press := fun _ => rfl
    pad := rfl
    farTiming := rfl
    swimming := swimming
    last := last }

theorem setExchange_press (j : Nat) (x : Exchange) (i : Nat) (l : Lane) : (l.setExchange j x).press i = l.press i := by
  match j with
  | 0 | 1 | 2 | _ + 3 => rfl

theorem setExchange_pad (j : Nat) (x : Exchange) (l : Lane) : (l.setExchange j x).pad = l.pad := by
  match j with
  | 0 | 1 | 2 | _ + 3 => rfl

theorem setExchange_farTiming (j : Nat) (x : Exchange) (l : Lane) : (l.setExchange j x).farTiming = l.farTiming := by
  match j with
  | 0 | 1 | 2 | _ + 3 => rfl

theorem setExchange_place (j : Nat) (x : Exchange) (l : Lane) : (l.setExchange j x).place = l.place := by
  match j with
  | 0 | 1 | 2 | _ + 3 => rfl

theorem setExchange_records (j : Nat) (x : Exchange) (l : Lane) : (l.setExchange j x).records = l.records := by
  match j with
  | 0 | 1 | 2 | _ + 3 => rfl

/-- The finish opens one length short of the last, the missing length being appended first (R65, R77). -/
theorem aboutToFinish_missing {line n : Nat} {high : Bool} {e : PendingEdge} {s : State} (hn : n < s.lanes.length)
    (confirms : Confirms line high e s) (mark : Bool) (swimming : (s.lane n).state = .swimming)
    (last : (s.lane n).done + 2 = s.event.total) :
    let v := edgeMarked line n high e mark s
    AboutToFinish n ((s.lane n).withMissing s.event) (s.link.withMissing n s.event (s.lane n)) mark s
      (appendSplit n (missingKind (v.lane n) ((v.lane n).done + 1)) none false v) := by
  intro v
  have base : SameBase s v := sameBase_edgeMarked confirms n mark
  have count : n < v.lanes.length := by simpa [v, edgeMarked, State.updLane, edgeConfirmedState] using hn
  have lane : v.lane n = (s.lane n).overmarked mark := edgeMarked_lane hn mark
  have missing := missingAppended count
  have before : ((s.lane n).overmarked mark).done = (s.lane n).done := rfl
  exact {
    count := by rw [missing.lanes, List.length_modify]; exact count
    lane := by rw [lane_of_modify missing.lanes count, lane, base.event, withMissing_overmarked]
    others := fun m hm => (othersKept_of_modify missing.lanes m hm).trans (edgeMarked_others mark m hm)
    race := missing.race.trans base.race
    link := by rw [missing.link, lane, base.event, base.link]; rfl
    lamps := by rw [missing.lamps, lane, before, base.event, if_neg (by omega), base.lamps]
    tick := (outer_tick missing.outer).trans base.tick
    options := (outer_options missing.outer).trans base.options
    rows := base.rows (missing.rows.mono (by simp) (by simp))
    holds := missing.holds.trans (by rw [base.board])
    masked := fun m => by
      have lines := outer_lines missing.outer
      rw [State.line, lines]
      exact base.masked m
    place := withMissing_keeps Lane.place setExchange_place (fun _ => rfl) _ _
    records := withMissing_keeps Lane.records setExchange_records (fun _ => rfl) _ _
    press := fun i => withMissing_keeps (fun l => l.press i) (fun j x l => setExchange_press j x i l) (fun _ => rfl) _ _
    pad := withMissing_keeps Lane.pad setExchange_pad (fun _ => rfl) _ _
    farTiming := withMissing_keeps Lane.farTiming setExchange_farTiming (fun _ => rfl) _ _
    swimming := (withMissing_state _ _).trans swimming
    last := by rw [withMissing_done]; exact last }

theorem pressSwimming_last {n b : Nat} {s : State} {e : Tick} {ev : Evidence} (used : b ≤ s.event.buttons)
    (last : (s.lane n).done + 1 = s.event.total) (limit : lengthLimit s.event (s.lane n) 1 ≤ ev.time) :
    pressSwimming n b e ev s = openFinish n e ev (some b) s := by
  rw [pressSwimming, if_neg (Nat.not_lt.mpr used), if_pos ⟨last, decide_eq_true limit⟩]

theorem pressSwimming_short {n b : Nat} {s : State} {e : Tick} {ev : Evidence} (used : b ≤ s.event.buttons)
    (last : (s.lane n).done + 2 = s.event.total) (limit : lengthLimit s.event (s.lane n) 2 ≤ ev.time) :
    pressSwimming n b e ev s
      = openFinish n e ev (some b) (appendSplit n (missingKind (s.lane n) ((s.lane n).done + 1)) none false s) := by
  rw [pressSwimming, if_neg (Nat.not_lt.mpr used), if_neg fun h => absurd h.1 (by omega), if_pos ⟨last, decide_eq_true limit⟩]

/-- Settles O15. -/
theorem touchOrPressOpensTheFinish : Obligations.TouchOrPressOpensTheFinish := by
  constructor
  · intro s n at0 high e h l ev m opens swimming timed
    have hn : n < s.lanes.length := by rw [h.lanes]; exact h.lane
    have marked := edgeMarked_lane (line := padLine n at0) (high := high) (e := e) hn ev.overMark
    have pad (b : Nat) (hb : (none : Option Nat) = some b) : 1 ≤ b ∧ b ≤ 3 := by cases hb
    have taken := exec_touch h
    rw [takePadMake_swimming (s := edgeConfirmedState (padLine n at0) high e s) swimming at0 e.lead] at taken
    refine ⟨fun hend last limit => ?_, fun hend short limit => ?_⟩
    · have about := aboutToFinish_last hn h.confirms ev.overMark swimming last
      refine about.opensTheFinish (e := e.lead) (ev := ev) (button := none) pad h.confirms rfl (taken.trans ?_)
      have finish : classifyTouch s.event ((edgeMarked (padLine n at0) n high e ev.overMark s).lane n) at0 ev.time = .finish := by
        rw [marked]
        exact classify_finish timed hend last limit
      have touched := touchSwimming_finish (s := edgeMarked (padLine n at0) n high e ev.overMark s) finish e.lead
      exact congrArg (fun x => Host.Outcome.next (watchCheck (syncFinalLength n x))) touched
    · have about := aboutToFinish_missing hn h.confirms ev.overMark swimming short
      refine about.opensTheFinish (e := e.lead) (ev := ev) (button := none) pad h.confirms ?_ (taken.trans ?_)
      · rw [outer_appendSplit]
        rfl
      · have turn : classifyTouch s.event ((edgeMarked (padLine n at0) n high e ev.overMark s).lane n) at0 ev.time = .missedTurn := by
          rw [marked]
          exact classify_missedTurn timed hend (by exact short.le) limit
        have touched := touchSwimming_missedTurn (s := edgeMarked (padLine n at0) n high e ev.overMark s) turn e.lead
        have through : ¬ ((edgeMarked (padLine n at0) n high e ev.overMark s).lane n).done + 2 < s.event.total := by
          rw [marked]
          exact Nat.not_lt.mpr short.ge
        exact congrArg (fun x => Host.Outcome.next (watchCheck (syncFinalLength n x))) (touched.trans (if_neg through))
  · intro s n b high e h l ev m opens swimming used
    have hn : n < s.lanes.length := by rw [h.lanes]; exact h.lane
    have marked := edgeMarked_lane (line := buttonLine n b) (high := high) (e := e) hn ev.overMark
    have button (i : Nat) (hi : some b = some i) : 1 ≤ i ∧ i ≤ 3 := by cases hi; exact h.button
    have taken := exec_press h
    rw [takeButtonPress_swimming (s := edgeConfirmedState (buttonLine n b) high e s) swimming b e.lead] at taken
    refine ⟨fun last limit => ?_, fun short limit => ?_⟩
    · have about := aboutToFinish_last hn h.confirms ev.overMark swimming last
      refine about.opensTheFinish (e := e.lead) (ev := ev) (button := some b) button h.confirms rfl (taken.trans ?_)
      have pressed := pressSwimming_last (n := n) (b := b) (s := edgeMarked (buttonLine n b) n high e ev.overMark s) (e := e.lead)
        (ev := ev) used (by rw [marked]; exact last) (by rw [marked]; exact limit)
      exact congrArg (fun x => Host.Outcome.next (watchCheck (syncFinalLength n x))) pressed
    · have about := aboutToFinish_missing hn h.confirms ev.overMark swimming short
      refine about.opensTheFinish (e := e.lead) (ev := ev) (button := some b) button h.confirms ?_ (taken.trans ?_)
      · rw [outer_appendSplit]
        rfl
      · have pressed := pressSwimming_short (n := n) (b := b) (s := edgeMarked (buttonLine n b) n high e ev.overMark s)
          (e := e.lead) (ev := ev) used (by rw [marked]; exact short) (by rw [marked]; exact limit)
        exact congrArg (fun x => Host.Outcome.next (watchCheck (syncFinalLength n x))) pressed

/-! ## Evidence of a FINISHING lane (R79 to R82) -/

/-- The state in which an edge has been confirmed and its evidence recorded in a FINISHING lane. -/
def recordedState (line n : Nat) (high : Bool) (e : PendingEdge) (ev : Evidence) (button : Option Nat) (s : State) : State :=
  (edgeMarked line n high e ev.overMark s).updLane n (Lane.withEvidence ev button)

section
variable {line n : Nat} {high : Bool} {e : PendingEdge} {s : State} (hn : n < s.lanes.length) (h : Confirms line high e s)
  (ev : Evidence) (button : Option Nat)

theorem recordedState_lanes : (recordedState line n high e ev button s).lanes
    = s.lanes.modify n (fun l => (l.overmarked ev.overMark).withEvidence ev button) := List.modify_modify_eq _ _ _ _

include hn in
theorem recordedState_lane : (recordedState line n high e ev button s).lane n
    = ((s.lane n).overmarked ev.overMark).withEvidence ev button := lane_of_modify (recordedState_lanes ev button) hn

theorem recordedState_others : OtherLanesKept n s (recordedState line n high e ev button s) :=
  othersKept_of_modify (recordedState_lanes ev button)

include hn in
theorem laneChanged_recordedState : LaneChanged n (((s.lane n).overmarked ev.overMark).withEvidence ev button) s
    (recordedState line n high e ev button s) where
  lane := recordedState_lane hn ev button
  others := recordedState_others ev button
  place := withEvidence_keeps Lane.place (fun _ _ => rfl) setPress_place ev button _
  records := withEvidence_keeps Lane.records (fun _ _ => rfl) setPress_records ev button _
  race := rfl
  link := rfl
  record := rfl
  tick := rfl
  options := rfl
  rows := ((RowsMarked.refl s).mono (by simp) (by simp)).of_board rfl

include hn h in
theorem recordedState_awaits_iff (hb : ∀ b, button = some b → 1 ≤ b ∧ b ≤ 3) :
    (PressAwaited 0 n (recordedState line n high e ev button s) ∨ PadAwaited n (recordedState line n high e ev button s))
      ↔ Awaits button n s :=
  awaits_recorded (recordedState_lane hn ev button) (fun _ => rfl) rfl rfl rfl
    (sameBase_edgeMarked h n ev.overMark).masked hb

include h in
theorem edgeTaken_recordedState : EdgeTaken line high e [.lanes] s (recordedState line n high e ev button s) := by
  have changed : ChangesOnly [.lanes] (edgeConfirmedState line high e s) (recordedState line n high e ev button s) := fun b hb => by
    cases b <;> simp_all [Block.same, recordedState, edgeMarked, State.updLane]
  exact (edgeTaken_edgeConfirmedState h).andThen changed (by simp) (by simp)

theorem watchCurrent_recordedState (current : WatchCurrent s) : WatchCurrent (recordedState line n high e ev button s) :=
  watchCurrent_of_gist (gist_updLane (withEvidence_keeps Lane.state (fun _ _ => rfl) setPress_state ev button) n _)
    (watchCurrent_edgeMarked current ev.overMark)

include hn h in
/-- Evidence of a FINISHING lane with something left to wait for. -/
theorem evidence_waits {c : Instr} (current : WatchCurrent s) (hb : ∀ b, button = some b → 1 ≤ b ∧ b ≤ 3) (waits : Awaits button n s)
    (hc : exec c s = .next (watchCheck (earlyCloseCheck n (recordedState line n high e ev button s)))) :
    ∃ t, exec c s = .next t ∧ EdgeTaken line high e [.lanes] s t ∧ OtherLanesKept n s t
      ∧ t.lane n = ((s.lane n).overmarked ev.overMark).withEvidence ev button := by
  rw [earlyCloseCheck_waits ((recordedState_awaits_iff hn h ev button hb).mpr waits),
    watchCheck_of_watchCurrent (watchCurrent_recordedState ev button current)] at hc
  exact ⟨_, hc, edgeTaken_recordedState h ev button, recordedState_others ev button, recordedState_lane hn ev button⟩

include hn h in
/-- Evidence of a FINISHING lane with nothing left to wait for. -/
theorem evidence_closes {c : Instr} (state : (s.lane n).state = .finishing) (last : (s.lane n).done + 1 = s.event.total)
    (final : ∀ x ∈ (s.lane n).splits, x.kind ≠ .final)
    (hb : ∀ b, button = some b → 1 ≤ b ∧ b ≤ 3) (closed : ¬ Awaits button n s)
    (hc : exec c s = .next (watchCheck (earlyCloseCheck n (recordedState line n high e ev button s)))) :
    ∃ t, exec c s = .next t ∧ EdgeTaken line high e [.race, .lanes, .board, .lamps, .link] s t ∧ HoldsKept s t
      ∧ Resolved n (((s.lane n).overmarked ev.overMark).withEvidence ev button) s t
      ∧ { t.lamps with record := s.lamps.record } = s.lamps := by
  rw [earlyCloseCheck_closes fun w => closed ((recordedState_awaits_iff hn h ev button hb).mp w)] at hc
  have lane := recordedState_lane (line := line) (high := high) (e := e) hn ev button
  have resolvable : Resolvable n (recordedState line n high e ev button s) := {
    count := by rw [recordedState_lanes, List.length_modify]; exact hn
    state := by rw [lane, withEvidence_keeps Lane.state (fun _ _ => rfl) setPress_state]; exact state
    last := by rw [lane, withEvidence_keeps Lane.done (fun _ _ => rfl) setPress_done]; exact last
    open_ := by rw [lane, withEvidence_keeps Lane.splits (fun _ _ => rfl) setPress_splits]; exact final }
  obtain ⟨resolved, holds, lamps, outer, _⟩ := resolved_from (laneChanged_recordedState hn ev button) resolvable
    (withEvidence_evidence hb ev _)
  refine ⟨_, hc, (edgeTaken_edgeConfirmedState h).andThen (changesOnly_of_outer outer) (by simp)
    (by simp), holds, resolved, ?_⟩
  rw [lamps]
  rfl

end

theorem touchFinishing_counts {n : Nat} {at0 : PoolEnd} {ev : Evidence} {s : State} (pad : (s.lane n).pad = none)
    (timed : at0 = .far → (s.lane n).farTiming = .fitted) (hend : at0 = endOf s.event.total)
    (limit : lengthLimit s.event (s.lane n) 1 ≤ ev.time) :
    touchFinishing n at0 ev s = earlyCloseCheck n (s.updLane n (Lane.withEvidence ev none)) := by
  have pass : passes s.event (s.lane n) 1 ev.time = true := decide_eq_true limit
  refine if_neg ?_
  rw [pad, pass]
  rintro (present | untimed | other | failed)
  · cases present
  · exact not_stray_end timed untimed
  · exact other hend
  · cases failed

theorem pressFinishing_counts {n b : Nat} {ev : Evidence} {s : State} (used : b ≤ s.event.buttons)
    (press : (s.lane n).press b = none) :
    pressFinishing n b ev s = earlyCloseCheck n (s.updLane n (Lane.withEvidence ev (some b))) := by
  refine if_neg ?_
  rw [press]
  rintro (unused | present)
  · omega
  · cases present

theorem exec_touch_finishing {n : Nat} {high : Bool} {e : PendingEdge} {s : State} (h : Touch n (endOf s.event.total) high e s)
    (state : (s.lane n).state = .finishing) (pad : (s.lane n).pad = none)
    (timed : endOf s.event.total = .far → (s.lane n).farTiming = .fitted)
    (limit : lengthLimit s.event (s.lane n) 1 ≤ (s.raceTime e.lead).time) :
    exec (.edgeConfirmed (padLine n (endOf s.event.total)) high) s = .next (watchCheck (earlyCloseCheck n
      (recordedState (padLine n (endOf s.event.total)) n high e (s.raceTime e.lead) none s))) := by
  have hn : n < s.lanes.length := by rw [h.lanes]; exact h.lane
  have taken := exec_touch h
  rw [takePadMake_finishing (s := edgeConfirmedState (padLine n (endOf s.event.total)) high e s) state] at taken
  have marked := edgeMarked_lane (line := padLine n (endOf s.event.total)) (high := high) (e := e) hn (s.raceTime e.lead).overMark
  refine taken.trans (congrArg (fun x => Host.Outcome.next (watchCheck x)) ?_)
  refine touchFinishing_counts (ev := s.raceTime e.lead)
    (s := edgeMarked (padLine n (endOf s.event.total)) n high e (s.raceTime e.lead).overMark s) ?_ ?_ rfl ?_
  · rw [marked]; exact pad
  · rw [marked]; exact timed
  · rw [marked]; exact limit

theorem exec_press_finishing {n b : Nat} {high : Bool} {e : PendingEdge} {s : State} (h : Press n b high e s)
    (state : (s.lane n).state = .finishing) (used : b ≤ s.event.buttons) (press : (s.lane n).press b = none) :
    exec (.edgeConfirmed (buttonLine n b) high) s = .next (watchCheck (earlyCloseCheck n
      (recordedState (buttonLine n b) n high e (s.raceTime e.lead) (some b) s))) := by
  have hn : n < s.lanes.length := by rw [h.lanes]; exact h.lane
  have taken := exec_press h
  rw [takeButtonPress_finishing (s := edgeConfirmedState (buttonLine n b) high e s) state] at taken
  have marked := edgeMarked_lane (line := buttonLine n b) (high := high) (e := e) hn (s.raceTime e.lead).overMark
  refine taken.trans (congrArg (fun x => Host.Outcome.next (watchCheck x)) ?_)
  refine pressFinishing_counts (ev := s.raceTime e.lead)
    (s := edgeMarked (buttonLine n b) n high e (s.raceTime e.lead).overMark s) used ?_
  rw [marked]
  exact press

/-- Settles O16. -/
theorem finishEvidenceIsCountedAndResolved : Obligations.FinishEvidenceIsCountedAndResolved := by
  have button (b : Nat) (hb : 1 ≤ b ∧ b ≤ 3) (i : Nat) (hi : some b = some i) : 1 ≤ i ∧ i ≤ 3 := by cases hi; exact hb
  have pad_ (i : Nat) (hi : (none : Option Nat) = some i) : 1 ≤ i ∧ i ≤ 3 := by cases hi
  have count {n : Nat} {s : State} (hn : n < 10) (len : s.lanes.length = 10) : n < s.lanes.length := by omega
  refine ⟨⟨?_, ?_⟩, ?_, ?_⟩
  · intro s n b high e h current state used press waits
    exact evidence_waits (count h.lane h.lanes) h.confirms (s.raceTime e.lead) (some b) current (button b h.button) waits
      (exec_press_finishing h state used press)
  · intro s n high e h current state pad timed limit waits
    exact evidence_waits (count h.lane h.lanes) h.confirms (s.raceTime e.lead) none current pad_ waits
      (exec_touch_finishing h state pad timed limit)
  · intro s n b high e h state used press noPress noPad last final
    exact evidence_closes (count h.lane h.lanes) h.confirms (s.raceTime e.lead) (some b) state last final (button b h.button)
      (fun w => w.elim noPress noPad) (exec_press_finishing h state used press)
  · intro s n high e h state pad timed limit noPress last final
    exact evidence_closes (count h.lane h.lanes) h.confirms (s.raceTime e.lead) none state last final pad_ noPress
      (exec_touch_finishing h state pad timed limit)

end Sys2Proof.Machine
end

section
/-!
Block events (R36, R42, R43, R47 to R49, R97 to R100): the tracking of the blocks, reaction releases and takeoffs.
-/
namespace Sys2Proof.Machine

/-! ## Reactions (R43, R47) -/

theorem holdSigned_neg (d : Nat) : holdSigned (-(d : Int)) = max (-30000) (-(d : Int)) := by
  unfold holdSigned
  omega

theorem interval_between {a b now : Tick} (h : interval b now < interval a now) :
    interval a now - interval b now = interval a b := by
  unfold interval at h ⊢
  bv_omega

/-- The reaction of the model is the one of R47, whichever edge was seen first. -/
theorem reactionOf_leadFrom (st e now : Tick) : reactionOf (leadFrom st e now) = reactionValue st e now := by
  unfold leadFrom reactionValue
  by_cases first : interval st now < interval e now
  · rw [if_pos first, if_pos first, reactionOf, holdSigned_neg, interval_between first]
  · rw [if_neg first, if_neg first]
    by_cases past : Config.clockLimit < interval st e
    · rw [if_pos past, reactionOf]
      have : (59999999 : Nat) < interval st e := past
      omega
    · rw [if_neg past, reactionOf, holdSigned]
      omega

theorem inPhase_after (n : Nat) : (Lead.after n).inPhase = true ↔ n ≤ 30000 := by
  change decide (n ≤ Config.reactionPhase) = true ↔ n ≤ Config.reactionPhase
  exact decide_eq_true_iff

theorem inPhase_iff {s : State} {st : Tick} (hst : s.race.startTick = some st) (e : Tick) : (s.lead e).inPhase = true
    ↔ s.race.pastLimit = false ∧ (interval st s.tick < interval e s.tick ∨ interval st e ≤ 30000) := by
  cases past : s.race.pastLimit with
  | true =>
    have lead : s.lead e = .past := by simp [State.lead, hst, past]
    simp [lead, Lead.inPhase]
  | false =>
    rw [lead_of_running hst past, leadFrom]
    by_cases first : interval st s.tick < interval e s.tick
    · simp [first, Lead.inPhase]
    · rw [if_neg first]
      by_cases late : Config.clockLimit < interval st e
      · have : (59999999 : Nat) < interval st e := late
        rw [if_pos late]
        simp [first, Lead.inPhase]
        omega
      · rw [if_neg late]
        rw [inPhase_after]
        simp [first]

/-! ## Changes of one lane behind a confirmed edge -/

section
variable {line n : Nat} {high : Bool} {e : PendingEdge} {s : State} (hn : n < s.lanes.length) (h : Confirms line high e s)

include hn h in
theorem edgeTaken_updLane (f : Lane → Lane) :
    let t := (edgeConfirmedState line high e s).updLane n f
    EdgeTaken line high e [.lanes] s t ∧ OtherLanesKept n s t ∧ t.lane n = f (s.lane n) := by
  have changed : ChangesOnly [.lanes] (edgeConfirmedState line high e s) ((edgeConfirmedState line high e s).updLane n f) :=
    fun b hb => by cases b <;> simp_all [Block.same, State.updLane]
  exact ⟨(edgeTaken_edgeConfirmedState h).andThen changed (by simp) (by simp),
    fun m hm => lane_updLane_other hm f (edgeConfirmedState line high e s),
    lane_updLane_same (s := edgeConfirmedState line high e s) hn f⟩

end

theorem updLane_updLane (n : Nat) (f g : Lane → Lane) (s : State) : (s.updLane n f).updLane n g = s.updLane n (g ∘ f) := by
  simp only [State.updLane, List.modify_modify_eq]

/-! ## Block tracking (R42) -/

theorem underWay_iff (l : Lane) : l.underWay = true ↔ l.state = .set ∨ l.state = .swimming ∨ l.state = .finishing :=
  decide_eq_true_iff

/-- The lane with its block tracked as released. -/
def Lane.released (l : Lane) : Lane := { l with tracking := .released }

section
variable {s : State} {n : Nat} {e : Tick}

theorem takeBlockLoad_underWay (h : (s.lane n).underWay = true) :
    takeBlockLoad n s = s.updLane n (fun l => { l with tracking := .loaded }) := if_pos h

theorem takeBlockLoad_elsewhere (h : ¬ (s.lane n).underWay = true) : takeBlockLoad n s = s := if_neg h

theorem takeBlockRelease_loaded (h : (s.lane n).underWay = true) (loaded : (s.lane n).tracking = .loaded) :
    takeBlockRelease n e s = classifyRelease n e (s.updLane n Lane.released) := if_pos ⟨h, loaded⟩

theorem takeBlockRelease_ignored (h : ¬ ((s.lane n).underWay = true ∧ (s.lane n).tracking = .loaded)) :
    takeBlockRelease n e s = s := if_neg h

/-! ## The classes of a release (R43, R48, R97, R98) -/

/-- A reaction release: the first in a DIVE event, while ARMED or in its phase behind the start (R43). -/
def ReactionRelease (n : Nat) (e : Tick) (s : State) : Prop :=
  s.event.start = .dive ∧ (s.lane n).reactionTick = none
    ∧ (s.race.state = .armed ∨ (s.race.state = .running ∧ (s.lead e).inPhase = true))

/-- A takeoff (R97, R98). -/
def TakeoffRelease (n : Nat) (e : Tick) (s : State) : Prop :=
  s.event.kind = .relay ∧ s.race.state = .running
    ∧ (s.event.start = .water ∨ ((s.lane n).reactionTick ≠ none ∧ (s.lead e).inPhase = false))

theorem classifyRelease_held (h : ReactionRelease n e s) (armed : s.race.state = .armed) :
    classifyRelease n e s = s.updLane n (fun l => { l with reactionTick := some e }) := by
  have idle : ¬ s.race.state = .running := by simp [armed]
  exact (if_pos h).trans (if_neg idle)

theorem classifyRelease_reaction (h : ReactionRelease n e s) (running : s.race.state = .running) :
    let r := reactionOf (s.lead e)
    let t := storeReaction n r (s.updLane n (fun l => { l with reactionTick := some e }))
    classifyRelease n e s = if r < 0 then handEarlyRelease n r t else t := (if_pos h).trans (if_pos running)

theorem classifyRelease_takeoff (no : ¬ ReactionRelease n e s) (h : TakeoffRelease n e s) :
    classifyRelease n e s = takeTakeoff n e s := (if_neg no).trans (if_pos h)

theorem classifyRelease_other (no : ¬ ReactionRelease n e s) (h : ¬ TakeoffRelease n e s) : classifyRelease n e s = s :=
  (if_neg no).trans (if_neg h)

end

/-! ## A release from LOADED behind its confirmed edge -/

/-- The state in which the release of lane `n`'s block has been confirmed and tracked. -/
def releasedState (n : Nat) (high : Bool) (e : PendingEdge) (s : State) : State :=
  (edgeConfirmedState (blockLine n) high e s).updLane n Lane.released

section
variable {n : Nat} {high : Bool} {e : PendingEdge} {s : State} (h : BlockEdge n high e s)
include h

theorem BlockEdge.count : n < s.lanes.length := by
  rw [h.lanes]
  exact h.lane

theorem exec_block_load (active : e.active = true) : exec (.edgeConfirmed (blockLine n) high) s
    = .next (takeBlockLoad n (edgeConfirmedState (blockLine n) high e s)) := by
  rw [exec_block h, blockEvent, if_pos active]
  rfl

theorem exec_block_release (active : e.active = false) : exec (.edgeConfirmed (blockLine n) high) s
    = .next (takeBlockRelease n e.lead (edgeConfirmedState (blockLine n) high e s)) := by
  rw [exec_block h, blockEvent, if_neg (by simp [active])]
  rfl

theorem exec_release_loaded (active : e.active = false)
    (underWay : (s.lane n).state = .set ∨ (s.lane n).state = .swimming ∨ (s.lane n).state = .finishing)
    (loaded : (s.lane n).tracking = .loaded) :
    exec (.edgeConfirmed (blockLine n) high) s = .next (classifyRelease n e.lead (releasedState n high e s)) := by
  rw [exec_block_release h active]
  exact congrArg Host.Outcome.next (takeBlockRelease_loaded (s := edgeConfirmedState (blockLine n) high e s)
    ((underWay_iff _).mpr underWay) loaded)

theorem releasedState_lane : (releasedState n high e s).lane n = (s.lane n).released :=
  lane_updLane_same (s := edgeConfirmedState (blockLine n) high e s) h.count _

/-- A release that only moves the tracking. -/
theorem release_tracked (active : e.active = false)
    (underWay : (s.lane n).state = .set ∨ (s.lane n).state = .swimming ∨ (s.lane n).state = .finishing)
    (loaded : (s.lane n).tracking = .loaded)
    (same : classifyRelease n e.lead (releasedState n high e s) = releasedState n high e s) :
    ∃ t, exec (.edgeConfirmed (blockLine n) high) s = .next t ∧ EdgeTaken (blockLine n) high e [.lanes] s t
      ∧ OtherLanesKept n s t ∧ t.lane n = { s.lane n with tracking := .released } := by
  refine ⟨releasedState n high e s, ?_, edgeTaken_updLane h.count h.confirms Lane.released⟩
  rw [exec_release_loaded h active underWay loaded, same]

theorem reactionRelease_iff : ReactionRelease n e.lead (releasedState n high e s) ↔ s.event.start = .dive
    ∧ (s.lane n).reactionTick = none ∧ (s.race.state = .armed ∨ (s.race.state = .running ∧ (s.lead e.lead).inPhase = true)) := by
  rw [ReactionRelease, releasedState_lane h]
  rfl

theorem takeoffRelease_iff : TakeoffRelease n e.lead (releasedState n high e s) ↔ s.event.kind = .relay ∧ s.race.state = .running
    ∧ (s.event.start = .water ∨ ((s.lane n).reactionTick ≠ none ∧ (s.lead e.lead).inPhase = false)) := by
  rw [TakeoffRelease, releasedState_lane h]
  rfl

end

/-- The lane with its reaction release and its reaction (R43, R47). -/
def Lane.reacted (e : Tick) (r : Int) (l : Lane) : Lane :=
  { l with
    tracking := .released, reactionTick := some e, reaction := some r, earlyRelease := l.earlyRelease || decide (r < 0) }

section
variable {n : Nat} {high : Bool} {e : PendingEdge} {s : State} (h : BlockEdge n high e s)
include h

/-- A reaction release behind the start: the reaction is stored, and an early one noticed (R47, R48). -/
theorem release_reacts (active : e.active = false)
    (underWay : (s.lane n).state = .set ∨ (s.lane n).state = .swimming ∨ (s.lane n).state = .finishing)
    (loaded : (s.lane n).tracking = .loaded) (running : s.race.state = .running) (dive : s.event.start = .dive)
    (first : (s.lane n).reactionTick = none) (phase : (s.lead e.lead).inPhase = true) :
    let r := reactionOf (s.lead e.lead)
    ∃ t, exec (.edgeConfirmed (blockLine n) high) s = .next t ∧ EdgeTaken (blockLine n) high e [.lanes, .link] s t
      ∧ OtherLanesKept n s t ∧ t.lane n = (s.lane n).reacted e.lead r
      ∧ t.link = if r < 0 then s.link.withNotice 0x43 (byte n :: signedBytes (some r)) else s.link := by
  intro r
  have reaction := (reactionRelease_iff h).mpr ⟨dive, first, .inr ⟨running, phase⟩⟩
  have exec_ := exec_release_loaded h active underWay loaded
  have stored : storeReaction n r ((releasedState n high e s).updLane n (fun l => { l with reactionTick := some e.lead }))
      = (edgeConfirmedState (blockLine n) high e s).updLane n (Lane.reacted e.lead r) := by
    rw [storeReaction, releasedState, updLane_updLane, updLane_updLane]
    rfl
  have classified := classifyRelease_reaction reaction running
  obtain ⟨taken, others, lane⟩ := edgeTaken_updLane h.count h.confirms (Lane.reacted e.lead r)
  have wider (k : Link) : EdgeTaken (blockLine n) high e [.lanes, .link] s
      { (edgeConfirmedState (blockLine n) high e s).updLane n (Lane.reacted e.lead r) with link := k } := by
    refine (edgeTaken_edgeConfirmedState h.confirms).andThen (fun b hb => ?_) (by simp) (by simp)
    cases b <;> simp_all [Block.same, State.updLane]
  by_cases early : r < 0
  · have noticed : classifyRelease n e.lead (releasedState n high e s)
        = handEarlyRelease n r ((edgeConfirmedState (blockLine n) high e s).updLane n (Lane.reacted e.lead r)) :=
      classified.trans ((if_pos early).trans (congrArg (handEarlyRelease n r) stored))
    rw [noticed, handEarlyRelease, handNotice_eq] at exec_
    exact ⟨_, exec_, wider _, others, lane, (if_pos early).symm⟩
  · have quiet := classified.trans ((if_neg early).trans stored)
    rw [quiet] at exec_
    exact ⟨_, exec_, wider _, others, lane, (if_neg early).symm⟩

end

/-- Settles O19. -/
theorem blockTrackingAndReactions : Obligations.BlockTrackingAndReactions := by
  refine ⟨fun s n high e h => ⟨fun active underWay => ?_, fun ignored => ?_⟩, fun s n high e h active underWay loaded dive first =>
    ⟨fun armed => ?_, fun st running hst => ⟨fun early phase => ?_, fun late => ?_⟩⟩, fun s n high e h active underWay loaded other => ?_⟩
  · refine ⟨_, exec_block_load h active, ?_⟩
    rw [takeBlockLoad_underWay (s := edgeConfirmedState (blockLine n) high e s) ((underWay_iff _).mpr underWay)]
    exact edgeTaken_updLane h.count h.confirms _
  · refine ⟨edgeConfirmedState (blockLine n) high e s, ?_, edgeTaken_edgeConfirmedState h.confirms⟩
    cases active : e.active with
    | true =>
      have idle : ¬ (s.lane n).underWay = true := by
        rw [underWay_iff]
        have := ignored.resolve_right fun h => by simp [active] at h
        tauto
      rw [exec_block_load h active]
      exact congrArg Host.Outcome.next (takeBlockLoad_elsewhere (s := edgeConfirmedState (blockLine n) high e s) idle)
    | false =>
      have idle : ¬ ((s.lane n).underWay = true ∧ (s.lane n).tracking = .loaded) := by
        rw [underWay_iff]
        tauto
      rw [exec_block_release h active]
      exact congrArg Host.Outcome.next (takeBlockRelease_ignored (s := edgeConfirmedState (blockLine n) high e s) idle)
  · have reaction := (reactionRelease_iff h).mpr ⟨dive, first, .inl armed⟩
    have held : classifyRelease n e.lead (releasedState n high e s) = (edgeConfirmedState (blockLine n) high e s).updLane n
        ((fun l => { l with reactionTick := some e.lead }) ∘ Lane.released) := by
      rw [classifyRelease_held reaction armed, releasedState, updLane_updLane]
    refine ⟨_, exec_release_loaded h active underWay loaded, ?_⟩
    rw [held]
    exact edgeTaken_updLane h.count h.confirms _
  · have inPhase := (inPhase_iff hst e.lead).mpr ⟨early, phase⟩
    have reacts := release_reacts h active underWay loaded running dive first inPhase
    rw [lead_of_running hst early, reactionOf_leadFrom] at reacts
    exact reacts
  · have behind : ¬ (s.lead e.lead).inPhase = true := by
      rw [inPhase_iff hst]
      rintro ⟨early, phase⟩
      rcases late with past | ⟨order, far⟩
      · simp [early] at past
      · omega
    refine release_tracked h active underWay loaded (classifyRelease_other ?_ ?_)
    · rw [reactionRelease_iff h]
      rintro ⟨_, _, armed | ⟨_, phase⟩⟩
      · rw [running] at armed
        cases armed
      · exact behind phase
    · rw [takeoffRelease_iff h]
      rintro ⟨_, _, water | ⟨held, _⟩⟩
      · rw [dive] at water
        cases water
      · exact held first
  · refine release_tracked h active underWay loaded (classifyRelease_other ?_ ?_)
    · rw [reactionRelease_iff h]
      rintro ⟨dive, first, state⟩
      rcases other with ⟨water | held, _⟩ | ⟨unarmed, idle⟩
      · rw [dive] at water
        cases water
      · exact held first
      · exact state.elim unarmed fun h => idle h.1
    · rw [takeoffRelease_iff h]
      rintro ⟨relay, running, takeoff⟩
      rcases other with ⟨_, individual | idle | ⟨dive, st, hst, early, phase⟩⟩ | ⟨_, idle⟩
      · rw [relay] at individual
        cases individual
      · exact idle running
      · rcases takeoff with water | ⟨_, behind⟩
        · rw [dive] at water
          cases water
        · rw [(inPhase_iff hst e.lead).mpr ⟨early, phase⟩] at behind
          cases behind
      · exact idle running

/-! ## Takeoffs (R99, R100) -/

/-- The lane with its next takeoff stored (R99). -/
def Lane.tookOff (tau : Nat) (l : Lane) : Lane :=
  { l.setExchange (l.takeoffs + 1) { l.exchange (l.takeoffs + 1) with takeoff := some tau } with takeoffs := l.takeoffs + 1 }

section
variable {n : Nat} {e : Tick} {s : State}

theorem takeTakeoff_ignored (h : 3 ≤ (s.lane n).takeoffs) : takeTakeoff n e s = s := if_pos h

/-- The state in which the takeoff has been stored, before its exchange is judged. -/
def takenOff (n : Nat) (e : Tick) (s : State) : State :=
  let j := (s.lane n).takeoffs + 1
  s.updLane n (fun l => { l.setExchange j { l.exchange j with takeoff := some (s.raceTime e).time } with takeoffs := j })

theorem takenOff_lanes : (takenOff n e s).lanes = s.lanes.modify n (Lane.tookOff (s.raceTime e).time) := modify_congr_lane rfl

/-- The length at which the next takeoff's exchange falls. -/
def takeoffLength (n : Nat) (s : State) : Nat := ((s.lane n).takeoffs + 1) * (s.event.total / 4)

theorem takeTakeoff_pending (h : (s.lane n).takeoffs < 3) (absent : entryAt (s.lane n).splits (takeoffLength n s) = none) :
    takeTakeoff n e s = (takenOff n e s).updLane n (fun l =>
      l.setExchange ((s.lane n).takeoffs + 1)
        { l.exchange ((s.lane n).takeoffs + 1) with status := .pending, margin := none }) := by
  unfold takeTakeoff takenOff
  rw [takeoffLength] at absent
  dsimp only
  rw [if_neg (Nat.not_le.mpr h), absent]

theorem takeTakeoff_judged {x : Split} {time : Nat} (h : (s.lane n).takeoffs < 3)
    (present : entryAt (s.lane n).splits (takeoffLength n s) = some x) (timed : x.kind = .timed) (at_ : x.time = some time) :
    takeTakeoff n e s = judgeExchange n ((s.lane n).takeoffs + 1) (s.raceTime e).time time (takenOff n e s) := by
  unfold takeTakeoff takenOff
  rw [takeoffLength] at present
  dsimp only
  rw [if_neg (Nat.not_le.mpr h), present]
  dsimp only
  rw [timed, at_]

theorem takeTakeoff_stored {x : Split} (h : (s.lane n).takeoffs < 3)
    (present : entryAt (s.lane n).splits (takeoffLength n s) = some x) (untimed : x.kind ≠ .timed) :
    takeTakeoff n e s = takenOff n e s := by
  unfold takeTakeoff takenOff
  rw [takeoffLength] at present
  dsimp only
  rw [if_neg (Nat.not_le.mpr h), present]
  dsimp only
  cases kind : x.kind <;> simp_all

end

/-- The exchange of the takeoff just stored is written over what it was. -/
theorem setExchange_tookOff {tau : Nat} {x : Exchange} {l : Lane} (h : l.takeoffs < 3) :
    (l.tookOff tau).setExchange (l.takeoffs + 1) x = Lane.setExchange (l.takeoffs + 1) x { l with takeoffs := l.takeoffs + 1 } := by
  unfold Lane.tookOff
  obtain j | j | j : l.takeoffs = 0 ∨ l.takeoffs = 1 ∨ l.takeoffs = 2 := by omega
  all_goals rw [j]; rfl

theorem tookOff_eq {tau : Nat} {l : Lane} (h : l.takeoffs < 3) :
    l.tookOff tau = Lane.setExchange (l.takeoffs + 1) { l.exchange (l.takeoffs + 1) with takeoff := some tau }
      { l with takeoffs := l.takeoffs + 1 } := by
  unfold Lane.tookOff
  obtain j | j | j : l.takeoffs = 0 ∨ l.takeoffs = 1 ∨ l.takeoffs = 2 := by omega
  all_goals rw [j]; rfl

theorem exchange_tookOff {tau : Nat} {l : Lane} (h : l.takeoffs < 3) :
    (l.tookOff tau).exchange (l.takeoffs + 1) = { l.exchange (l.takeoffs + 1) with takeoff := some tau } := by
  rw [tookOff_eq h, exchange_setExchange]

theorem otherEarly_iff (l : Lane) (j : Nat) :
    l.otherEarly j = false ↔ ∀ i, 1 ≤ i → i ≤ 3 → i ≠ j → (l.exchange i).status ≠ .early := by
  unfold Lane.otherEarly
  rw [List.any_eq_false]
  constructor
  · intro all i low high other early
    have := all i (by simp; omega)
    simp [other, early] at this
  · intro all i hi
    have range : i = 1 ∨ i = 2 ∨ i = 3 := by simpa using hi
    have := all i (by omega) (by omega)
    simpa using this

theorem otherEarly_tookOff {tau : Nat} {l : Lane} (h : l.takeoffs < 3) :
    (l.tookOff tau).otherEarly (l.takeoffs + 1) = l.otherEarly (l.takeoffs + 1) := by
  unfold Lane.tookOff
  obtain j | j | j : l.takeoffs = 0 ∨ l.takeoffs = 1 ∨ l.takeoffs = 2 := by omega
  all_goals rw [j]; rfl

theorem edgeTaken_withLanes {line : Nat} {high : Bool} {e : PendingEdge} {s : State} (h : Confirms line high e s) (lanes : List Lane) :
    EdgeTaken line high e [.lanes] s { edgeConfirmedState line high e s with lanes := lanes } :=
  (edgeTaken_edgeConfirmedState h).andThen (fun b hb => by cases b <;> simp_all [Block.same]) (by simp) (by simp)

/-- The state in which a release has been tracked and stored as a takeoff. -/
def takeoffState (n : Nat) (high : Bool) (e : PendingEdge) (s : State) : State := takenOff n e.lead (releasedState n high e s)

section
variable {n : Nat} {high : Bool} {e : PendingEdge} {s : State} (h : BlockEdge n high e s)
include h

theorem releasedState_count : n < (releasedState n high e s).lanes.length := by
  simpa [releasedState, State.updLane, edgeConfirmedState] using h.count

theorem takeoffState_lane : (takeoffState n high e s).lane n = (s.lane n).released.tookOff (s.raceTime e.lead).time := by
  rw [takeoffState, lane_of_modify takenOff_lanes (releasedState_count h), releasedState_lane h]
  rfl

theorem takeoffState_count : n < (takeoffState n high e s).lanes.length := by
  rw [takeoffState, takenOff_lanes, List.length_modify]
  exact releasedState_count h

omit h in
theorem takeoffState_others : OtherLanesKept n s (takeoffState n high e s) := fun m hm =>
  (othersKept_of_modify takenOff_lanes m hm).trans (lane_updLane_other hm _ (edgeConfirmedState (blockLine n) high e s))

theorem takeoffLength_released : takeoffLength n (releasedState n high e s) = ((s.lane n).takeoffs + 1) * (s.event.total / 4) := by
  rw [takeoffLength, releasedState_lane h]
  rfl

/-- The judgement of a takeoff, told from the state before its release (R100, R102, R103). -/
theorem takeoffState_judged (few : (s.lane n).takeoffs < 3) (y : Exchange) :
    let j := (s.lane n).takeoffs + 1
    let t := (takeoffState n high e s).withExchange n j y
    EdgeTaken (blockLine n) high e [.lanes, .board, .lamps, .link] s t ∧ OtherLanesKept n s t
      ∧ t.lane n = Lane.setExchange j y { s.lane n with tracking := .released, takeoffs := j }
      ∧ t.link = s.link.withExchange n j y ∧ t.lamps = { s.lamps with takeoffAlert := alertAfter n y s }
      ∧ RowsMarked (if y.status = .early ∧ (∀ i, 1 ≤ i → i ≤ 3 → i ≠ j → ((s.lane n).exchange i).status ≠ .early) then [n + 1]
          else []) [n + 1] s t ∧ HoldsKept s t := by
  intro j t
  have fewer : (s.lane n).released.takeoffs < 3 := few
  refine ⟨(edgeTaken_edgeConfirmedState h.confirms).andThen (fun b hb => ?_) (by simp) (by simp), fun m hm => ?_, ?_, rfl, rfl, ?_, ?_⟩
  · cases b <;> simp_all [Block.same, t, State.withExchange, takeoffState, takenOff, releasedState, State.updLane]
  · exact (othersKept_of_modify (s := takeoffState n high e s) (t := t) rfl m hm).trans (takeoffState_others m hm)
  · have mine := lane_of_modify (s := takeoffState n high e s) (t := t) rfl (takeoffState_count h)
    rw [takeoffState_lane h] at mine
    exact mine.trans (setExchange_tookOff fewer)
  · have marked := rowsMarked_withExchange n j y (takeoffState n high e s)
    have other : ((takeoffState n high e s).lane n).otherEarly j = (s.lane n).otherEarly j := by
      rw [takeoffState_lane h]
      exact otherEarly_tookOff fewer
    simp only [other, otherEarly_iff] at marked
    exact marked.of_boards rfl rfl
  · exact holds_withExchange n j y _

end

/-- Settles O20. -/
theorem takeoffIsStored : Obligations.TakeoffIsStored := by
  intro s n high e st h l j tau entry stored active swims loaded relay running hst takeoff
  have underWay : l.state = .set ∨ l.state = .swimming ∨ l.state = .finishing := .inr swims
  have behind (late : s.race.pastLimit = true ∨ (interval e.lead s.tick ≤ interval st s.tick ∧ 30000 < interval st e.lead)) :
      (s.lead e.lead).inPhase = false := by
    rw [← Bool.not_eq_true, inPhase_iff hst]
    rintro ⟨early, phase⟩
    rcases late with past | ⟨order, far⟩
    · simp [early] at past
    · omega
  have noReaction : ¬ ReactionRelease n e.lead (releasedState n high e s) := by
    rw [reactionRelease_iff h]
    rintro ⟨dive, first, _⟩
    rcases takeoff with water | ⟨held, _⟩
    · rw [dive] at water
      cases water
    · exact held first
  have takes : TakeoffRelease n e.lead (releasedState n high e s) :=
    (takeoffRelease_iff h).mpr ⟨relay, running, takeoff.imp id fun t => ⟨t.1, behind t.2⟩⟩
  have classified := classifyRelease_takeoff noReaction takes
  have released := releasedState_lane h
  have taken := exec_release_loaded h active underWay loaded
  rw [classified] at taken
  have at_entry : entryAt ((releasedState n high e s).lane n).splits (takeoffLength n (releasedState n high e s)) = entry := by
    rw [takeoffLength_released h, released]
    rfl
  refine ⟨fun full => ?_, fun few absent => ?_, fun x time few present timed at_ => ?_, fun x few present untimed => ?_⟩
  · refine release_tracked h active underWay loaded (classified.trans (takeTakeoff_ignored ?_))
    rw [released]
    exact full
  · rw [takeTakeoff_pending (by rw [released]; exact few) (at_entry.trans absent)] at taken
    refine ⟨_, taken, edgeTaken_withLanes h.confirms _, fun m hm => ?_, ?_⟩
    · exact (lane_updLane_other hm _ (takeoffState n high e s)).trans (takeoffState_others m hm)
    · refine (lane_updLane_same (s := takeoffState n high e s) (takeoffState_count h) _).trans ?_
      rw [takeoffState_lane h, released]
      have few' : l.released.takeoffs < 3 := few
      refine (setExchange_tookOff few').trans ?_
      rw [exchange_tookOff few']
      rfl
  · rw [takeTakeoff_judged (by rw [released]; exact few) (at_entry.trans present) timed at_] at taken
    have judged : judgeExchange n (((releasedState n high e s).lane n).takeoffs + 1) ((releasedState n high e s).raceTime e.lead).time
        time (takenOff n e.lead (releasedState n high e s)) = (takeoffState n high e s).withExchange n j (judgement s.event tau time) := by
      rw [released]
      exact judgeExchange_eq (takeoffState_count h) j tau time
    rw [judged] at taken
    exact ⟨_, taken, takeoffState_judged h few _⟩
  · rw [takeTakeoff_stored (by rw [released]; exact few) (at_entry.trans present) untimed] at taken
    refine ⟨_, taken, edgeTaken_withLanes h.confirms _, takeoffState_others, ?_⟩
    refine (takeoffState_lane h).trans ?_
    have few' : l.released.takeoffs < 3 := few
    exact tookOff_eq few'

end Sys2Proof.Machine
end

section
/-!
The start (R44 to R47), and what an operation on each lane in turn does to the lanes and the rows.
-/
namespace Sys2Proof.Machine

/-! ## One operation for each lane in turn -/

theorem getElem?_foldl_modify {α : Type} {ns : List Nat} (nodup : ns.Nodup) (f : Nat → α → α) (xs : List α) (i : Nat) :
    (ns.foldl (fun ys n => ys.modify n (f n)) xs)[i]? = xs[i]?.map (fun x => if i ∈ ns then f i x else x) := by
  induction ns generalizing xs with
  | nil => simp
  | cons n ns ih =>
    obtain ⟨fresh, rest⟩ := List.nodup_cons.mp nodup
    rw [List.foldl_cons, ih rest, List.getElem?_modify]
    by_cases hi : n = i
    · subst hi
      cases xs[n]? <;> simp [fresh]
    · have other : i ≠ n := Ne.symm hi
      cases xs[i]? <;> simp [hi, other]

/-- An operation on lane `n` changes its record by `f n` and marks the rows `g n` of it. -/
def ActsOnLane (f : Nat → Lane → Lane) (g : Nat → Lane → List Nat) (op : Nat → State → State) (s : State) : Prop :=
  ∀ (n : Nat) (ls : List Lane) (b : Board), op n { s with lanes := ls, board := b }
    = { s with
        lanes := ls.modify n (f n), board := b.markedAll (g n (({ s with lanes := ls, board := b } : State).lane n)) }

/-- Such an operation for each of several lanes in turn. -/
theorem forEach_actsOnLane {f : Nat → Lane → Lane} {g : Nat → Lane → List Nat} {op : Nat → State → State} {s : State}
    (acts : ActsOnLane f g op s) {ns : List Nat} (nodup : ns.Nodup) :
    forEach ns op s = { s with
      lanes := ns.foldl (fun ls n => ls.modify n (f n)) s.lanes
      board := s.board.markedAll (ns.flatMap (fun n => g n (s.lane n))) } := by
  have general (ls : List Lane) (b : Board) (ns : List Nat) (nodup : ns.Nodup) : forEach ns op { s with lanes := ls, board := b }
      = { s with
          lanes := ns.foldl (fun ls n => ls.modify n (f n)) ls
          board := b.markedAll (ns.flatMap (fun n => g n (({ s with lanes := ls } : State).lane n))) } := by
    induction ns generalizing ls b with
    | nil => rfl
    | cons n ns ih =>
      obtain ⟨fresh, rest⟩ := List.nodup_cons.mp nodup
      have step := acts n ls b
      have same : ns.flatMap (fun m => g m (({ s with lanes := ls.modify n (f n) } : State).lane m))
          = ns.flatMap (fun m => g m (({ s with lanes := ls } : State).lane m)) := by
        refine List.flatMap_congr fun m hm => ?_
        have other : m ≠ n := fun h => fresh (h ▸ hm)
        exact congrArg (g m) (lane_updLane_other other (f n) { s with lanes := ls })
      have unfold_ : forEach (n :: ns) op { s with lanes := ls, board := b } = forEach ns op (op n { s with lanes := ls, board := b }) := rfl
      rw [unfold_, step, ih _ _ rest, same, List.flatMap_cons, Board.markedAll_append]
      rfl
  exact general s.lanes s.board ns nodup

theorem lane_foldl_modify {s t : State} {ns : List Nat} (nodup : ns.Nodup) (f : Nat → Lane → Lane)
    (h : t.lanes = ns.foldl (fun ls n => ls.modify n (f n)) s.lanes) {m : Nat} (hm : m < s.lanes.length) :
    t.lane m = if m ∈ ns then f m (s.lane m) else s.lane m := by
  rw [State.lane, List.getD_eq_getElem?_getD, h, getElem?_foldl_modify nodup, State.lane, List.getD_eq_getElem?_getD,
    List.getElem?_eq_getElem hm]
  simp

theorem length_foldl_modify {α : Type} (ns : List Nat) (f : Nat → α → α) (xs : List α) :
    (ns.foldl (fun ys n => ys.modify n (f n)) xs).length = xs.length := by
  induction ns generalizing xs with
  | nil => rfl
  | cons n ns ih => rw [List.foldl_cons, ih, List.length_modify]

theorem lane_beyond {s : State} {m : Nat} (hm : s.lanes.length ≤ m) : s.lane m = Lane.blank := by
  simp [State.lane, hm]

/-! ## The lanes at the start (R44, R47) -/

/-- A lane at an accepted START (R44 steps 2 and 3, R47). -/
def Lane.started (ev : EventDesc) (start now : Tick) (l : Lane) : Lane :=
  if l.state = .set then
    match ev.start, l.reactionTick with
    | .dive, some r =>
      { l with state := .swimming, reaction := some (reactionValue start r now)
               earlyRelease := l.earlyRelease || decide (reactionValue start r now < 0) }
    | _, _ => { l with state := .swimming }
  else l

/-- The rows that a lane's start marks (R26). -/
def startRows (n : Nat) (l : Lane) : List Nat := if l.state = .set then [n + 1, n + 12] else []

theorem startLane_acts (start : Tick) (s : State) :
    ActsOnLane (fun _ => Lane.started s.event start s.tick) startRows (startLane start) s := by
  intro n ls b
  generalize hu : ({ s with lanes := ls, board := b } : State) = u
  have event : u.event = s.event := by rw [← hu]; rfl
  have tick : u.tick = s.tick := by rw [← hu]
  suffices h : startLane start n u = { u with
      lanes := u.lanes.modify n (Lane.started s.event start s.tick), board := u.board.markedAll (startRows n (u.lane n)) } by
    rw [h, ← hu]
  unfold startLane startRows
  by_cases set : (u.lane n).state = .set
  · have moved : setLaneState n .swimming u
        = { u with lanes := u.lanes.modify n (Lane.toState .swimming), board := u.board.markedAll [n + 1, n + 12] } := by
      rw [setLaneState_changes (by simp [set]), if_neg (by simp [set]), markLaneRows_eq]
      rfl
    rw [if_pos set, if_pos set, moved, event, tick]
    dsimp only
    cases kind : s.event.start with
    | water =>
      have lanes : u.lanes.modify n (Lane.toState .swimming) = u.lanes.modify n (Lane.started s.event start s.tick) := by
        refine modify_congr_lane ?_
        rw [Lane.started, if_pos set, kind]
        rfl
      rw [← lanes]
    | dive =>
      cases held : (u.lane n).reactionTick with
      | none =>
        have lanes : u.lanes.modify n (Lane.toState .swimming) = u.lanes.modify n (Lane.started s.event start s.tick) := by
          refine modify_congr_lane ?_
          simp only [Lane.started, if_pos set, kind, held, Lane.toState]
        rw [← lanes]
      | some r =>
        have lanes : (u.lanes.modify n (Lane.toState .swimming)).modify n (fun l =>
              { l with reaction := some (reactionOf (leadFrom start r s.tick))
                       earlyRelease := l.earlyRelease || decide (reactionOf (leadFrom start r s.tick) < 0) })
            = u.lanes.modify n (Lane.started s.event start s.tick) := by
          rw [List.modify_modify_eq]
          refine modify_congr_lane ?_
          simp only [Lane.started, if_pos set, kind, held, reactionOf_leadFrom, Lane.toState, Function.comp]
        rw [← lanes]
        rfl
  · have lanes : u.lanes.modify n (Lane.started s.event start s.tick) = u.lanes := modify_self_lane (by rw [Lane.started, if_neg set])
    rw [if_neg set, if_neg set, lanes]
    rfl

/-! ## The notices and the lamps at the start (R44 steps 4 to 6) -/

/-- The EARLY_RELEASE notice of lane `n` at the start (R44 step 5). -/
def Link.withEarlyRelease (n : Nat) (l : Lane) (k : Link) : Link :=
  if l.reaction.any (fun r => decide (r < 0)) then k.withNotice 0x43 (byte n :: signedBytes l.reaction) else k

theorem startNotice_eq (n : Nat) (s : State) : startNotice n s = { s with link := s.link.withEarlyRelease n (s.lane n) } := by
  unfold startNotice Link.withEarlyRelease
  cases reaction : (s.lane n).reaction with
  | none => rfl
  | some r =>
    by_cases early : r < 0
    · simp [early, handEarlyRelease, handNotice_eq]
    · simp [early]

theorem forEach_startNotice (ns : List Nat) (s : State) : forEach ns startNotice s
    = { s with link := ns.foldl (fun k n => k.withEarlyRelease n (s.lane n)) s.link } := by
  induction ns generalizing s with
  | nil => rfl
  | cons n ns ih =>
    have step : forEach (n :: ns) startNotice s = forEach ns startNotice (startNotice n s) := rfl
    rw [step, startNotice_eq, ih]
    rfl

theorem forEach_triggerFlash (ns : List Nat) (s : State) : forEach ns triggerFlash s = { s with lamps := { s.lamps with
    startFlash := ns.foldl (fun xs n => xs.modify n (LampTimer.pulse s.tick s.options.flashWidth)) s.lamps.startFlash } } := by
  induction ns generalizing s with
  | nil => rfl
  | cons n ns ih =>
    have step : forEach (n :: ns) triggerFlash s = forEach ns triggerFlash (triggerFlash n s) := rfl
    rw [step, ih]
    rfl

theorem setBits_congr {f g : Nat → Bool} (k : Nat) (h : ∀ i < k, f i = g i) : setBits f k = setBits g k := by
  induction k with
  | zero => rfl
  | succ k ih => rw [setBits, setBits, ih fun i hi => h i (by omega), h k (by omega)]

theorem laneSet_congr {f g : Nat → Bool} (h : ∀ i < 10, f i = g i) : laneSet f = laneSet g := by
  rw [laneSet, laneSet, setBits_congr 10 h]

/-- The lanes that an accepted START takes (R44). -/
def State.starters (s : State) : List Nat := (List.range 10).filter (fun n => decide ((s.lane n).state = .set))

theorem nodup_starters (s : State) : s.starters.Nodup := List.nodup_range.filter _

theorem mem_starters {s : State} {n : Nat} : n ∈ s.starters ↔ n < 10 ∧ (s.lane n).state = .set := by
  simp [State.starters]

/-- The state of an accepted START before the notices and the lamps (R44 steps 1 to 3). -/
def startedState (e : Tick) (s : State) : State := { s with
  race := { s.race with state := .running, startTick := some e, pastLimit := false }
  lanes := (List.range 10).foldl (fun ls n => ls.modify n (Lane.started s.event e s.tick)) s.lanes
  board := (s.board.markedAll ((List.range 10).flatMap (fun n => startRows n (s.lane n)))).marked 0
  link := (s.link.withRaceState .running .armed s.race.event).withNotice 0x41
    (tickBytes (some e) ++ laneSet (fun n => decide ((s.lane n).state = .set))) }

theorem startRace_eq {e : Tick} {s : State} (armed : s.race.state = .armed) : startRace e s = { startedState e s with
    link := s.starters.foldl (fun k n => k.withEarlyRelease n ((startedState e s).lane n)) (startedState e s).link
    lamps := { s.lamps with
      startFlash := s.starters.foldl (fun xs n => xs.modify n (LampTimer.pulse s.tick s.options.flashWidth)) s.lamps.startFlash } } := by
  have acts := startLane_acts e { s with race := { s.race with startTick := some e } }
  have moved := forEach_actsOnLane acts (ns := List.range 10) List.nodup_range
  have set : laneSet (fun n => s.starters.contains n) = laneSet (fun n => decide ((s.lane n).state = .set)) :=
    laneSet_congr fun i hi => by simp [mem_starters, hi]
  have running : setRaceState .running (forEach (List.range 10) (startLane e) { s with race := { s.race with startTick := some e } })
      = { startedState e s with link := s.link.withRaceState .running .armed s.race.event } := by
    rw [moved, setRaceState_eq (by simp [armed])]
    simp only [armed]
    rfl
  unfold startRace
  dsimp only
  rw [show laneNumbers = List.range 10 from rfl, running, forEach_triggerFlash, forEach_startNotice, handNotice_eq]
  rw [← State.starters, set]
  rfl

/-! ## The start as a whole -/

theorem startedState_lane {e : Tick} {s : State} (count : s.lanes.length = 10) (n : Nat) :
    (startedState e s).lane n = (s.lane n).started s.event e s.tick := by
  by_cases hn : n < s.lanes.length
  · rw [lane_foldl_modify (s := s) (t := startedState e s) List.nodup_range _ rfl hn, if_pos (by simp; omega)]
  · have len : (startedState e s).lanes.length = s.lanes.length := length_foldl_modify _ _ _
    rw [lane_beyond (by omega), lane_beyond (by omega)]
    rfl

theorem started_other {ev : EventDesc} {start now : Tick} {l : Lane} (h : l.state ≠ .set) : l.started ev start now = l := if_neg h

theorem started_held {ev : EventDesc} {start now r : Tick} {l : Lane} (h : l.state = .set) (dive : ev.start = .dive)
    (held : l.reactionTick = some r) : l.started ev start now = { l with
      state := .swimming, reaction := some (reactionValue start r now)
      earlyRelease := l.earlyRelease || decide (reactionValue start r now < 0) } := by
  simp only [Lane.started, if_pos h, dive, held]

theorem started_unheld {ev : EventDesc} {start now : Tick} {l : Lane} (h : l.state = .set)
    (no : ev.start = .water ∨ l.reactionTick = none) : l.started ev start now = { l with state := .swimming } := by
  rcases no with water | first
  · simp only [Lane.started, if_pos h, water]
  · cases kind : ev.start <;> simp only [Lane.started, if_pos h, kind, first]

/-- The early releases of the started lanes, in lane order. -/
theorem earlyReleases_eq (s t : State) (k : Link) :
    s.starters.foldl (fun k n => k.withEarlyRelease n (t.lane n)) k
      = ((List.range 10).filter (fun n => decide ((s.lane n).state = .set) && (t.lane n).reaction.any (fun r => decide (r < 0)))).foldl
          (fun l n => l.withNotice 0x43 (byte n :: signedBytes (t.lane n).reaction)) k := by
  rw [State.starters, List.foldl_filter, List.foldl_filter]
  refine List.foldl_ext _ _ _ fun l n _ => ?_
  cases decide ((s.lane n).state = .set) <;> simp [Link.withEarlyRelease]

theorem flash_eq {s : State} (count : s.lanes.length = 10) (f : LampTimer → LampTimer) (xs : List LampTimer) :
    s.starters.foldl (fun ys n => ys.modify n f) xs
      = xs.zipIdx.map (fun x => if (s.lane x.2).state = .set then f x.1 else x.1) := by
  refine List.ext_getElem? fun i => ?_
  have iff : i ∈ s.starters ↔ (s.lane i).state = .set := by
    rw [mem_starters]
    refine ⟨fun h => h.2, fun h => ⟨?_, h⟩⟩
    by_contra beyond
    rw [lane_beyond (by omega)] at h
    cases h
  rw [getElem?_foldl_modify (nodup_starters s) (fun _ => f), List.getElem?_map, List.getElem?_zipIdx]
  cases xs[i]? <;> simp [iff]

theorem startRows_eq (s : State) : (List.range 10).flatMap (fun n => startRows n (s.lane n))
    = s.starters.flatMap (fun n => [n + 1, n + 12]) := by
  rw [State.starters]
  generalize List.range 10 = ns
  induction ns with
  | nil => rfl
  | cons n ns ih =>
    rw [List.flatMap_cons, ih, List.filter_cons]
    by_cases set : (s.lane n).state = .set <;> simp [startRows, set]

theorem takeStart_accepted {e : Tick} {s : State} (count : s.lanes.length = 10) (armed : s.race.state = .armed)
    (set : ∃ l ∈ s.lanes, l.state = .set) : takeStart e s = startRace e s := by
  refine if_pos ⟨armed, List.any_eq_true.mpr ?_⟩
  obtain ⟨l, hl, state⟩ := set
  obtain ⟨n, hn, rfl⟩ := exists_lane_of_mem hl
  exact ⟨n, List.mem_range.mpr (show n < 10 by omega), decide_eq_true state⟩

/-- The state behind an accepted START, but for the watch. -/
def startedWhole (e : Tick) (s : State) : State := { startedState e s with
  link := s.starters.foldl (fun k n => k.withEarlyRelease n ((startedState e s).lane n)) (startedState e s).link
  lamps := { s.lamps with
    startFlash := s.starters.foldl (fun xs n => xs.modify n (LampTimer.pulse s.tick s.options.flashWidth)) s.lamps.startFlash } }

theorem startedWhole_rows (e : Tick) (s : State) :
    let rows := 0 :: s.starters.flatMap (fun n => [n + 1, n + 12])
    RowsMarked rows rows s (startedWhole e s) := by
  intro rows
  have first : RowsMarked (s.starters.flatMap (fun n => [n + 1, n + 12])) (s.starters.flatMap (fun n => [n + 1, n + 12])) s
      { s with board := s.board.markedAll (s.starters.flatMap (fun n => [n + 1, n + 12])) } := rowsMarked_markedAll rfl
  have second : RowsMarked [0] [0] { s with board := s.board.markedAll (s.starters.flatMap (fun n => [n + 1, n + 12])) }
      (startedWhole e s) := rowsMarked_marked (by rw [← startRows_eq]; rfl)
  exact (first.trans second).mono (by simp [rows]) (by simp [rows])

theorem startedWhole_holds (e : Tick) (s : State) : HoldsKept s (startedWhole e s) :=
  (Board.marked_holds _ _).trans (Board.markedAll_holds _ _)

/-- Settles O9. -/
theorem startStartsTheRace : Obligations.StartStartsTheRace := by
  intro s high e confirms delivers count armed set
  have accepted : takeCapture (.start e.lead) (edgeConfirmedState 60 high e s)
      = watchCheck (startedWhole e.lead (edgeConfirmedState 60 high e s)) :=
    congrArg watchCheck ((takeStart_accepted (s := edgeConfirmedState 60 high e s) count armed set).trans
      (startRace_eq (s := edgeConfirmedState 60 high e s) armed))
  have exec_ := (exec_edgeConfirmed_start rfl confirms delivers).trans (congrArg Host.Outcome.next accepted)
  generalize ht : watchCheck (startedWhole e.lead (edgeConfirmedState 60 high e s)) = t at exec_
  have lane (n : Nat) : t.lane n = (s.lane n).started s.event e.lead s.tick := by
    rw [← ht, lane_of_lanes (watchCheck_lanes _) n]
    exact startedState_lane (s := edgeConfirmedState 60 high e s) count n
  have board : t.board = (startedWhole e.lead (edgeConfirmedState 60 high e s)).board := by rw [← ht, watchCheck_board]
  refine ⟨t, exec_, ?_, ?_, fun n unset => ?_, fun n isSet => ⟨fun r dive held => ?_, fun no => ?_⟩, ?_, ?_, ?_, ?_⟩
  · refine (edgeTaken_edgeConfirmedState confirms).andThen (changesOnly_of_outer ?_) (by simp) (by simp)
    rw [← ht, outer_watchCheck]
    rfl
  · rw [← ht, watchCheck_race]
    rfl
  · rw [lane, started_other unset]
  · rw [lane, started_held isSet dive held]
  · rw [lane, started_unheld isSet no]
  · rw [← ht, watchCheck_lamps]
    have flash := flash_eq count (LampTimer.pulse s.tick s.options.flashWidth) s.lamps.startFlash
    rw [← flash]
    rfl
  · have holds := startedWhole_holds e.lead (edgeConfirmedState 60 high e s)
    rw [HoldsKept, board]
    exact holds
  · exact ((startedWhole_rows e.lead (edgeConfirmedState 60 high e s)).of_boards (s' := s) rfl rfl).of_board board
  · have vector : t.vector = (startedWhole e.lead (edgeConfirmedState 60 high e s)).vector := by rw [← ht, watchCheck_vector]
    have started (n : Nat) : (startedState e.lead (edgeConfirmedState 60 high e s)).lane n = t.lane n := by
      rw [lane]
      exact startedState_lane (s := edgeConfirmedState 60 high e s) count n
    have early := earlyReleases_eq s t (startedState e.lead (edgeConfirmedState 60 high e s)).link
    have link : (startedWhole e.lead (edgeConfirmedState 60 high e s)).link
        = s.starters.foldl (fun k n => k.withEarlyRelease n (t.lane n)) (startedState e.lead (edgeConfirmedState 60 high e s)).link := by
      simp only [← started]
      rfl
    rw [vector]
    refine (congrArg State.link (ht.symm.trans (watchCheck_eq _))).trans ?_
    dsimp only
    rw [link, early]
    rfl

end Sys2Proof.Machine
end

section
/-!
ADJUST_LENGTH (R72, R73, R104): the append of an INSERTED entry, and the removal of the tail entry with the withdrawal of its
exchange's judgement.
-/
namespace Sys2Proof.Machine

/-! ## A request accepted (R72) -/

section
variable {f : Frame} {rest : List Frame} {b d : Byte} {s : State}

theorem adjustCheck_accepts (hp : f.payload = [b, d]) (running : s.race.state = .running) (hn : b.toNat < 10)
    (swimming : (s.lane b.toNat).state = .swimming)
    (hd : (d = 0x01 ∧ (s.lane b.toNat).done + 1 < s.event.total) ∨ (d = 0xFF ∧ 0 < (s.lane b.toNat).done)) :
    adjustCheck f.payload s = none := by
  have first : byteAt f.payload 0 = b := by simp [hp, byteAt]
  have second : byteAt f.payload 1 = d := by simp [hp, byteAt]
  have lane : ¬ Config.laneCount ≤ b.toNat := Nat.not_le.mpr hn
  unfold adjustCheck
  dsimp only
  rw [first, second, if_neg (not_not.mpr running), if_neg lane, if_neg (not_not.mpr swimming)]
  rcases hd with ⟨rfl, room⟩ | ⟨rfl, some⟩
  · rw [if_neg (by simp), if_neg fun h => absurd h.2 (Nat.not_le.mpr room), if_neg fun h => absurd h.1 (by decide)]
  · rw [if_neg (by simp), if_neg fun h => absurd h.1 (by decide), if_neg fun h => absurd h.2 some.ne']

theorem adjustReply_eq {t : State} {n : Nat} (hk : f.kind = 0x13) : adjustReply f n t
    = { t with link := t.link.replied f .ok [byte n, byte (t.lane n).done] } := putReply_eq (by simp [hk]) _ _ _

theorem exec_adjustPlus (h : HeadRequest f rest s) (hk : f.kind = 0x13) (hp : f.payload = [b, 0x01])
    (running : s.race.state = .running) (hn : b.toNat < 10) (swimming : (s.lane b.toNat).state = .swimming)
    (room : (s.lane b.toNat).done + 1 < s.event.total) : exec .adjustLengthPlusOne s
      = .next (adjustReply f b.toNat (syncFinalLength b.toNat (appendSplit b.toNat .inserted none false (popRequest s)))) := by
  have first : byteAt f.payload 0 = b := by simp [hp, byteAt]
  have mine : adjustMine 0x01 f.payload = true := by simp [hp, adjustMine, byteAt]
  have taken : exec .adjustLengthPlusOne s = .next (actAdjustPlus f (popRequest s)) :=
    exec_taken (r := ⟨0x13, adjustMine 0x01, fun n => decide (n = 2), fun _ => [], actAdjustPlus⟩) rfl h hk mine (by simp [hp])
  have accepts : adjustCheck f.payload (popRequest s) = none :=
    adjustCheck_accepts (s := popRequest s) hp running hn swimming (.inl ⟨rfl, room⟩)
  rw [taken, actAdjustPlus]
  simp only [accepts, first]

theorem exec_adjustMinus (h : HeadRequest f rest s) (hk : f.kind = 0x13) (hp : f.payload = [b, 0xFF])
    (running : s.race.state = .running) (hn : b.toNat < 10) (swimming : (s.lane b.toNat).state = .swimming)
    (some : 0 < (s.lane b.toNat).done) : exec .adjustLengthMinusOne s
      = .next (adjustReply f b.toNat (removeTail b.toNat (popRequest s))) := by
  have first : byteAt f.payload 0 = b := by simp [hp, byteAt]
  have mine : adjustMine 0xFF f.payload = true := by simp [hp, adjustMine, byteAt]
  have taken : exec .adjustLengthMinusOne s = .next (actAdjustMinus f (popRequest s)) :=
    exec_taken (r := ⟨0x13, adjustMine 0xFF, fun n => decide (n = 2), fun _ => [], actAdjustMinus⟩) rfl h hk mine (by simp [hp])
  have accepts : adjustCheck f.payload (popRequest s) = none :=
    adjustCheck_accepts (s := popRequest s) hp running hn swimming (.inr ⟨rfl, some⟩)
  rw [taken, actAdjustMinus]
  simp only [accepts, first]

end

/-! ## The withdrawal of a judgement (R104) -/

/-- An exchange whose judgement is withdrawn (R104). -/
def Exchange.withdrawn (x : Exchange) : Exchange :=
  { x with margin := none, status := if x.takeoff = none then .none else .pending }

/-- The exchange that the removal of the entry of length `k` changes, and what it becomes (R104). -/
def withdrawal (ev : EventDesc) (l : Lane) (k : Nat) : Option (Nat × Exchange) :=
  (exchangeAt ev k).bind fun j => if (l.exchange j).status = .none then none else some (j, (l.exchange j).withdrawn)

theorem withdrawn_status (x : Exchange) : x.withdrawn.status ≠ .early := by
  unfold Exchange.withdrawn
  dsimp only
  split <;> simp

/-- What the withdrawal of a judgement does; the marking of the lane's row follows where the lane's only EARLY judgement goes. -/
structure Withdrawn (n : Nat) (o : Option (Nat × Exchange)) (s t : State) : Prop where
  lanes : t.lanes = s.lanes.modify n (Lane.withOutcome o)
  link : t.link = s.link.withOutcome n o
  rows : RowsMarked [] [n + 1] s t
  holds : HoldsKept s t
  lamps : t.lamps = s.lamps
  race : t.race = s.race
  outer : t.outer = s.outer

theorem withdrawn_refl (n : Nat) (s : State) : Withdrawn n none s s where
  lanes := (modify_self_lane rfl).symm
  link := rfl
  rows := (RowsMarked.refl s).mono (by simp) (by simp)
  holds := rfl
  lamps := rfl
  race := rfl
  outer := rfl

theorem withdrawExchange_withdrawn {s : State} {n : Nat} (hn : n < s.lanes.length) (k : Nat) :
    Withdrawn n (withdrawal s.event (s.lane n) k) s (withdrawExchange n k s) := by
  unfold withdrawExchange withdrawal
  cases exchangeAt s.event k with
  | none => exact withdrawn_refl n s
  | some j =>
    dsimp only [Option.bind_some]
    by_cases free : ((s.lane n).exchange j).status = .none
    · rw [if_pos free, if_pos free]
      exact withdrawn_refl n s
    · have same : ({ (s.lane n).exchange j with margin := none, status := if ((s.lane n).exchange j).takeoff.isSome then .pending else .none } : Exchange)
          = ((s.lane n).exchange j).withdrawn := by
        cases takeoff : ((s.lane n).exchange j).takeoff <;> simp [Exchange.withdrawn, takeoff]
      have handed := handExchange_updLane hn (exchange_setExchange j ((s.lane n).exchange j).withdrawn (s.lane n))
      have link : s.link.withOutcome n (some (j, ((s.lane n).exchange j).withdrawn))
          = s.link.withNotice 0x47 ([byte n, byte j, exchangeCode ((s.lane n).exchange j).withdrawn.status]
              ++ timeBytes ((s.lane n).exchange j).withdrawn.takeoff ++ signedBytes ((s.lane n).exchange j).withdrawn.margin) :=
        if_neg (withdrawn_status _)
      rw [if_neg free, if_neg free, same, handed, ← link]
      split
      · rw [markLaneRow_eq]
        exact ⟨rfl, rfl, (rowsMarked_marked rfl).mono (by simp) (by simp), Board.marked_holds _ _, rfl, rfl, rfl⟩
      · exact ⟨rfl, rfl, RowsMarked.mono (must := []) (may := []) (rowsMarked_none rfl) (by simp) (by simp), rfl, rfl, rfl, rfl⟩

/-! ## The removal of the tail entry (R73) -/

/-- What the removal of the tail entry of lane `n` does. -/
structure TailRemoved (n : Nat) (o : Option (Nat × Exchange)) (s t : State) : Prop where
  lane : t.lane n = (s.lane n).removeTail.withOutcome o
  others : OtherLanesKept n s t
  link : t.link = s.link.withOutcome n o
  rows : RowsMarked [n + 1, n + 12] [n + 1, n + 12] s t
  holds : HoldsKept s t
  lamps : t.lamps = { s.lamps with
    finalLength := s.lamps.finalLength.modify n (LampTimer.setInput s.tick s.options.offDelay
      (onFinalLength s.event (t.lane n))) }
  race : t.race = s.race
  outer : t.outer = s.outer

theorem removeTail_exchange (j : Nat) (l : Lane) : l.removeTail.exchange j = l.exchange j := rfl

theorem tailRemoved {s : State} {n : Nat} (hn : n < s.lanes.length) :
    TailRemoved n (withdrawal s.event (s.lane n) (s.lane n).done) s (removeTail n s) := by
  have lanes₁ : (markLaneRows n (s.updLane n Lane.removeTail)).lanes = s.lanes.modify n Lane.removeTail := markLaneRows_lanes _ _
  have lane₁ : (markLaneRows n (s.updLane n Lane.removeTail)).lane n = (s.lane n).removeTail := lane_of_modify lanes₁ hn
  have race₁ : (markLaneRows n (s.updLane n Lane.removeTail)).race = s.race := markLaneRows_race _ _
  have count₁ : n < (markLaneRows n (s.updLane n Lane.removeTail)).lanes.length := by rw [lanes₁, List.length_modify]; exact hn
  have gone := withdrawExchange_withdrawn count₁ (s.lane n).done
  have outcome : withdrawal (markLaneRows n (s.updLane n Lane.removeTail)).event
      ((markLaneRows n (s.updLane n Lane.removeTail)).lane n) (s.lane n).done = withdrawal s.event (s.lane n) (s.lane n).done := by
    rw [event_of_race race₁, lane₁]
    rfl
  rw [outcome] at gone
  generalize withdrawal s.event (s.lane n) (s.lane n).done = o at gone
  have marked : RowsMarked [n + 1, n + 12] [n + 1, n + 12] s (markLaneRows n (s.updLane n Lane.removeTail)) :=
    (rowsMarked_markLaneRows n (s.updLane n Lane.removeTail)).of_boards rfl rfl
  constructor
  · rw [removeTail, lane_of_lanes (syncFinalLength_lanes n _), lane_of_modify gone.lanes count₁, lane₁]
  · intro m hm
    rw [removeTail, lane_of_lanes (syncFinalLength_lanes n _), othersKept_of_modify gone.lanes m hm,
      othersKept_of_modify lanes₁ m hm]
  · rw [removeTail, syncFinalLength_link, gone.link, markLaneRows_link]
    rfl
  · exact ((marked.trans gone.rows).mono (by simp) (by simp)).of_board (syncFinalLength_board n _)
  · rw [HoldsKept, removeTail, syncFinalLength_board, gone.holds, holds_markLaneRows]
    rfl
  · have outer : (withdrawExchange n (s.lane n).done (markLaneRows n (s.updLane n Lane.removeTail))).outer = s.outer := by
      rw [gone.outer, outer_markLaneRows]
      rfl
    have lamps : (withdrawExchange n (s.lane n).done (markLaneRows n (s.updLane n Lane.removeTail))).lamps = s.lamps := by
      rw [gone.lamps, markLaneRows_lamps]
      rfl
    have event := (event_of_race gone.race).trans (event_of_race race₁)
    rw [removeTail, lane_of_lanes (syncFinalLength_lanes n _), syncFinalLength_eq]
    simp only [lamps, outer_tick outer, outer_options outer, event]
  · rw [removeTail, syncFinalLength_race, gone.race, race₁]
  · rw [removeTail, outer_syncFinalLength, gone.outer, outer_markLaneRows]
    rfl

/-- The removal as the statements tell it: the tail entry is `x`. -/
theorem removeTail_of_splits {l : Lane} {xs : List Split} {x : Split} (h : l.splits = xs ++ [x]) : l.removeTail = { l with
    splits := xs, done := l.done - 1, misses := if x.kind = .missed then l.misses - 1 else l.misses } := by
  simp [Lane.removeTail, h]

theorem withOutcome_state (o : Option (Nat × Exchange)) (l : Lane) : (l.withOutcome o).state = l.state :=
  withOutcome_keeps Lane.state setExchange_state o l

theorem withOutcome_done (o : Option (Nat × Exchange)) (l : Lane) : (l.withOutcome o).done = l.done :=
  withOutcome_keeps Lane.done setExchange_done o l

theorem alertAfter_unjudged (n j : Nat) (l : Lane) (s : State) : alertAfter n (l.unjudged j) s = s.lamps.takeoffAlert := by
  rw [alertAfter, Lane.unjudged, if_neg (by simp)]

/-- Settles O42. -/
theorem adjustLengthMovesTheCount : Obligations.AdjustLengthMovesTheCount := by
  refine ⟨fun s f rest b h hk hp => ?_, fun s f rest b xs x h hk hp => ?_⟩
  · intro n l k entry appended running hn count swimming room
    have hn' : n < (popRequest s).lanes.length := (count ▸ hn : n < s.lanes.length)
    have done := appendDone hn' .inserted none false
    have taken := exec_adjustPlus h hk hp running hn swimming room
    generalize syncFinalLength b.toNat (appendSplit b.toNat .inserted none false (popRequest s)) = t at done taken
    have lane := lane_of_modify done.lanes hn'
    have link := done.link
    rw [popRequest_head h] at link
    have reply : [byte n, byte (t.lane n).done] = [b, byte k] := by
      rw [lane, Lane.appended_done, byte_toNat]
      rfl
    rw [adjustReply_eq hk, reply] at taken
    refine ⟨_, taken, othersKept_of_modify done.lanes, fun free => ?_, fun j kind leg low high at_j => ?_, ?_, ?_, ?_, ?_⟩
    · have unchanged : exchangeOutcome s.event l (nextEntry l .inserted none false) = none :=
        exchangeOutcome_none (exchangeAt_noExchange free)
      refine ⟨?_, ?_⟩
      · exact lane.trans (congrArg (Lane.withOutcome · appended) unchanged)
      · refine congrArg (Link.replied f .ok [b, byte k]) (link.trans ?_)
        exact congrArg (Link.withOutcome n · ((s.link.taken rest).withNotice 0x44 (splitNotice n entry))) unchanged
    · have at_k : exchangeAt s.event (l.done + 1) = some j := exchangeAt_eq_some_iff.mpr ⟨kind, leg, low, high, at_j⟩
      have unjudged : exchangeOutcome s.event l (nextEntry l .inserted none false) = some (j, l.unjudged j) := by
        rw [exchangeOutcome, nextEntry, at_k]
        rfl
      refine ⟨?_, ?_⟩
      · exact lane.trans (congrArg (Lane.withOutcome · appended) unjudged)
      · refine congrArg (Link.replied f .ok [b, byte k]) (link.trans ?_)
        exact congrArg (Link.withOutcome n · ((s.link.taken rest).withNotice 0x44 (splitNotice n entry))) unjudged
    · exact done.rows.of_boards rfl rfl
    · exact done.holds (by simp)
    · have alerts : alertsAfter n (exchangeOutcome s.event l (nextEntry l .inserted none false)) s = s.lamps.takeoffAlert := by
        rw [exchangeOutcome, nextEntry]
        cases exchangeAt s.event (l.done + 1) with
        | none => rfl
        | some j => exact alertAfter_unjudged n j l s
      refine done.lamps.trans ?_
      have same : alertsAfter n (exchangeOutcome (popRequest s).event ((popRequest s).lane n)
          (nextEntry ((popRequest s).lane n) .inserted none false)) (popRequest s) = s.lamps.takeoffAlert := alerts
      have counts : decide (8 ≤ (popRequest s).event.total ∧ ((popRequest s).lane n).state = .swimming
          ∧ ((popRequest s).lane n).done + 2 = (popRequest s).event.total) = decide (8 ≤ s.event.total ∧ k + 1 = s.event.total) :=
        decide_eq_decide.mpr (and_congr_right fun _ => and_iff_right swimming)
      rw [same, counts]
      rfl
    · exact changesOnly_append done.race done.outer
  · intro n l removed running hn count swimming length splits
    have hn' : n < (popRequest s).lanes.length := (count ▸ hn : n < s.lanes.length)
    have gone := tailRemoved hn'
    have taken := exec_adjustMinus h hk hp running hn swimming length
    generalize removeTail b.toNat (popRequest s) = t at gone taken
    have lane : t.lane n = removed.withOutcome (withdrawal s.event l l.done) := by
      rw [gone.lane]
      exact congrArg (Lane.withOutcome (withdrawal s.event l l.done)) (removeTail_of_splits (l := l) splits)
    have link : t.link = (s.link.taken rest).withOutcome n (withdrawal s.event l l.done) := by
      rw [gone.link, popRequest_head h]
      rfl
    have reply : [byte n, byte (t.lane n).done] = [b, byte (l.done - 1)] := by
      rw [lane, withOutcome_done, byte_toNat]
    rw [adjustReply_eq hk, reply] at taken
    have whole {o : Option (Nat × Exchange)} (ho : withdrawal s.event l l.done = o) :
        t.lane n = removed.withOutcome o
          ∧ t.link.replied f .ok [b, byte (l.done - 1)]
            = ((s.link.taken rest).withOutcome n o).replied f .ok [b, byte (l.done - 1)] := by
      rw [lane, link, ho]
      exact ⟨rfl, rfl⟩
    refine ⟨_, taken, gone.others, fun free => whole (o := none) ?_, fun j kind leg low high at_j => ?_, ?_, gone.holds, ?_, ?_⟩
    · rw [withdrawal, exchangeAt_noExchange free, Option.bind_none]
    · have at_k : exchangeAt s.event l.done = some j := exchangeAt_eq_some_iff.mpr ⟨kind, leg, low, high, at_j⟩
      refine ⟨fun free => whole (o := none) ?_, fun judged => whole (o := some (j, (l.exchange j).withdrawn)) ?_⟩
      · rw [withdrawal, at_k]
        exact if_pos free
      · rw [withdrawal, at_k]
        exact if_neg judged
    · exact gone.rows.of_boards rfl rfl
    · have on : onFinalLength s.event (t.lane n)
          = decide (8 ≤ s.event.total ∧ l.done = s.event.total) := by
        rw [lane, onFinalLength, withOutcome_state, withOutcome_done]
        have state : removed.state = .swimming := swimming
        have back : removed.done + 1 = l.done := Nat.sub_add_cancel length
        simp [state, back]
      refine gone.lamps.trans ?_
      have same : onFinalLength (popRequest s).event (t.lane n)
          = decide (8 ≤ s.event.total ∧ l.done = s.event.total) := on
      rw [same]
      rfl
    · exact changesOnly_append gone.race gone.outer

end Sys2Proof.Machine
end

section
/-!
ADJUDICATE (R116, R117) and DECLARE (R111 to R115): a lane record changed by a ruling, the ranking and the record set that follow,
and the lane that leaves the race.
-/
namespace Sys2Proof.Machine

/-! ## The answer of a request that can change a state code -/

/-- The state once the watch check has seen it and the request `f` is answered (R168, R171). -/
def State.answered (f : Frame) (c : ReplyCode) (fields : List Byte) (s : State) : State :=
  { s with link := (s.link.seen s.vector).replied f c fields }

theorem putReply_watchCheck {f : Frame} (hk : f.kind.toNat < 0x80) (c : ReplyCode) (fields : List Byte) (s : State) :
    putReply f c fields (watchCheck s) = s.answered f c fields := by
  rw [putReply_eq hk, watchCheck_eq]
  rfl

/-! ## A lane record changed before the ranking is computed anew (R109, R110) -/

/-- Lane `n`'s record has become `l`, places and record sets standing, and the notices `xs` have been handed. -/
structure BeforeRanking (n : Nat) (l : Lane) (xs : List (Byte × List Byte)) (s u : State) : Prop where
  count : n < u.lanes.length
  lane : u.lane n = l
  place : l.place = (s.lane n).place
  records : l.records = (s.lane n).records
  others : OtherLanesKept n s u
  race : u.race = s.race
  link : u.link = s.link.withNotices xs
  holds : HoldsKept s u
  lamps : u.lamps = s.lamps
  outer : u.outer = s.outer

/-- What the ranking and the record check behind such a change leave. -/
structure RankedFrom (n : Nat) (l : Lane) (xs : List (Byte × List Byte)) (s t : State) : Prop where
  lane : t.lane n = { l with place := (t.lane n).place, records := (t.lane n).records }
  ranked : Ranked n s t
  others : OtherLanesKeptButPlaces n s t
  race : t.race = { s.race with ranking := t.race.ranking }
  link : t.link = s.link.withNotices (xs ++ placesNotice s.places t.places ++ recordNotice n s t)
  holds : HoldsKept s t
  lamps : { t.lamps with record := s.lamps.record } = s.lamps
  outer : t.outer = s.outer

theorem BeforeRanking.samePlace {n : Nat} {l : Lane} {xs : List (Byte × List Byte)} {s u : State} (h : BeforeRanking n l xs s u)
    (m : Nat) : (u.lane m).place = (s.lane m).place := by
  by_cases hm : m = n
  · rw [hm, h.lane, h.place]
  · rw [h.others m hm]

theorem BeforeRanking.placeRows {n : Nat} {l : Lane} {xs : List (Byte × List Byte)} {s u : State} (h : BeforeRanking n l xs s u)
    (t : State) : placeRows u t = placeRows s t := by
  simp only [Machine.placeRows, h.samePlace]

theorem BeforeRanking.rankedFrom {n : Nat} {l : Lane} {xs : List (Byte × List Byte)} {s u : State}
    (h : BeforeRanking n l xs s u) : RankedFrom n l xs s (recordCheck n (recomputeRanking u)) := by
  have re := reranked h.count
  generalize recordCheck n (recomputeRanking u) = t at re
  have records : recordNotice n u t = recordNotice n s t := by rw [recordNotice, h.lane, h.records, recordNotice]
  constructor
  · rw [← h.lane]
    exact re.lane
  · exact re.ranked.of_before (by rw [h.race]) (by rw [h.lane, h.records]) h.lamps h.outer
  · intro m hm
    rw [re.others m hm, h.others m hm]
  · rw [re.race, h.race]
  · rw [re.link, h.link, places_of_lanes h.samePlace, records]
    simp only [withNotices_append]
  · exact re.holds.trans h.holds
  · rw [re.lamps, h.lamps]
  · exact re.outer.trans h.outer

/-- The answer to a ruling: `rs` are the rows it marks besides those whose place changes. -/
theorem RankedFrom.answers {n : Nat} {l : Lane} {xs : List (Byte × List Byte)} {s t : State} {c : Instr} {f : Frame}
    {rest : List Frame} {fields : List Byte} {rs : List Nat} (request : HeadRequest f rest s)
    (taken : exec c s = .next (t.answered f .ok fields)) (h : RankedFrom n l xs (popRequest s) t)
    (rows : RowsMarked (rs ++ placeRows s t) (rs ++ placeRows s t) s t) :
    ∃ t, exec c s = .next t ∧ t.lane n = { l with place := (t.lane n).place, records := (t.lane n).records }
      ∧ Ranked n s t ∧ OtherLanesKeptButPlaces n s t ∧ t.race = { s.race with ranking := t.race.ranking }
      ∧ t.link = (((s.link.taken rest).withNotices (xs ++ placesNotice s.places t.places ++ recordNotice n s t)).seen
          t.vector).replied f .ok fields
      ∧ RowsMarked (rs ++ placeRows s t) (rs ++ placeRows s t) s t ∧ HoldsKept s t
      ∧ { t.lamps with record := s.lamps.record } = s.lamps
      ∧ ChangesOnly [.race, .lanes, .board, .lamps, .link] s t := by
  have link := h.link
  rw [popRequest_head request] at link
  refine ⟨_, taken, h.lane, ?_, h.others, h.race, ?_, rows.of_boards rfl rfl, h.holds, h.lamps, ?_⟩
  · exact ⟨h.ranked.places, ⟨h.ranked.ranking.members, h.ranked.ranking.ordered⟩, h.ranked.records, h.ranked.beacon⟩
  · exact congrArg (fun k => (Link.seen t.vector k).replied f .ok fields) link
  · exact changesOnly_of_outer h.outer

/-! ## ADJUDICATE (R116, R117) -/

/-- The lane record with its result replaced (R117). -/
def Lane.ruled (ev : Evidence) (src : ResultSource) (l : Lane) : Lane := (l.adjudicate ev src).toState .finished

/-- The state before an adjudicated result is ranked. -/
def adjudicateStart (n : Nat) (ev : Evidence) (src : ResultSource) (s : State) : State :=
  markLaneRows n (handSplit n (timedEntry s.event.total .final ev)
    (setLaneState n .finished (s.updLane n (Lane.adjudicate ev src))))

theorem adjudicateLane_eq (n : Nat) (ev : Evidence) (src : ResultSource) (s : State) :
    adjudicateLane n ev src s = recordCheck n (recomputeRanking (adjudicateStart n ev src s)) := by
  have event : (setLaneState n .finished (s.updLane n (Lane.adjudicate ev src))).event = s.event :=
    event_of_race (setLaneState_race _ _ _)
  rfl

section
variable {n : Nat} {ev : Evidence} {src : ResultSource} {s : State}

theorem adjudicateStart_lanes : (adjudicateStart n ev src s).lanes = s.lanes.modify n (Lane.ruled ev src) := by
  rw [adjudicateStart, markLaneRows_lanes, handSplit_lanes, setLaneState_lanes]
  exact List.modify_modify_eq _ _ _ _

theorem beforeRanking_adjudicateStart (hn : n < s.lanes.length) (hs : (s.lane n).state ≠ .swimming) :
    BeforeRanking n ((s.lane n).ruled ev src) [(0x44, splitNotice n (timedEntry s.event.total .final ev))] s
      (adjudicateStart n ev src s) where
  count := by rw [adjudicateStart_lanes, List.length_modify]; exact hn
  lane := lane_of_modify adjudicateStart_lanes hn
  place := rfl
  records := rfl
  others := othersKept_of_modify adjudicateStart_lanes
  race := by
    rw [adjudicateStart, markLaneRows_race, handSplit_race, setLaneState_race]
    rfl
  link := by
    rw [adjudicateStart, markLaneRows_link, handSplit_eq, setLaneState_link]
    rfl
  holds := by
    have state : ((s.updLane n (Lane.adjudicate ev src)).lane n).state ≠ .swimming := by
      rw [lane_updLane_same hn]
      exact hs
    rw [HoldsKept, adjudicateStart, holds_markLaneRows, handSplit_board, holds_setLaneState state]
    rfl
  lamps := by
    rw [adjudicateStart, markLaneRows_lamps, handSplit_lamps, setLaneState_lamps]
    rfl
  outer := by
    rw [adjudicateStart, outer_markLaneRows, outer_handSplit, outer_setLaneState]
    rfl

theorem rowsMarked_adjudicateStart : RowsMarked [n + 1, n + 12] [n + 1, n + 12] s (adjudicateStart n ev src s) := by
  have last (u : State) : RowsMarked [n + 1, n + 12] [n + 1, n + 12] u
      (markLaneRows n (handSplit n (timedEntry s.event.total .final ev) u)) :=
    (rowsMarked_markLaneRows n (handSplit n (timedEntry s.event.total .final ev) u)).of_boards (s' := u)
      (by rw [handSplit_board]) rfl
  by_cases same : ((s.updLane n (Lane.adjudicate ev src)).lane n).state = .finished
  · rw [adjudicateStart, setLaneState, if_pos same]
    exact (last (s.updLane n (Lane.adjudicate ev src))).of_boards rfl rfl
  · have first : RowsMarked [n + 1, n + 12] [n + 1, n + 12] s (setLaneState n .finished (s.updLane n (Lane.adjudicate ev src))) :=
      (rowsMarked_setLaneState same).of_boards rfl rfl
    exact (first.trans (last _)).mono (by simp) (by simp)

end

/-- The one FINAL entry, at the tail, is the entry whose time and mark are replaced. -/
theorem ruled_of_splits {l : Lane} {ev : Evidence} {src : ResultSource} {xs : List Split} {x : Split} {total : Nat}
    (splits : l.splits = xs ++ [x])
    (hx : x = timedEntry total .final { time := x.time.getD 0, overMark := x.overMark }) (others : ∀ y ∈ xs, y.kind ≠ .final) :
    l.ruled ev src = { l with
      state := .finished, source := src, reason := .none, splits := xs ++ [timedEntry total .final ev] } := by
  have kept : xs.map (fun e => if e.kind = .final then { e with time := some ev.time, overMark := ev.overMark } else e) = xs :=
    (List.map_congr_left fun y hy => if_neg (others y hy)).trans (List.map_id' xs)
  rw [Lane.ruled, Lane.adjudicate, splits, List.map_append, kept, hx]
  rfl


/-- What an ADJUDICATE carries. -/
structure Ruling (f : Frame) (b src : Byte) : Prop where
  kind : f.kind = 0x14
  length : f.payload.length = 6
  lane : byteAt f.payload 0 = b
  source : byteAt f.payload 1 = src

theorem ruling_of_take {f : Frame} {b src : Byte} (kind : f.kind = 0x14) (length : f.payload.length = 6)
    (h : f.payload.take 2 = [b, src]) : Ruling f b src := by
  have front (i : Nat) (hi : i < 2) : byteAt f.payload i = byteAt [b, src] i := by
    rw [← h, byteAt, byteAt, List.getD_eq_getElem?_getD, List.getD_eq_getElem?_getD, List.getElem?_take_of_lt hi]
  exact ⟨kind, length, front 0 (by omega), front 1 (by omega)⟩

section
variable {f : Frame} {rest : List Frame} {b src : Byte} {s : State}

theorem exec_adjudicate (h : HeadRequest f rest s) (hf : Ruling f b src) :
    exec .adjudicate s = .next (actAdjudicate f (popRequest s)) :=
  exec_taken (r := .plain 0x14 (fun n => decide (n = 6)) actAdjudicate) rfl h hf.kind rfl (decide_eq_true hf.length)

theorem adjudicate_refused {code : ReplyCode} (h : HeadRequest f rest s) (hf : Ruling f b src)
    (check : adjudicateCheck f.payload s = some code) : AnswersOnly .adjudicate f rest code [] s := by
  have low : f.kind.toNat < 0x80 := by simp [hf.kind]
  refine (exec_adjudicate h hf).trans (congrArg _ ((?_ : actAdjudicate f (popRequest s) = putReply f code [] (popRequest s)).trans
    (putReply_popRequest h low _ _)))
  have same : adjudicateCheck f.payload (popRequest s) = some code := check
  rw [actAdjudicate, same]

theorem adjudicate_accepted {ev : Evidence} {source : ResultSource} (h : HeadRequest f rest s) (hf : Ruling f b src)
    (check : adjudicateCheck f.payload s = none) (ruled : adjudicated f.payload (s.lane b.toNat) = some (ev, source)) :
    exec .adjudicate s = .next ((adjudicateLane b.toNat ev source (popRequest s)).answered f .ok
      ([b] ++ timeBytes (some ev.time) ++ [sourceCode source])) := by
  have low : f.kind.toNat < 0x80 := by simp [hf.kind]
  have same : adjudicateCheck f.payload (popRequest s) = none := check
  have lane : adjudicated f.payload ((popRequest s).lane b.toNat) = some (ev, source) := ruled
  refine (exec_adjudicate h hf).trans (congrArg _ ?_)
  rw [actAdjudicate, hf.lane, same, lane]
  dsimp only
  rw [byte_toNat, putReply_watchCheck low]

/-- The checks of R116 once the race state and the lane number stand. -/
theorem adjudicateCheck_lane (race : s.race.state = .running ∨ s.race.state = .unofficial) (hf : Ruling f b src)
    (hn : b.toNat < 10) : adjudicateCheck f.payload s
      = if (s.lane b.toNat).state ≠ .finished ∧ (s.lane b.toNat).state ≠ .review then some .wrongState
        else if 2 < src.toNat then some .outOfRange
        else if (adjudicated f.payload (s.lane b.toNat)).isNone then some .noSource
        else if src = 2 ∧ (field f.payload 2 4 < lengthLimit s.event (s.lane b.toNat) 1 ∨ Config.clockLimit < field f.payload 2 4)
          then some .outOfRange
        else none := by
  unfold adjudicateCheck
  dsimp only
  rw [hf.lane, hf.source, if_neg (fun h => race.elim h.1 h.2), if_neg (show ¬ Config.laneCount ≤ b.toNat from Nat.not_le.mpr hn)]

end

/-- Settles O44. -/
theorem adjudicateReplacesTheResult : Obligations.AdjudicateReplacesTheResult := by
  intro s f rest b src h hk length front race n l manual inReview right
  have hf := ruling_of_take hk length front
  have over_ : ¬ (s.race.state ≠ .running ∧ s.race.state ≠ .unofficial) := fun k => race.elim k.1 k.2
  have review (hr : inReview) : ¬ (l.state ≠ .finished ∧ l.state ≠ .review) := fun k => hr.elim k.1 k.2
  refine ⟨fun hn => ?_, fun hn hl => ?_, fun hn hr hs => ?_, fun hn hr none_ => ?_, fun hn hr hs wrong => ?_, ?_⟩
  · refine adjudicate_refused h hf ?_
    rw [adjudicateCheck, hf.lane]
    exact (if_neg over_).trans (if_pos hn)
  · refine adjudicate_refused h hf ((adjudicateCheck_lane race hf hn).trans (if_pos ?_))
    exact not_or.mp hl
  · refine adjudicate_refused h hf ((adjudicateCheck_lane race hf hn).trans ?_)
    rw [if_neg (review hr), if_pos hs]
  · refine adjudicate_refused h hf ((adjudicateCheck_lane race hf hn).trans ?_)
    have known : ¬ 2 < src.toNat := by
      rcases none_ with ⟨rfl, _⟩ | ⟨rfl, _⟩ <;> decide
    have absent : (adjudicated f.payload (s.lane b.toNat)).isNone = true := by
      rcases none_ with ⟨rfl, pad⟩ | ⟨rfl, candidate⟩
      · rw [adjudicated, hf.source, if_pos rfl]
        exact congrArg (fun o : Option Evidence => (o.map _).isNone) pad
      · rw [adjudicated, hf.source, if_neg (by decide), if_pos rfl]
        exact congrArg (fun o : Option Nat => (o.map _).isNone) candidate
    rw [if_neg (review hr), if_neg known, if_pos absent]
  · refine adjudicate_refused h hf ((adjudicateCheck_lane race hf hn).trans ?_)
    subst hs
    have present : ¬ (adjudicated f.payload (s.lane b.toNat)).isNone = true := by
      rw [adjudicated, hf.source, if_neg (by decide), if_neg (by decide)]
      simp
    have outside : field f.payload 2 4 < lengthLimit s.event (s.lane b.toNat) 1 ∨ Config.clockLimit < field f.payload 2 4 := by
      by_cases low : lengthLimit s.event l 1 ≤ manual
      · exact .inr (Nat.lt_of_not_le fun high => wrong ⟨low, high⟩)
      · exact .inl (Nat.lt_of_not_le low)
    rw [if_neg (review hr), if_neg (by decide), if_neg present, if_pos ⟨rfl, outside⟩]
  · intro ev source xs x hn count hr chosen splits hx others rows final
    have ruled : adjudicated f.payload l = some (ev, source) := by
      rcases chosen with ⟨rfl, pad, rfl⟩ | ⟨rfl, candidate, mark, rfl⟩ | ⟨rfl, _, rfl, rfl⟩
      · rw [adjudicated, hf.source, if_pos rfl, pad]
        rfl
      · rw [adjudicated, hf.source, if_neg (by decide), if_pos rfl, candidate, ← mark]
        rfl
      · rw [adjudicated, hf.source, if_neg (by decide), if_neg (by decide)]
    have known : ¬ 2 < src.toNat := by
      rcases chosen with ⟨rfl, _⟩ | ⟨rfl, _⟩ | ⟨rfl, _⟩ <;> decide
    have fits : ¬ (src = 2 ∧ (field f.payload 2 4 < lengthLimit s.event (s.lane b.toNat) 1
        ∨ Config.clockLimit < field f.payload 2 4)) := by
      rintro ⟨rfl, wrong⟩
      rcases chosen with ⟨off, _⟩ | ⟨off, _⟩ | ⟨_, ⟨low, high⟩, _⟩
      · exact absurd off (by decide)
      · exact absurd off (by decide)
      · exact wrong.elim (Nat.not_lt.mpr low) (Nat.not_lt.mpr high)
    have check : adjudicateCheck f.payload s = none := by
      rw [adjudicateCheck_lane race hf hn, if_neg (review hr), if_neg known, if_neg (by rw [ruled]; simp), if_neg fits]
    have taken := adjudicate_accepted h hf check ruled
    have before : BeforeRanking n (l.ruled ev source) [(0x44, splitNotice n final)] (popRequest s)
        (adjudicateStart n ev source (popRequest s)) :=
      beforeRanking_adjudicateStart (s := popRequest s) (count ▸ hn : n < s.lanes.length) (fun k => by
        have state : l.state = .swimming := k
        exact review hr ⟨by simp [state], by simp [state]⟩)
    have after := before.rankedFrom
    rw [adjudicateLane_eq] at taken
    have marks := (reranked before.count).rows
    have first : RowsMarked [n + 1, n + 12] [n + 1, n + 12] (popRequest s) (adjudicateStart n ev source (popRequest s)) :=
      rowsMarked_adjudicateStart
    rw [before.placeRows] at marks
    generalize recordCheck b.toNat (recomputeRanking (adjudicateStart b.toNat ev source (popRequest s))) = t at taken after marks
    generalize adjudicateStart b.toNat ev source (popRequest s) = u at first marks
    rw [ruled_of_splits splits hx others] at after
    have placed : RowsMarked (placeRows s t) (placeRows s t ++ [n + 1]) u t := marks
    have all : RowsMarked (rows t) (rows t) (popRequest s) t := (first.trans placed).mono (fun _ h => h) (by simp [rows])
    exact after.answers (rs := [n + 1, n + 12]) h taken (all.of_boards rfl rfl)

end Sys2Proof.Machine
end

section
/-!
DECLARE (R111 to R115, R118).
-/
namespace Sys2Proof.Machine

theorem declarable_occupied {c : Instr} {l : Lane} (h : declarable c l) : l.state ≠ .vacant := by
  intro vacant
  cases c <;> simp [declarable, vacant] at h

section
variable {f : Frame} {rest : List Frame} {b d : Byte} {s : State}

/-- A declaration that its checks pass: its effect on the lane, and the answer (R111). -/
theorem exec_declared {c : Instr} {raceOk : RaceState → Bool} {laneOk : Lane → Bool} {effect : Nat → State → State}
    (form : requestForm c = some (.declare d raceOk laneOk effect)) (row : DeclareRow c d raceOk laneOk)
    (h : HeadRequest f rest s) (hk : f.kind = 0x1B) (hp : f.payload = [b, d]) (race : takenIn c s.race.state)
    (hn : b.toNat < 10) (lane : declarable c (s.lane b.toNat)) :
    exec c s = .next ((effect b.toNat (popRequest s)).answered f .ok
      [b, laneCode ((effect b.toNat (popRequest s)).lane b.toNat).state,
        flagByte ((effect b.toNat (popRequest s)).lane b.toNat).dq]) := by
  have first : byteAt f.payload 0 = b := by simp [hp, byteAt]
  have second : byteAt f.payload 1 = d := by simp [hp, byteAt]
  have mine : declareMine d f.payload = true := by simp [declareMine, second]
  have low : f.kind.toNat < 0x80 := by simp [hk]
  have passes : declareCheck raceOk laneOk f.payload (popRequest s) = none := by
    have raceTaken : raceOk (popRequest s).race.state = true := (row.race _).mpr race
    have occupied : ((popRequest s).lane b.toNat).state ≠ .vacant := declarable_occupied lane
    have laneTaken : laneOk ((popRequest s).lane b.toNat) = true := (row.lane _ occupied).mpr lane
    unfold declareCheck
    dsimp only
    rw [first, second, if_neg (Nat.not_lt.mpr row.low), if_neg (by rw [raceTaken]; simp),
      if_neg (show ¬ Config.laneCount ≤ b.toNat from Nat.not_le.mpr hn), if_neg occupied, if_neg (by rw [laneTaken]; simp)]
  refine (exec_taken form h hk mine (by simp [RequestForm.declare, hp])).trans (congrArg _ ?_)
  change actDeclare raceOk laneOk effect f (popRequest s) = _
  rw [actDeclare, passes]
  dsimp only
  rw [first, byte_toNat, putReply_watchCheck low, lane_of_lanes (watchCheck_lanes _)]

end

/-! ## DQ and REINSTATE (R114, R115) -/

theorem RankedFrom.marked {n : Nat} {l : Lane} {xs : List (Byte × List Byte)} {s t : State} (h : RankedFrom n l xs s t) :
    RankedFrom n l xs s (markLaneRow n t) := by
  rw [markLaneRow_eq]
  exact ⟨h.lane, ⟨h.ranked.places, ⟨h.ranked.ranking.members, h.ranked.ranking.ordered⟩, h.ranked.records, h.ranked.beacon⟩,
    h.others, h.race, h.link, (Board.marked_holds _ _).trans h.holds, h.lamps, h.outer⟩

theorem beforeRanking_dq {n : Nat} {s : State} (hn : n < s.lanes.length) (mark : Bool) :
    BeforeRanking n { s.lane n with dq := mark } [] s (s.updLane n fun l => { l with dq := mark }) where
  count := by simpa [State.updLane] using hn
  lane := lane_updLane_same hn _
  place := rfl
  records := rfl
  others m hm := lane_updLane_other hm _ s
  race := rfl
  link := rfl
  holds := rfl
  lamps := rfl
  outer := rfl

theorem rowsMarked_markDq {n : Nat} {s : State} (hn : n < s.lanes.length) (mark : Bool) :
    RowsMarked ([n + 1] ++ placeRows s (markDq mark n s)) ([n + 1] ++ placeRows s (markDq mark n s)) s (markDq mark n s) := by
  have before := beforeRanking_dq hn mark
  have marks := (reranked before.count).rows
  rw [before.placeRows] at marks
  have lanes : (markDq mark n s).lanes = (recordCheck n (recomputeRanking (s.updLane n fun l => { l with dq := mark }))).lanes :=
    markLaneRow_lanes _ _
  rw [placeRows_of_lanes lanes]
  have last := rowsMarked_marked (r := n + 1) (s := recordCheck n (recomputeRanking (s.updLane n fun l => { l with dq := mark })))
    (t := markDq mark n s) (by rw [markDq, markLaneRow_eq])
  exact ((marks.trans last).mono (by simp) (by simp)).of_boards rfl rfl

/-- A declaration that sets or clears the DQ mark: nothing where the mark stands so already. -/
theorem exec_dq {c : Instr} {d : Byte} {mark : Bool}
    (h : (c = .declareDq ∧ d = 2 ∧ mark = true) ∨ (c = .declareReinstate ∧ d = 3 ∧ mark = false)) :
    ∃ raceOk laneOk effect, requestForm c = some (.declare d raceOk laneOk effect) ∧ DeclareRow c d raceOk laneOk
      ∧ ∀ n s, effect n s = if (s.lane n).dq = mark then s else markDq mark n s := by
  rcases h with ⟨rfl, rfl, rfl⟩ | ⟨rfl, rfl, rfl⟩
  · exact ⟨_, _, declareDqLane, rfl, ⟨by decide, by simp [takenIn, judgingState], by simp [declarable, dqLane]⟩, fun _ _ => rfl⟩
  · refine ⟨_, _, declareReinstateLane, rfl, ⟨by decide, by simp [takenIn, judgingState], by simp [declarable]⟩, fun n s => ?_⟩
    rw [declareReinstateLane]
    cases (s.lane n).dq <;> rfl

/-! ## DNS and DNF (R112, R113) -/

/-- Lane `n` in the state `new`, its FINAL_LENGTH input off. -/
def leaveRace (new : LaneState) (n : Nat) (s : State) : State := syncFinalLength n (setLaneState n new s)

/-- What a lane's leaving the race does, before the end of the race is checked. -/
structure LeftRace (new : LaneState) (n : Nat) (s t : State) : Prop where
  lane : t.lane n = { s.lane n with state := new }
  others : OtherLanesKept n s t
  race : t.race = s.race
  link : t.link = s.link
  rows : RowsMarked [n + 1, n + 12] [n + 1, n + 12] s t
  hold : ∀ m, t.hold m = if m = n ∧ (s.lane n).state = .swimming then none else s.hold m
  lamps : t.lamps = { s.lamps with
    finalLength := s.lamps.finalLength.modify n (LampTimer.setInput s.tick s.options.offDelay false) }
  outer : t.outer = s.outer

theorem leftRace {new : LaneState} {n : Nat} {s : State} (hn : n < s.lanes.length) (swims : new ≠ .swimming)
    (moves : (s.lane n).state ≠ new) : LeftRace new n s (leaveRace new n s) := by
  have lanes : (leaveRace new n s).lanes = s.lanes.modify n (Lane.toState new) := by
    rw [leaveRace, syncFinalLength_lanes, setLaneState_lanes]
  have holds : (leaveRace new n s).board.holds = (setLaneState n new s).board.holds := by
    rw [leaveRace, syncFinalLength_board]
  constructor
  · exact lane_of_modify lanes hn
  · exact othersKept_of_modify lanes
  · rw [leaveRace, syncFinalLength_race, setLaneState_race]
  · rw [leaveRace, syncFinalLength_link, setLaneState_link]
  · exact (rowsMarked_setLaneState moves).of_board (syncFinalLength_board n _)
  · intro m
    rw [hold_of_holds holds]
    by_cases swimming : (s.lane n).state = .swimming
    · obtain ⟨mine, others⟩ := holdSet_setLaneState swimming swims
      by_cases hm : m = n
      · rw [if_pos ⟨hm, swimming⟩, hm, mine]
      · rw [if_neg fun h => hm h.1, others m hm]
    · rw [if_neg fun h => swimming h.2, hold_of_holds (holds_setLaneState swimming)]
  · have off : ((setLaneState n new s).lane n).state ≠ .swimming := by
      rw [lane_of_modify (setLaneState_lanes n new s) hn]
      exact swims
    have outer : (setLaneState n new s).outer = s.outer := outer_setLaneState _ _ _
    rw [leaveRace, syncFinalLength_off off]
    simp only [setLaneState_lamps, outer_tick outer, outer_options outer]
  · rw [leaveRace, outer_syncFinalLength, outer_setLaneState]

/-- The race ends when no other lane is under way (R118). -/
theorem raceEnds_leftRace {new : LaneState} {n : Nat} {s t : State} (h : LeftRace new n s t) (count : t.lanes.length = 10)
    (out : new = .dns ∨ new = .dnf) : raceEnds s t
      = (decide (s.race.state = .running) && (List.range 10).all (fun m => decide (m = n) || !(s.lane m).underWay)) := by
  have mine : (t.lane n).underWay = false := by
    rcases out with rfl | rfl <;> simp [h.lane, Lane.underWay]
  have each : t.lanes.any Lane.underWay = false
      ↔ (List.range 10).all (fun m => decide (m = n) || !(s.lane m).underWay) = true := by
    simp only [List.any_eq_false, List.all_eq_true, List.mem_range, Bool.or_eq_true, decide_eq_true_eq, Bool.not_eq_true']
    constructor
    · intro all m hm
      by_cases at_n : m = n
      · exact .inl at_n
      · exact .inr (by rw [← h.others m at_n]; simpa using all _ (mem_lanes_lane (count ▸ hm)))
    · intro all l hl
      obtain ⟨m, hm, rfl⟩ := exists_lane_of_mem hl
      by_cases at_n : m = n
      · rw [at_n, mine]
        simp
      · rw [h.others m at_n, (all m (count ▸ hm)).resolve_left at_n]
        simp
  rw [raceEnds]
  cases going : t.lanes.any Lane.underWay with
  | false => rw [each.mp going]; simp
  | true =>
    have stays : (List.range 10).all (fun m => decide (m = n) || !(s.lane m).underWay) = false :=
      Bool.eq_false_iff.mpr fun all => by rw [each.mpr all] at going; cases going
    rw [stays]
    simp

theorem exec_leave {c : Instr} {d : Byte} {new : LaneState}
    (h : (c = .declareDns ∧ d = 0 ∧ new = .dns) ∨ (c = .declareDnf ∧ d = 1 ∧ new = .dnf)) :
    (∃ raceOk laneOk, requestForm c = some (.declare d raceOk laneOk fun n s => endOfRaceCheck (leaveRace new n s))
      ∧ DeclareRow c d raceOk laneOk) ∧ (new = .dns ∨ new = .dnf) ∧ ∀ l, declarable c l → l.state ≠ new := by
  rcases h with ⟨rfl, rfl, rfl⟩ | ⟨rfl, rfl, rfl⟩
  · refine ⟨⟨_, _, rfl, by decide, by simp [takenIn], by simp [declarable, dnsLane]⟩, .inl rfl, fun l hl => ?_⟩
    rcases hl with hl | hl | ⟨hl, _⟩ <;> simp [hl]
  · refine ⟨⟨_, _, rfl, by decide, by simp [takenIn], by simp [declarable]⟩, .inr rfl, fun l hl => ?_⟩
    have swimming : l.state = .swimming := hl
    simp [swimming]


theorem answered_eq (f : Frame) (c : ReplyCode) (fields : List Byte) (s : State) : s.answered f c fields
    = { watchCheck s with link := (watchCheck s).link.replied f c fields } := by
  rw [watchCheck_eq]
  rfl

/-- Settles O45. -/
theorem declarationsTakeEffect : Obligations.DeclarationsTakeEffect := by
  refine ⟨fun c d new s f rest b h hk hp hc => ?_, fun c d mark s f rest b h hk hp hc => ?_⟩
  · intro n l ended rows l1 race hn count lane
    obtain ⟨⟨raceOk, laneOk, form, row⟩, out, leaves⟩ := exec_leave hc
    have taken := exec_declared form row h hk hp race hn lane
    have swims : new ≠ .swimming := by rcases out with rfl | rfl <;> simp
    have left := leftRace (new := new) (s := popRequest s) (n := n) (count ▸ hn : n < s.lanes.length) swims (leaves l lane)
    have ends := endsAndSees (s := popRequest s) (t := leaveRace new n (popRequest s)) (by rw [left.race])
    rw [answered_eq, ← lane_of_lanes (watchCheck_lanes (endOfRaceCheck (leaveRace new b.toNat (popRequest s))))] at taken
    have total : (leaveRace new n (popRequest s)).lanes.length = 10 := by
      rw [leaveRace, syncFinalLength_lanes, setLaneState_lanes, List.length_modify]
      exact count
    have ending : raceEnds (popRequest s) (leaveRace new n (popRequest s)) = ended := raceEnds_leftRace left total out
    generalize watchCheck (endOfRaceCheck (leaveRace new b.toNat (popRequest s))) = w at ends taken
    generalize leaveRace new b.toNat (popRequest s) = u at left ends ending
    have mine : w.lane n = { l with state := new } := by
      rw [lane_of_lanes ends.lanes]
      exact left.lane
    have link : w.link = (if ended then l1.withRaceState .unofficial .running s.race.event else l1).seen w.vector := by
      rw [ends.link, ending, left.race, left.link, popRequest_head h]
    have fields : [b, laneCode (w.lane b.toNat).state, flagByte (w.lane b.toNat).dq] = [b, laneCode new, flagByte l.dq] := by
      rw [show w.lane b.toNat = _ from mine]
    rw [fields, link] at taken
    refine ⟨_, taken, mine, ?_, ?_, ?_, ?_, ?_, rfl, ?_⟩
    · intro m hm
      exact (lane_of_lanes ends.lanes m).trans (left.others m hm)
    · refine ends.race.trans ?_
      rw [ending, left.race]
      cases ended with
      | true => rw [if_pos rfl, if_pos rfl, Bool.not_true, Bool.and_false]; rfl
      | false => rw [if_neg (by simp), if_neg (by simp), Bool.not_false, Bool.and_true]; rfl
    · have marks := ends.rows
      rw [ending] at marks
      exact (left.rows.trans marks).of_boards rfl rfl
    · exact fun m => (hold_of_holds ends.holds m).trans (left.hold m)
    · exact ends.lamps.trans left.lamps
    · exact changesOnly_of_outer (ends.outer.trans left.outer)
  · intro n l fields rows race hn count lane
    obtain ⟨raceOk, laneOk, effect, form, row, acts⟩ := exec_dq hc
    have taken := exec_declared form row h hk hp race hn lane
    refine ⟨fun stands => ?_, fun changes => ?_⟩
    · have idle : effect b.toNat (popRequest s) = popRequest s := (acts _ _).trans (if_pos stands)
      have same : [b, laneCode ((popRequest s).lane b.toNat).state, flagByte ((popRequest s).lane b.toNat).dq] = fields := by
        rw [show ((popRequest s).lane b.toNat).dq = mark from stands]
        rfl
      rw [idle, same, popRequest_head h] at taken
      exact taken
    · have marks : effect b.toNat (popRequest s) = markDq mark n (popRequest s) := (acts _ _).trans (if_neg changes)
      rw [marks] at taken
      have there : n < (popRequest s).lanes.length := (count ▸ hn : n < s.lanes.length)
      have after : RankedFrom n { l with dq := mark } [] (popRequest s) (markDq mark n (popRequest s)) :=
        (beforeRanking_dq there mark).rankedFrom.marked
      have dirty := rowsMarked_markDq there mark
      generalize markDq mark n (popRequest s) = t at taken after dirty
      have same : [b, laneCode (t.lane b.toNat).state, flagByte (t.lane b.toNat).dq] = fields := by
        rw [show t.lane b.toNat = _ from after.lane]
      rw [same] at taken
      exact after.answers (rs := [n + 1]) h taken (dirty.of_boards rfl rfl)

end Sys2Proof.Machine
end

section
/-!
LOAD_EVENT and CLEAR_RACE (R28 to R30, R34), SET_LANE and SET_RECORD (R31 to R33).
-/
namespace Sys2Proof.Machine

/-! ## The checks of a descriptor (R28) -/

theorem badEventField_eq_none {p : List Byte} (h : ∀ n, ¬ eventFieldRefused p n) : badEventField p = none := by
  have h1 := h 1
  have h2 := h 2
  have h3 := h 3
  have h4 := h 4
  have h5 := h 5
  have h6 := h 6
  have h8 := h 8
  simp only [eventFieldRefused] at h1 h2 h3 h4 h5 h6 h8
  unfold badEventField
  rw [if_neg (by omega), if_neg h2, if_neg (by omega), if_neg (by omega), if_neg h5, if_neg h6, if_neg h8]

theorem badEventField_eq_some {p : List Byte} {n : Nat} (h : FirstRefused (eventFieldRefused p) n) : badEventField p = some n := by
  obtain ⟨refused, first⟩ := h
  have clear1 (k : 1 < n) := first 1 k
  have clear2 (k : 2 < n) := first 2 k
  have clear3 (k : 3 < n) := first 3 k
  have clear4 (k : 4 < n) := first 4 k
  have clear5 (k : 5 < n) := first 5 k
  have clear6 (k : 6 < n) := first 6 k
  simp only [eventFieldRefused] at clear1 clear2 clear3 clear4 clear5 clear6
  unfold badEventField
  unfold eventFieldRefused at refused
  split at refused
  · rw [if_pos (by omega)]
  · rw [if_neg (by omega), if_pos refused]
  · rw [if_neg (by omega), if_neg (clear2 (by omega)), if_pos (by omega)]
  · rw [if_neg (by omega), if_neg (clear2 (by omega)), if_neg (by omega), if_pos (by omega)]
  · rw [if_neg (by omega), if_neg (clear2 (by omega)), if_neg (by omega), if_neg (by omega), if_pos refused]
  · rw [if_neg (by omega), if_neg (clear2 (by omega)), if_neg (by omega), if_neg (by omega), if_neg (clear5 (by omega)),
      if_pos refused]
  · rw [if_neg (by omega), if_neg (clear2 (by omega)), if_neg (by omega), if_neg (by omega), if_neg (clear5 (by omega)),
      if_neg (clear6 (by omega)), if_pos refused]
  · exact refused.elim

theorem textByte_printable (b : Byte) : 0x20 ≤ textByte b ∧ textByte b ≤ 0x7E := by
  unfold textByte
  split
  · next printable => exact printable
  · exact ⟨by decide, by decide⟩

theorem storedText_printable (n : Nat) (bs : List Byte) :
    (storedText n bs).length ≤ n ∧ ∀ b ∈ storedText n bs, 0x20 ≤ b ∧ b ≤ 0x7E := by
  refine ⟨by simp [storedText], fun b hb => ?_⟩
  obtain ⟨x, _, rfl⟩ := List.mem_map.mp hb
  exact textByte_printable x


/-- A descriptor that passes its checks is stored with its fields in range (R28, R29). -/
theorem eventOf_inRange {p : List Byte} (h : ∀ n, ¬ eventFieldRefused p n) : (eventOf p).inRange := by
  have h1 := h 1
  have h2 := h 2
  have h3 := h 3
  have h4 := h 4
  have h8 := h 8
  simp only [eventFieldRefused] at h1 h2 h3 h4 h8
  have eighths : (eventOf p).kind = .relay → (eventOf p).total % 8 = 0 := by
    intro relay
    have one : byteAt p 4 ≠ 0 := fun zero => by
      have individual : (eventOf p).kind = .individual := if_pos zero
      rw [individual] at relay
      cases relay
    have number : field p 4 1 ≠ 0 := fun zero => one (BitVec.eq_of_toNat_eq (by rw [← field_one, zero]; rfl))
    change field p 3 1 % 8 = 0
    omega
  exact ⟨show 1 ≤ field p 0 2 ∧ field p 0 2 ≤ 9999 by omega, show field p 2 1 = 25 ∨ field p 2 1 = 50 by omega,
    show 1 ≤ field p 3 1 ∧ field p 3 1 ≤ 60 by omega, eighths, clamp_mem (by decide) _, show field p 11 1 ≤ 3 by omega,
    clamp_mem (by decide) _, clamp_mem (by decide) _, Nat.min_le_right _ _, (clamp_mem (Nat.zero_le 1000) _).2,
    (clamp_mem (Nat.zero_le 600000) _).2, storedText_printable 24 _⟩

/-! ## The field cleared (R30, R34, R52) -/

theorem joinQueue_mem {r : Nat} {q : List Nat} (h : r ∈ q) : joinQueue r q = q := if_pos (List.contains_iff_mem.mpr h)

/-- A row marked already is not marked anew (R133). -/
theorem marked_markedAll {r : Nat} {rs : List Nat} (nodup : rs.Nodup) (h : r ∈ rs) (b : Board) :
    (b.markedAll rs).marked r = b.markedAll rs := by
  have mask : (b.markedAll rs).mask.getD r false = b.mask.getD r false := by rw [Board.markedAll_mask]
  rw [Board.marked]
  cases masked : b.mask.getD r false with
  | true => exact if_pos (mask.trans masked)
  | false =>
    have clear : r ∈ rs.filter fun r => !b.mask.getD r false := List.mem_filter.mpr ⟨h, by rw [masked]; rfl⟩
    have queued : r ∈ (b.markedAll rs).queue := by
      rw [Board.markedAll_queue nodup]
      by_cases before : r ∈ b.queue
      · exact List.mem_append_left _ before
      · refine List.mem_append_right _ (List.mem_filter.mpr ⟨h, ?_⟩)
        simp only [masked, before, not_false_eq_true, and_self, decide_true]
    have flagged : (b.markedAll rs).sending.map (Sending.marked r) = (b.markedAll rs).sending := by
      rw [Board.markedAll_eq_any, markedAny_all (nodup.filter _)]
      dsimp only
      rw [Option.map_map]
      refine congrArg (Option.map · b.sending) (funext fun x => ?_)
      unfold Sending.markedAll Sending.marked
      dsimp only [Function.comp]
      split
      · next same =>
        have marked : decide (x.row ∈ rs.filter fun r => !b.mask.getD r false) = true := by rw [same]; exact decide_eq_true clear
        rw [marked, Bool.or_true]
      · rfl
    have join : joinQueue r (b.markedAll rs).queue = (b.markedAll rs).queue := joinQueue_mem queued
    rw [if_neg (by rw [mask, masked]; simp), join, flagged]


/-- The state behind what LOAD_EVENT and CLEAR_RACE clear. -/
theorem clearField_eq (e : Option EventDesc) (s : State) : clearField e s = { s with
    race := { Race.cleared with state := s.race.state, event := e }
    lanes := s.lanes.map (fun _ => Lane.blank)
    lamps := (stopAllLamps s).lamps
    board := ({ s.board with holds := s.board.holds.map (fun _ => none) } : Board).markedAll (List.range 22) } := by
  rw [clearField, markAllRows_eq]
  rfl

theorem clearField_board (e : Option EventDesc) (s : State) : (clearField e s).board
    = ({ s.board with holds := s.board.holds.map (fun _ => none) } : Board).markedAll (List.range 22) := by rw [clearField_eq]

theorem hold_stopped {s : State} {holds : List (Option Timer)} (h : s.board.holds = holds.map (fun _ => none)) (n : Nat) :
    s.hold n = none := by
  rw [State.hold, h, List.getD_eq_getElem?_getD, List.getElem?_map]
  cases holds[n]? <;> rfl

/-- The marking of every row on a board whose holds have stopped, with all lamps stopped, clears the field. -/
theorem fieldCleared {s t : State}
    (board : t.board = ({ s.board with holds := s.board.holds.map (fun _ => none) } : Board).markedAll (List.range 22))
    (lamps : t.lamps = (stopAllLamps s).lamps) : FieldCleared s t := by
  have holds : t.board.holds = s.board.holds.map (fun _ => none) := by rw [board, Board.markedAll_holds]
  refine ⟨lamps, hold_stopped holds, ?_, ?_⟩
  · exact (rowsMarked_markedAll (s := stopHolds s) (t := t) board).of_boards (s' := s) rfl rfl
  · rw [board]
    exact Board.markedAll_queue List.nodup_range _


theorem FieldCleared.of_parts {s t u : State} (h : FieldCleared s t) (board : u.board = t.board) (lamps : u.lamps = t.lamps) :
    FieldCleared s u := by
  obtain ⟨off, holds, rows, queue⟩ := h
  exact ⟨lamps.trans off, fun n => (hold_of_holds (congrArg Board.holds board) n).trans (holds n), rows.of_board board,
    (congrArg Board.queue board).trans queue⟩

/-- What clearing the field does, with the race then in the state `new`. -/
structure EmptiedField (new : RaceState) (e : Option EventDesc) (s t : State) : Prop where
  race : t.race = { Race.cleared with state := new, event := e }
  lanes : t.lanes = s.lanes.map (fun _ => Lane.blank)
  cleared : FieldCleared s t
  link : t.link = if s.race.state = new then s.link else s.link.withRaceState new s.race.state e
  outer : t.outer = s.outer

theorem emptiedField (new : RaceState) (e : Option EventDesc) (s : State) :
    EmptiedField new e s (setRaceState new (clearField e s)) := by
  have eq := clearField_eq e s
  have outer : (clearField e s).outer = s.outer := outer_clearField e s
  have again : (clearField e s).board.marked 0 = (clearField e s).board := by
    rw [clearField_board, marked_markedAll List.nodup_range (List.mem_range.mpr (by omega))]
  have state : (clearField e s).race.state = s.race.state := by rw [eq]
  have event : (clearField e s).race.event = e := by rw [eq]
  have race : { (clearField e s).race with state := new, pastLimit := false }
      = { Race.cleared with state := new, event := e } := by rw [eq]; rfl
  have same : s.race.state = new → (clearField e s).race = { Race.cleared with state := new, event := e } := by
    intro h
    rw [eq, h]
  have lanes : (clearField e s).lanes = s.lanes.map (fun _ => Lane.blank) := by rw [eq]
  have link : (clearField e s).link = s.link := by rw [eq]
  have cleared : FieldCleared s (clearField e s) := fieldCleared (clearField_board e s) (by rw [eq])
  generalize clearField e s = u at outer again state event race same lanes link cleared
  by_cases h : s.race.state = new
  · rw [setRaceState_same (state.trans h)]
    exact ⟨same h, lanes, cleared, by rw [link, if_pos h], outer⟩
  · rw [setRaceState_eq (by rw [state]; exact h), again, race]
    exact ⟨rfl, lanes, cleared.of_parts rfl rfl, by rw [if_neg h, state, event, link], outer⟩


/-! ## LOAD_EVENT and CLEAR_RACE -/

section
variable {f : Frame} {rest : List Frame} {s : State}

theorem exec_loadEvent (h : HeadRequest f rest s) (hk : f.kind = 0x08) (length : 26 ≤ f.payload.length)
    (race : takenIn .loadEvent s.race.state) : exec .loadEvent s = .next
      (match badEventField f.payload with
        | some n => putReply f .badEvent [byte n] (popRequest s)
        | none => putReply f (if eventClamped f.payload then .clamped else .ok) (eventBytes (eventOf f.payload))
            (watchCheck (setRaceState .loaded (clearField (some (eventOf f.payload)) (popRequest s))))) := by
  have right : ¬ ((popRequest s).race.state ≠ .idle ∧ (popRequest s).race.state ≠ .loaded
      ∧ (popRequest s).race.state ≠ .official) := fun ⟨idle, loaded, official⟩ =>
    race.elim idle fun later => later.elim loaded official
  have taken : exec .loadEvent s = .next (actLoadEvent f (popRequest s)) :=
    exec_taken (r := .plain 0x08 (fun n => decide (26 ≤ n)) actLoadEvent) rfl h hk rfl (decide_eq_true length)
  exact taken.trans (congrArg _ (if_neg right))

theorem exec_clearRace (h : HeadRequest f rest s) (hk : f.kind = 0x0B) (hp : f.payload = []) : exec .clearRace s
    = .next (putReply f .ok [] (answerClear (setRaceState .idle (clearField none (popRequest s))))) :=
  exec_taken (r := .plain 0x0B (fun n => decide (n = 0)) actClearRace) rfl h hk rfl (by simp [RequestForm.plain, hp])

end

theorem answerClear_none {s : State} (h : s.link.watch = none) : answerClear s = s := by rw [answerClear, h]

theorem answerClear_some {s : State} {w : Watch} (h : s.link.watch = some w) : answerClear s = { s with link := { s.link with
    watch := none, watchAnswer := some { kind := 0x98, tag := w.tag, payload := 0 :: s.vector } } } := by
  rw [answerClear, h]
  rfl

theorem watch_withNotice (k : Link) (kind : Byte) (payload : List Byte) : (k.withNotice kind payload).watch = k.watch := by
  unfold Link.withNotice
  split <;> rfl

/-- Settles O38. -/
theorem loadAndClearEmptyTheField : Obligations.LoadAndClearEmptyTheField := by
  refine ⟨fun s f rest h hk length race => ⟨fun n refused => ?_, fun accepted => ?_⟩, fun s f rest h hk hp => ?_⟩
  · have low : f.kind.toNat < 0x80 := by simp [hk]
    refine (exec_loadEvent h hk length race).trans (congrArg _ ?_)
    rw [badEventField_eq_some refused]
    exact putReply_popRequest h low _ _
  · have low : f.kind.toNat < 0x80 := by simp [hk]
    intro e l1
    have taken := exec_loadEvent h hk length race
    rw [badEventField_eq_none accepted] at taken
    dsimp only at taken
    rw [putReply_watchCheck low] at taken
    have field := emptiedField .loaded (some e) (popRequest s)
    generalize setRaceState .loaded (clearField (some (eventOf f.payload)) (popRequest s)) = t at taken field
    have code : (if eventClamped f.payload = true then ReplyCode.clamped else .ok)
        = if eventFixedBytes e = f.payload.take 26 then .ok else .clamped := by
      by_cases same : eventFixedBytes e = f.payload.take 26
      · rw [if_pos same, if_neg (by simpa [eventClamped] using same)]
      · have changed : eventClamped f.payload = true := decide_eq_true same
        rw [if_neg same, if_pos changed]
    have link : t.link = l1 := by
      rw [field.link, popRequest_head h]
    rw [code] at taken
    refine ⟨_, taken, eventOf_inRange accepted, field.race, field.lanes, ?_, ?_, changesOnly_of_outer field.outer⟩
    · obtain ⟨off, holds, rows, queue⟩ := field.cleared
      exact ⟨off, holds, rows.of_boards rfl rfl, queue⟩
    · exact congrArg (fun k => (Link.seen t.vector k).replied f _ _) link
  · have low : f.kind.toNat < 0x80 := by simp [hk]
    intro l1
    have taken := exec_clearRace h hk hp
    rw [putReply_eq low] at taken
    have field := emptiedField .idle none (popRequest s)
    generalize setRaceState .idle (clearField none (popRequest s)) = t at taken field
    have link : t.link = l1 := by
      rw [field.link, popRequest_head h]
    have watch : t.link.watch = s.link.watch := by
      have idle : l1.watch = (s.link.taken rest).watch := by
        dsimp only [l1]
        split
        · rfl
        · exact watch_withNotice _ _ _
      rw [link, idle]
      rfl
    have cleared : FieldCleared s t := by
      obtain ⟨off, holds, rows, queue⟩ := field.cleared
      exact ⟨off, holds, rows.of_boards rfl rfl, queue⟩
    cases pending : s.link.watch with
    | none =>
      rw [answerClear_none (watch.trans pending), link] at taken
      refine ⟨_, taken, field.race, field.lanes, cleared.of_parts rfl rfl, fun _ => rfl, fun w hw => ?_,
        changesOnly_of_outer field.outer⟩
      cases hw
    | some w =>
      rw [answerClear_some (watch.trans pending), link] at taken
      refine ⟨_, taken, field.race, field.lanes, cleared.of_parts rfl rfl, fun absent => ?_, fun x hx => ?_,
        changesOnly_of_outer field.outer⟩
      · cases absent
      · cases hx
        rfl


/-! ## SET_LANE (R31, R32) -/

/-- Of the parts that the race reaches, those that are not listed stand. -/
theorem changesOnly_besides {parts : List Block} {s t : State} (outer : t.outer = s.outer)
    (kept : ∀ b ∈ racePartsOf, b ∉ parts → b.same s t) : ChangesOnly parts s t := by
  intro b hb
  by_cases reached : b ∈ racePartsOf
  · exact kept b reached hb
  · exact changesOnly_of_outer outer b reached

/-- A lane as SET_LANE stores it (R31). -/
def laneStored (new : LaneState) (text : List Byte) (n : Nat) (s : State) : State :=
  markLaneRow n ((setLaneState n new s).updLane n fun l => { l with text := text })

/-- What SET_LANE does to its lane, before the watch check and the reply. -/
structure LaneStored (new : LaneState) (text : List Byte) (n : Nat) (s t : State) : Prop where
  lane : t.lane n = { s.lane n with state := new, text := text }
  others : OtherLanesKept n s t
  race : t.race = s.race
  link : t.link = s.link
  lamps : t.lamps = s.lamps
  rows : RowsMarked (if (s.lane n).state = new then [n + 1] else [n + 1, n + 12])
    (if (s.lane n).state = new then [n + 1] else [n + 1, n + 12]) s t
  holds : HoldsKept s t
  outer : t.outer = s.outer

theorem laneStored_stored {new : LaneState} {text : List Byte} {n : Nat} {s : State} (hn : n < s.lanes.length)
    (hs : (s.lane n).state ≠ .swimming) : LaneStored new text n s (laneStored new text n s) := by
  have lanes : (laneStored new text n s).lanes = s.lanes.modify n fun l => { l with state := new, text := text } := by
    rw [laneStored, markLaneRow_lanes, State.updLane, setLaneState_lanes]
    exact List.modify_modify_eq _ _ _ _
  have mark : RowsMarked [n + 1] [n + 1] (setLaneState n new s) (laneStored new text n s) :=
    (rowsMarked_marked (s := (setLaneState n new s).updLane n fun l => { l with text := text }) (t := laneStored new text n s)
      (r := n + 1) (by rw [laneStored, markLaneRow_eq])).of_boards rfl rfl
  constructor
  · exact lane_of_modify lanes hn
  · exact othersKept_of_modify lanes
  · rw [laneStored, markLaneRow_race]
    exact setLaneState_race _ _ _
  · rw [laneStored, markLaneRow_link]
    exact setLaneState_link _ _ _
  · rw [laneStored, markLaneRow_lamps]
    exact setLaneState_lamps _ _ _
  · by_cases same : (s.lane n).state = new
    · rw [if_pos same]
      rw [setLaneState, if_pos same] at mark
      exact mark
    · rw [if_neg same]
      exact ((rowsMarked_setLaneState same).trans mark).mono (by simp) (by simp)
  · rw [HoldsKept, laneStored, markLaneRow_eq]
    exact (Board.marked_holds _ _).trans (holds_setLaneState hs)
  · rw [laneStored, outer_markLaneRow]
    exact outer_setLaneState _ _ _

section
variable {f : Frame} {rest : List Frame} {s : State}

theorem exec_setLane (h : HeadRequest f rest s) (hk : f.kind = 0x09) (length : 2 ≤ f.payload.length)
    (race : s.race.state = .loaded) : exec .setLane s = .next
      (if 10 ≤ (byteAt f.payload 0).toNat then putReply f .badLane [] (popRequest s)
      else if 1 < (byteAt f.payload 1).toNat then putReply f .outOfRange [] (popRequest s)
      else if (s.lane (byteAt f.payload 0).toNat).state ≠ .vacant ∧ (s.lane (byteAt f.payload 0).toNat).state ≠ .ready then
        putReply f .wrongState [] (popRequest s)
      else putReply f .ok [] (watchCheck (laneStored (if byteAt f.payload 1 = 1 then .ready else .vacant)
        (storedText 16 (f.payload.drop 2)) (byteAt f.payload 0).toNat (popRequest s)))) := by
  have taken : exec .setLane s = .next (actSetLane f (popRequest s)) :=
    exec_taken (r := .plain 0x09 (fun n => decide (2 ≤ n)) actSetLane) rfl h hk rfl (decide_eq_true length)
  have right : ¬ (popRequest s).race.state ≠ .loaded := not_not.mpr race
  exact taken.trans (congrArg _ (if_neg right))

theorem exec_setRecord (h : HeadRequest f rest s) (hk : f.kind = 0x0A) (length : f.payload.length = 8) : exec .setRecord s = .next (actSetRecord f (popRequest s)) :=
  exec_taken (r := .plain 0x0A (fun n => decide (n = 8)) actSetRecord) rfl h hk rfl (decide_eq_true length)

end

/-- Settles O39. -/
theorem setLaneAndSetRecordStore : Obligations.SetLaneAndSetRecordStore := by
  refine ⟨fun s f rest h hk length race => ?_, fun s f rest h hk length race => ?_⟩
  · have low : f.kind.toNat < 0x80 := by simp [hk]
    have taken := exec_setLane h hk length race
    intro n use new
    refine ⟨fun hn => ?_, fun hn hu => ?_, fun hn hu vacant ready => ?_, fun hn hu count free => ?_⟩
    · rw [if_pos hn, putReply_popRequest h low] at taken
      exact taken
    · rw [if_neg (Nat.not_le.mpr hn), if_pos hu, putReply_popRequest h low] at taken
      exact taken
    · rw [if_neg (Nat.not_le.mpr hn), if_neg (Nat.not_lt.mpr hu), if_pos ⟨vacant, ready⟩, putReply_popRequest h low] at taken
      exact taken
    · intro rows
      have stays : ¬ ((s.lane (byteAt f.payload 0).toNat).state ≠ .vacant ∧ (s.lane (byteAt f.payload 0).toNat).state ≠ .ready) :=
        fun k => free.elim k.1 k.2
      have one : (byteAt f.payload 1 = 1) ↔ use = 1 := by
        refine ⟨fun k => by simp [use, k], fun k => BitVec.eq_of_toNat_eq k⟩
      have state : (if byteAt f.payload 1 = 1 then LaneState.ready else .vacant) = new := by
        dsimp only [new]
        simp only [one]
      rw [if_neg (Nat.not_le.mpr hn), if_neg (Nat.not_lt.mpr hu), if_neg stays, putReply_watchCheck low, state] at taken
      have still : ((popRequest s).lane n).state ≠ .swimming := by
        intro swimming
        rcases free with k | k <;> exact absurd (k.symm.trans swimming) (by simp)
      have stored := laneStored_stored (new := new) (text := storedText 16 (f.payload.drop 2)) (s := popRequest s)
        (count ▸ hn : n < s.lanes.length) still
      generalize laneStored new (storedText 16 (f.payload.drop 2)) (byteAt f.payload 0).toNat (popRequest s) = t at taken stored
      have link := stored.link
      rw [popRequest_head h] at link
      refine ⟨_, taken, stored.lane.trans ?_, stored.others, stored.rows.of_boards rfl rfl, stored.holds, ?_, ?_⟩
      · rw [storedText_eq]
        rfl
      · exact congrArg (fun k => (Link.seen t.vector k).replied f .ok []) link
      · refine changesOnly_besides stored.outer fun b hb out => ?_
        obtain rfl | rfl : b = .race ∨ b = .lamps := by
          simp only [racePartsOf, List.mem_cons, List.not_mem_nil, or_false] at hb out
          tauto
        · exact stored.race
        · exact stored.lamps
  · have low : f.kind.toNat < 0x80 := by simp [hk]
    have taken := exec_setRecord h hk length
    intro i enabled label reference relation
    have right : ¬ (popRequest s).race.state ≠ .loaded := not_not.mpr race
    refine ⟨fun wrong => ?_, fun hi he href hrel => ?_⟩
    · refine taken.trans (congrArg _ (Eq.trans ?_ (putReply_popRequest h low .outOfRange [])))
      rw [actSetRecord, if_neg right]
      rcases wrong with k | k | k | k
      · rw [if_pos k]
      · rw [if_pos k, ite_self]
      · rw [if_pos k, ite_self, ite_self]
      · rw [if_pos k, ite_self, ite_self, ite_self]
    · intro slot
      refine taken.trans (congrArg _ ?_)
      rw [actSetRecord, if_neg right, if_neg (Nat.not_lt.mpr hi), if_neg (Nat.not_lt.mpr he), if_neg (Nat.not_lt.mpr href),
        if_neg (Nat.not_lt.mpr hrel)]
      have record : ({ enabled := decide (byteAt f.payload 1 = 1), label := textByte (byteAt f.payload 2)
                       reference := field f.payload 3 4
                       relation := if byteAt f.payload 7 = 0 then .better else .matchOrBetter } : RecordSlot) = slot := by
        have one : (byteAt f.payload 1 = 1) ↔ enabled = 1 :=
          ⟨fun k => by simp [enabled, k], fun k => BitVec.eq_of_toNat_eq k⟩
        have zero : (byteAt f.payload 7 = 0) ↔ relation = 0 :=
          ⟨fun k => by simp [relation, k], fun k => BitVec.eq_of_toNat_eq k⟩
        rw [textByte_eq]
        simp only [one, zero]
        rfl
      dsimp only
      rw [record, putReply_eq low, popRequest_head h, ← List.set_eq_modify]
      rfl

end Sys2Proof.Machine
end

section
/-!
ARM (R38 to R40) and RECALL (R50 to R52).
-/
namespace Sys2Proof.Machine

/-! ## An operation on every lane with a change of the race state -/

/-- What an operation on each lane in turn and a change of the race state behind it do. -/
structure LanesMoved (new : RaceState) (f : Nat → Lane → Lane) (g : Nat → Lane → List Nat) (s t : State) : Prop where
  lane : ∀ n < 10, t.lane n = f n (s.lane n)
  beyond : ∀ n, 10 ≤ n → t.lane n = s.lane n
  race : t.race = { s.race with state := new, pastLimit := false }
  rows : RowsMarked (0 :: (List.range 10).flatMap (fun n => g n (s.lane n))) (0 :: (List.range 10).flatMap (fun n => g n (s.lane n))) s t
  holds : HoldsKept s t
  link : t.link = s.link.withRaceState new s.race.state s.race.event
  lamps : t.lamps = s.lamps
  outer : t.outer = s.outer

theorem lanesMoved {new : RaceState} {f : Nat → Lane → Lane} {g : Nat → Lane → List Nat} {op : Nat → State → State} {s : State}
    (acts : ActsOnLane f g op s) (count : s.lanes.length = 10) (race : s.race.state ≠ new) :
    LanesMoved new f g s (setRaceState new (forEach laneNumbers op s)) := by
  have moved := forEach_actsOnLane acts (ns := List.range 10) List.nodup_range
  rw [show laneNumbers = List.range 10 from rfl, moved, setRaceState_eq (by exact race)]
  generalize hm : (List.range 10).flatMap (fun n => g n (s.lane n)) = marks
  constructor
  · intro n hn
    exact (lane_foldl_modify (s := s) List.nodup_range f rfl (by omega)).trans (if_pos (List.mem_range.mpr hn))
  · intro n hn
    rw [lane_beyond (s := s) (by omega), lane_beyond]
    exact (length_foldl_modify (List.range 10) f s.lanes).trans_le (by omega)
  · rfl
  · have first : RowsMarked marks marks s { s with board := s.board.markedAll marks } := rowsMarked_markedAll rfl
    rw [hm]
    exact (first.trans (rowsMarked_marked (r := 0) rfl)).mono (by simp) (by simp)
  · exact (Board.marked_holds _ _).trans (Board.markedAll_holds _ _)
  · rfl
  · rfl
  · rfl

theorem flatMap_rowsIf (p : Nat → Bool) (rows : Nat → List Nat) (ns : List Nat) :
    ns.flatMap (fun n => if p n then rows n else []) = (ns.filter p).flatMap rows := by
  induction ns with
  | nil => rfl
  | cons n ns ih =>
    rw [List.flatMap_cons, ih, List.filter_cons]
    cases p n <;> simp

/-- The rows of the lanes that the operation marks by a test of the lane. -/
theorem LanesMoved.rows_filter {new : RaceState} {f : Nat → Lane → Lane} {g : Nat → Lane → List Nat} {s t : State}
    (h : LanesMoved new f g s t) (p : Nat → Bool) (hp : ∀ n, g n (s.lane n) = if p n then [n + 1, n + 12] else []) :
    RowsMarked (0 :: ((List.range 10).filter p).flatMap (fun n => [n + 1, n + 12]))
      (0 :: ((List.range 10).filter p).flatMap (fun n => [n + 1, n + 12])) s t := by
  have same : (List.range 10).flatMap (fun n => g n (s.lane n)) = ((List.range 10).filter p).flatMap (fun n => [n + 1, n + 12]) := by
    rw [← flatMap_rowsIf]
    exact List.flatMap_congr fun n _ => hp n
  have rows := h.rows
  rw [same] at rows
  exact rows

theorem changesOnly_stillLamps {s t : State} (outer : t.outer = s.outer) (lamps : t.lamps = s.lamps) :
    ChangesOnly [.race, .lanes, .board, .link] s t := by
  refine changesOnly_besides outer fun b hb out => ?_
  obtain rfl : b = .lamps := by
    simp only [racePartsOf, List.mem_cons, List.not_mem_nil, or_false] at hb out
    tauto
  exact lamps

/-- What a change of lane `n`'s record leaves of it. -/
theorem lane_updLane_part {α : Type} (part : Lane → α) {f : Lane → Lane} (h : ∀ l, part (f l) = part l) (n : Nat) (s : State) :
    part ((s.updLane n f).lane n) = part (s.lane n) := by
  by_cases hn : n < s.lanes.length
  · rw [lane_updLane_same hn, h]
  · rw [lane_beyond (by simpa [State.updLane] using hn), lane_beyond (by omega)]

/-- A change of state of a lane that does not swim, as a change of the lanes and the board. -/
theorem setLaneState_still {n : Nat} {new : LaneState} {s : State} (changes : (s.lane n).state ≠ new)
    (still : (s.lane n).state ≠ .swimming) : setLaneState n new s = { s with
      lanes := s.lanes.modify n (Lane.toState new), board := s.board.markedAll [n + 1, n + 12] } := by
  rw [setLaneState_changes changes, if_neg still, markLaneRows_eq]
  rfl

/-! ## ARM (R38 to R40) -/

/-- The lane record with its split list empty (R38). -/
def Lane.emptied (l : Lane) : Lane := { l with splits := [], done := 0, misses := 0, countDoubt := false }

/-- A lane at ARM, its far timing, its block and the start kind being as given (R38 to R40). -/
def Lane.atArm (far : FarTiming) (loaded dive : Bool) (l : Lane) : Lane :=
  if l.state = .ready then
    { l.emptied with
      state := .set, stateAtArm := some .ready, farTiming := far, tracking := if loaded then .loaded else .empty, takeoffs := 0
      reactionTick := none, blockEmptyAtArm := !loaded && dive }
  else if l.state = .dns then { l.emptied with stateAtArm := some .dns }
  else l.emptied

/-- Lane `n` at an ARM in the state `s`. -/
def armedLane (s : State) (n : Nat) (l : Lane) : Lane :=
  l.atArm (farTimingAtArm s n) (s.line (blockLine n)).active (decide (s.event.start = .dive))

/-- The rows that a lane's ARM marks (R26). -/
def armRows (n : Nat) (l : Lane) : List Nat := if decide (l.state = .ready) then [n + 1, n + 12] else []

theorem armLane_acts (s : State) : ActsOnLane (armedLane s) armRows armLane s := by
  intro n ls b
  generalize hu : ({ s with lanes := ls, board := b } : State) = u
  have far : farTimingAtArm u n = farTimingAtArm s n := by rw [← hu]; rfl
  have line : u.line (blockLine n) = s.line (blockLine n) := by rw [← hu]; rfl
  have event : u.event = s.event := by rw [← hu]; rfl
  suffices h : armLane n u = { u with
      lanes := u.lanes.modify n (armedLane s n), board := u.board.markedAll (armRows n (u.lane n)) } by
    rw [h, ← hu]
  have state : ((u.updLane n Lane.emptied).lane n).state = (u.lane n).state := lane_updLane_part Lane.state (f := Lane.emptied) (fun _ => rfl) n u
  unfold armLane armRows
  dsimp only
  split
  · next ready =>
    have moved := setLaneState_still (n := n) (new := .set) (s := u.updLane n Lane.emptied) (by rw [state, ready]; simp)
      (by rw [state, ready]; simp)
    have lanes : ((u.lanes.modify n Lane.emptied).modify n (Lane.toState .set)).modify n (fun l =>
          { l with stateAtArm := some .ready, farTiming := farTimingAtArm s n
                   tracking := if (s.line (blockLine n)).active then .loaded else .empty, takeoffs := 0, reactionTick := none
                   blockEmptyAtArm := !(s.line (blockLine n)).active && decide (s.event.start = .dive) })
        = u.lanes.modify n (armedLane s n) := by
      rw [List.modify_modify_eq, List.modify_modify_eq]
      refine modify_congr_lane ?_
      rw [armedLane, Lane.atArm, if_pos ready]
      rfl
    have rows : (if decide ((u.lane n).state = .ready) = true then [n + 1, n + 12] else []) = [n + 1, n + 12] :=
      if_pos (decide_eq_true ready)
    rw [rows, ← lanes, far, line, event]
    exact congrArg (State.updLane n _) moved
  · next dns =>
    have lanes : (u.lanes.modify n Lane.emptied).modify n (fun l => { l with stateAtArm := some .dns })
        = u.lanes.modify n (armedLane s n) := by
      rw [List.modify_modify_eq]
      refine modify_congr_lane ?_
      rw [armedLane, Lane.atArm, if_neg (by simp [dns]), if_pos dns]
      rfl
    have rows : (if decide ((u.lane n).state = .ready) = true then [n + 1, n + 12] else []) = [] := if_neg (by simp [dns])
    rw [rows, ← lanes]
    rfl
  · next ready dns =>
    have lanes : u.lanes.modify n Lane.emptied = u.lanes.modify n (armedLane s n) := by
      refine modify_congr_lane ?_
      rw [armedLane, Lane.atArm, if_neg ready, if_neg dns]
    have rows : (if decide ((u.lane n).state = .ready) = true then [n + 1, n + 12] else []) = [] := if_neg (by simpa using ready)
    rw [rows, ← lanes]
    rfl

section
variable {s : State} {n : Nat} {l : Lane}

theorem armedLane_ready (h : l.state = .ready) : armedLane s n l =
    let loaded := (s.line (6 * n + 5)).active
    { l.emptied with
      state := .set, stateAtArm := some .ready
      farTiming := if s.event.farFitted = false ∨ (s.line (6 * n)).masked = true then .untimed else .fitted
      tracking := if loaded then .loaded else .empty, takeoffs := 0, reactionTick := none
      blockEmptyAtArm := decide (loaded = false ∧ s.event.start = .dive) } := by
  have empty : (!(s.line (blockLine n)).active && decide (s.event.start = .dive))
      = decide ((s.line (6 * n + 5)).active = false ∧ s.event.start = .dive) := by
    rw [Bool.decide_and]
    exact congrArg (· && _) (by cases h : (s.line (6 * n + 5)).active <;> simp [blockLine, h])
  rw [armedLane, Lane.atArm, if_pos h, empty]
  rfl

theorem armedLane_dns (h : l.state = .dns) : armedLane s n l = { l.emptied with stateAtArm := some .dns } := by
  rw [armedLane, Lane.atArm, if_neg (by simp [h]), if_pos h]

theorem armedLane_other (ready : l.state ≠ .ready) (dns : l.state ≠ .dns) : armedLane s n l = l.emptied := by
  rw [armedLane, Lane.atArm, if_neg ready, if_neg dns]

end

/-! ## RECALL from ARMED (R50) -/

/-- A lane at a RECALL from ARMED (R50). -/
def Lane.recalledArmed (l : Lane) : Lane :=
  if l.state = .vacant then l else l.recalled (if l.state = .set then .ready else l.state)

/-- The rows that a lane's RECALL from ARMED marks (R26). -/
def recallRows (n : Nat) (l : Lane) : List Nat := if decide (l.state = .set) then [n + 1, n + 12] else []

theorem recallArmedLane_acts {s : State} : ActsOnLane (fun _ => Lane.recalledArmed) recallRows recallArmedLane s := by
  intro n ls b
  generalize hu : ({ s with lanes := ls, board := b } : State) = u
  suffices h : recallArmedLane n u = { u with
      lanes := u.lanes.modify n Lane.recalledArmed, board := u.board.markedAll (recallRows n (u.lane n)) } by
    rw [h, ← hu]
  unfold recallArmedLane recallRows
  dsimp only
  by_cases vacant : (u.lane n).state = .vacant
  · have rows : (if decide ((u.lane n).state = .set) = true then [n + 1, n + 12] else []) = [] := if_neg (by simp [vacant])
    have lanes : u.lanes.modify n Lane.recalledArmed = u.lanes := modify_self_lane (by rw [Lane.recalledArmed, if_pos vacant])
    rw [if_pos vacant, rows, lanes]
    rfl
  · rw [if_neg vacant]
    by_cases set : (u.lane n).state = .set
    · have moved := setLaneState_still (n := n) (new := .ready) (s := u) (by simp [set]) (by simp [set])
      have lanes : (u.lanes.modify n (Lane.toState .ready)).modify n (Lane.recalled .ready)
          = u.lanes.modify n Lane.recalledArmed := by
        rw [List.modify_modify_eq]
        refine modify_congr_lane ?_
        rw [Lane.recalledArmed, if_neg vacant, if_pos set]
        rfl
      have rows : (if decide ((u.lane n).state = .set) = true then [n + 1, n + 12] else []) = [n + 1, n + 12] :=
        if_pos (decide_eq_true set)
      rw [if_pos set, moved, rows, ← lanes]
      rfl
    · have stays : setLaneState n (u.lane n).state u = u := by rw [setLaneState, if_pos rfl]
      have lanes : u.lanes.modify n (Lane.recalled (u.lane n).state) = u.lanes.modify n Lane.recalledArmed := by
        refine modify_congr_lane ?_
        rw [Lane.recalledArmed, if_neg vacant, if_neg set]
      have rows : (if decide ((u.lane n).state = .set) = true then [n + 1, n + 12] else []) = [] := if_neg (by simp [set])
      rw [if_neg set, stays, rows, ← lanes]
      rfl


/-! ## RECALL from RUNNING (R52) -/

/-- What a RECALL from RUNNING does. -/
structure Recalled (s t : State) : Prop where
  lanes : t.lanes = s.lanes.map Lane.recallRunning
  race : t.race = { s.race with
    state := .loaded, startTick := none, limitMark := false, pastLimit := false, lags := [], ranking := [] }
  cleared : FieldCleared s t
  link : t.link = if s.lanes.any (fun l => l.place.isSome) then
      (s.link.withRaceState .loaded s.race.state s.race.event).withNotice 0x4A ((List.range 10).map (fun n => laneByte (t.lane n).place))
    else s.link.withRaceState .loaded s.race.state s.race.event
  outer : t.outer = s.outer

/-- The state behind a RECALL from RUNNING, but for the notices. -/
def recalledState (s : State) : State := { s with
  race := { s.race with
    state := .loaded, startTick := none, limitMark := false, pastLimit := false, lags := [], ranking := [] }
  lanes := s.lanes.map Lane.recallRunning
  lamps := (stopAllLamps s).lamps
  board := ({ s.board with holds := s.board.holds.map (fun _ => none) } : Board).markedAll (List.range 22)
  link := s.link.withRaceState .loaded s.race.state s.race.event }

theorem recallRunning_eq {s : State} (race : s.race.state ≠ .loaded) : recallRunning s
    = if s.lanes.any (fun l => l.place.isSome) then handNotice 0x4A (placesBytes (recalledState s)) (recalledState s)
      else recalledState s := by
  have again : (({ s.board with holds := s.board.holds.map (fun _ => none) } : Board).markedAll (List.range 22)).marked 0
      = ({ s.board with holds := s.board.holds.map (fun _ => none) } : Board).markedAll (List.range 22) :=
    marked_markedAll List.nodup_range (List.mem_range.mpr (by omega)) _
  have cleared : setRaceState .loaded (markAllRows (stopAllLamps (stopHolds
      { s with race := { s.race with startTick := none, limitMark := false, lags := [], ranking := [] }
               lanes := s.lanes.map Lane.recallRunning }))) = recalledState s := by
    rw [setRaceState_eq (by rw [markAllRows_eq]; exact race), markAllRows_eq]
    dsimp only
    rw [recalledState, ← again]
    rfl
  unfold recallRunning
  dsimp only
  rw [cleared]

theorem recalled {s : State} (race : s.race.state ≠ .loaded) : Recalled s (recallRunning s) := by
  have cleared : FieldCleared s (recalledState s) := fieldCleared (by rw [recalledState]) (by rw [recalledState])
  have lanes : (recalledState s).lanes = s.lanes.map Lane.recallRunning := by rw [recalledState]
  have link : (recalledState s).link = s.link.withRaceState .loaded s.race.state s.race.event := by rw [recalledState]
  have reset : (recalledState s).race = { s.race with
      state := .loaded, startTick := none, limitMark := false, pastLimit := false, lags := [], ranking := [] } := by
    rw [recalledState]
  have outer : (recalledState s).outer = s.outer := rfl
  rw [recallRunning_eq race]
  generalize recalledState s = u at cleared lanes link reset outer
  split
  · next placed =>
    rw [handNotice_eq]
    refine ⟨lanes, reset, cleared.of_parts rfl rfl, ?_, outer⟩
    rw [if_pos placed, link]
    rfl
  · next placed =>
    exact ⟨lanes, reset, cleared, link.trans (if_neg placed).symm, outer⟩


theorem Recalled.lane {s t : State} (h : Recalled s t) (n : Nat) : t.lane n = (s.lane n).recallRunning := by
  rw [State.lane, h.lanes, List.getD_eq_getElem?_getD, List.getElem?_map, State.lane, List.getD_eq_getElem?_getD]
  cases s.lanes[n]? <;> rfl

/-! ## The requests -/

section
variable {f : Frame} {rest : List Frame} {s : State}

theorem exec_arm (h : HeadRequest f rest s) (hk : f.kind = 0x10) (hp : f.payload = []) (race : s.race.state = .loaded) :
    exec .arm s = .next (if s.lanes.all (fun l => decide (l.state ≠ .ready)) then putReply f .noLanes [] (popRequest s)
      else putReply f .ok (laneSet (fun n => ((setRaceState .armed (forEach laneNumbers armLane (popRequest s))).lane n).blockEmptyAtArm))
        (watchCheck (setRaceState .armed (forEach laneNumbers armLane (popRequest s))))) := by
  have right : ¬ (popRequest s).race.state ≠ .loaded := not_not.mpr race
  have taken : exec .arm s = .next (actArm f (popRequest s)) :=
    exec_taken (r := .plain 0x10 (fun n => decide (n = 0)) actArm) rfl h hk rfl (by simp [RequestForm.plain, hp])
  refine taken.trans (congrArg _ ((if_neg right).trans ?_))
  simp only [lane_of_lanes (watchCheck_lanes _)]
  rfl

theorem exec_recall (h : HeadRequest f rest s) (hk : f.kind = 0x11) (hp : f.payload = []) :
    exec .recallRace s = .next (actRecall f (popRequest s)) :=
  exec_taken (r := .plain 0x11 (fun n => decide (n = 0)) actRecall) rfl h hk rfl (by simp [RequestForm.plain, hp])

end

/-- Settles O40. -/
theorem armAndRecall : Obligations.ArmAndRecall := by
  refine ⟨⟨fun s f rest h hk hp race count => ?_, fun s f rest h hk hp race count still => ?_⟩,
    fun s f rest h hk hp race => ?_⟩
  · have low : f.kind.toNat < 0x80 := by simp [hk]
    have taken := exec_arm h hk hp race
    refine ⟨fun none_ => ?_, fun some_ => ?_⟩
    · have empty : s.lanes.all (fun l => decide (l.state ≠ .ready)) = true := by simpa using none_
      rw [if_pos empty, putReply_popRequest h low] at taken
      exact taken
    · have ready : ¬ s.lanes.all (fun l => decide (l.state ≠ .ready)) = true := by simpa using some_
      have moved := lanesMoved (new := .armed) (armLane_acts (popRequest s)) count (by simp [popRequest, race])
      rw [if_neg ready, putReply_watchCheck low] at taken
      generalize setRaceState .armed (forEach laneNumbers armLane (popRequest s)) = t at taken moved
      have link := moved.link
      rw [popRequest_head h] at link
      refine ⟨_, taken, moved.race, fun n hn => ⟨fun set => ?_, fun dns => ?_, fun notReady notDns => ?_⟩, ?_, moved.holds, ?_, ?_⟩
      · exact (moved.lane n hn).trans (armedLane_ready set)
      · exact (moved.lane n hn).trans (armedLane_dns dns)
      · exact (moved.lane n hn).trans (armedLane_other notReady notDns)
      · exact (moved.rows_filter (fun n => decide ((s.lane n).state = .ready)) fun _ => rfl).of_boards rfl rfl
      · exact congrArg (fun k => (Link.seen t.vector k).replied f .ok _) (link.trans (by rw [race]))
      · exact changesOnly_stillLamps moved.outer moved.lamps
  · have low : f.kind.toNat < 0x80 := by simp [hk]
    have armed : (popRequest s).race.state = .armed := race
    have taken := exec_recall h hk hp
    rw [actRecall, armed] at taken
    dsimp only at taken
    rw [putReply_watchCheck low] at taken
    have moved := lanesMoved (new := .loaded) (recallArmedLane_acts (s := popRequest s)) count (by rw [armed]; simp)
    generalize setRaceState .loaded (forEach laneNumbers recallArmedLane (popRequest s)) = t at taken moved
    have link := moved.link
    rw [popRequest_head h] at link
    have lane (n : Nat) : t.lane n = (s.lane n).recalledArmed := by
      by_cases hn : n < 10
      · exact moved.lane n hn
      · refine (moved.beyond n (by omega)).trans ?_
        have blank : s.lane n = Lane.blank := lane_beyond (by omega)
        have still : Lane.blank.recalledArmed = Lane.blank := if_pos rfl
        exact (congrArg Lane.recalledArmed blank ▸ still.symm ▸ blank : s.lane n = _)
    refine ⟨_, taken, moved.race, fun n vacant => ?_, fun n inUse => ?_, ?_, moved.holds, ?_, ?_⟩
    · exact (lane n).trans (if_pos vacant)
    · exact (lane n).trans (if_neg inUse)
    · exact (moved.rows_filter (fun n => decide ((s.lane n).state = .set)) fun _ => rfl).of_boards rfl rfl
    · exact congrArg (fun k => (Link.seen t.vector k).replied f .ok []) (link.trans (by rw [race]))
    · exact changesOnly_stillLamps moved.outer moved.lamps
  · have low : f.kind.toNat < 0x80 := by simp [hk]
    have running : (popRequest s).race.state = .running := race
    have taken := exec_recall h hk hp
    rw [actRecall, running] at taken
    dsimp only at taken
    refine ⟨fun late => ?_, fun within => ?_⟩
    · rw [if_pos (show (popRequest s).event.recallWindow < (popRequest s).raceClock from late), putReply_popRequest h low] at taken
      exact taken
    · intro l1
      rw [if_neg (show ¬ (popRequest s).event.recallWindow < (popRequest s).raceClock from Nat.not_lt.mpr within),
        putReply_watchCheck low] at taken
      have back := recalled (s := popRequest s) (by rw [running]; simp)
      generalize recallRunning (popRequest s) = t at taken back
      have link := back.link
      rw [popRequest_head h] at link
      have cleared : FieldCleared s t := by
        obtain ⟨off, holds, rows, queue⟩ := back.cleared
        exact ⟨off, holds, rows.of_boards rfl rfl, queue⟩
      refine ⟨_, taken, back.race, fun n vacant => ?_, fun n st inUse atArm => ?_, cleared.of_parts rfl rfl, fun unplaced => ?_,
        fun placed => ?_, changesOnly_of_outer back.outer⟩
      · exact (back.lane n).trans (if_pos vacant)
      · refine (back.lane n).trans ((if_neg inUse).trans ?_)
        have state : ((popRequest s).lane n).stateAtArm.getD ((popRequest s).lane n).state = st := by
          rw [show ((popRequest s).lane n).stateAtArm = some st from atArm]
          rfl
        rw [state]
        rfl
      · have none_ : ¬ s.lanes.any (fun l => l.place.isSome) = true := by simpa using unplaced
        rw [if_neg none_, race] at link
        exact congrArg (fun k => (Link.seen t.vector k).replied f .ok []) link
      · have some_ : s.lanes.any (fun l => l.place.isSome) = true := by
          obtain ⟨l, hl, place⟩ := placed
          exact List.any_eq_true.mpr ⟨l, hl, Option.isSome_iff_ne_none.mpr place⟩
        rw [if_pos some_, race] at link
        exact congrArg (fun k => (Link.seen t.vector k).replied f .ok []) link

end Sys2Proof.Machine
end

section
/-!
The resolutions of a STOP (R119): the FINISHING lanes one after another in ascending order, each with the lag samples that stand
then.
-/
namespace Sys2Proof.Machine

/-! ## The states between the resolutions -/

/-- Lane `n` is FINISHING. -/
def State.finishes (s : State) (n : Nat) : Bool := decide ((s.lane n).state = .finishing)

/-- The state once the FINISHING lanes below `k` have been resolved. -/
def resolvedUpTo (s : State) : Nat → State
  | 0 => s
  | k + 1 => if s.finishes k then resolveLane k (resolvedUpTo s k) else resolvedUpTo s k

/-- The decision for lane `n`, made with the samples that stand before it. -/
def stopDecision (s : State) (n : Nat) : Decision :=
  ((resolvedUpTo s n).decision ((resolvedUpTo s n).lane n)).getD
    { result := 0, overMark := false, source := .none, state := .finished, reason := .none, sample := none }

/-- The lag samples that the resolution of lane `n` adds. -/
def samplesOf (s : State) (n : Nat) : List LagSample :=
  if s.finishes n then (stopDecision s n).sample.toList.map (fun x => { lane := n, delta := x }) else []

/-- The lag samples that the resolutions below `k` add. -/
def samplesUpTo (s : State) (k : Nat) : List LagSample := (List.range k).flatMap (samplesOf s)

theorem resolvedUpTo_finishing {s : State} {k : Nat} (h : s.finishes k = true) :
    resolvedUpTo s (k + 1) = resolveLane k (resolvedUpTo s k) := if_pos h

theorem resolvedUpTo_other {s : State} {k : Nat} (h : s.finishes k = false) : resolvedUpTo s (k + 1) = resolvedUpTo s k :=
  if_neg (by simp [h])

/-- The resolutions of the FINISHING lanes, one after another. -/
theorem forEach_finishing (s : State) (k : Nat) :
    forEach ((List.range k).filter s.finishes) resolveLane s = resolvedUpTo s k := by
  induction k with
  | zero => rfl
  | succ k ih =>
    have split : forEach ((List.range k).filter s.finishes ++ [k].filter s.finishes) resolveLane s
        = forEach ([k].filter s.finishes) resolveLane (resolvedUpTo s k) := by
      rw [← ih]
      exact List.foldl_append
    rw [List.range_succ, List.filter_append, split]
    cases h : s.finishes k with
    | true => rw [resolvedUpTo_finishing h]; simp [h, forEach]
    | false => rw [resolvedUpTo_other h]; simp [h, forEach]

theorem length_resolveLane (n : Nat) (s : State) : (resolveLane n s).lanes.length = s.lanes.length := by
  have count (t : State) : t.gist.states.length = t.lanes.length := List.length_map _
  rw [← count, ← count]
  rcases gist_resolveLane n s with same | ⟨st, _, moved⟩
  · rw [same]
  · rw [moved, Gist.withState, List.length_set]

/-- What a STOP finds: ten lanes, the FINISHING ones with evidence, on their last length and without a FINAL entry. -/
structure Stoppable (s : State) : Prop where
  count : s.lanes.length = 10
  finishing : ∀ n < 10, s.finishes n = true → ((s.lane n).pad ≠ none ∨ (s.lane n).presses ≠ [])
    ∧ (s.lane n).done + 1 = s.event.total ∧ ∀ x ∈ (s.lane n).splits, x.kind ≠ .final

/-- The lane records and the race record once the lanes below `k` have been resolved. -/
structure LanesResolved (s : State) (k : Nat) : Prop where
  later : ∀ m, k ≤ m ∨ s.finishes m = false →
    (resolvedUpTo s k).lane m = { s.lane m with place := ((resolvedUpTo s k).lane m).place }
  settled : ∀ m < k, s.finishes m = true → (resolvedUpTo s k).lane m
    = { (s.lane m).resolved s.event (lagEstimate s.event (s.race.lags ++ samplesUpTo s m)) (stopDecision s m) with
        place := ((resolvedUpTo s k).lane m).place, records := ((resolvedUpTo s k).lane m).records }
  count : (resolvedUpTo s k).lanes.length = 10
  race : (resolvedUpTo s k).race
    = { s.race with lags := s.race.lags ++ samplesUpTo s k, ranking := (resolvedUpTo s k).race.ranking }

theorem samplesUpTo_succ (s : State) (k : Nat) : samplesUpTo s (k + 1) = samplesUpTo s k ++ samplesOf s k := by
  rw [samplesUpTo, List.range_succ, List.flatMap_append, List.flatMap_singleton]
  rfl

section
variable {s : State} (h : Stoppable s) {k : Nat}
include h

/-- Lane `k`'s resolution, the lanes below having been resolved. -/
theorem resolvedOne_at (hk : k < 10) (finishing : s.finishes k = true) (up : LanesResolved s k) :
    ResolvedOne k ((resolvedUpTo s k).lane k) (stopDecision s k) (resolvedUpTo s k) (resolvedUpTo s (k + 1))
      ∧ HoldsKept (resolvedUpTo s k) (resolvedUpTo s (k + 1))
      ∧ (resolvedUpTo s (k + 1)).lamps
        = { (resolvedUpTo s k).lamps with record := (resolvedUpTo s (k + 1)).lamps.record } := by
  obtain ⟨evidence, last, open_⟩ := h.finishing k hk finishing
  have lane := up.later k (.inl le_rfl)
  have event : (resolvedUpTo s k).event = s.event := by rw [State.event, up.race, State.event]
  have state : (s.lane k).state = .finishing := of_decide_eq_true finishing
  have resolvable : Resolvable k (resolvedUpTo s k) := by
    refine ⟨by rw [up.count]; exact hk, ?_, ?_, ?_⟩
    · rw [lane]
      exact state
    · rw [lane, event]
      exact last
    · rw [lane]
      exact open_
  have there : ((resolvedUpTo s k).lane k).pad ≠ none ∨ ((resolvedUpTo s k).lane k).presses ≠ [] := by
    rw [lane]
    exact evidence
  obtain ⟨d, hd⟩ := exists_decision (resolvedUpTo s k).event there
    (((resolvedUpTo s k).lane k).backup (resolvedUpTo s k).event
      (lagEstimate (resolvedUpTo s k).event (resolvedUpTo s k).race.lags))
  have chosen : stopDecision s k = d := by
    rw [stopDecision, State.decision, hd]
    rfl
  rw [resolvedUpTo_finishing finishing, chosen]
  exact resolvedOne resolvable hd

theorem decision_at (hk : k < 10) (finishing : s.finishes k = true) (up : LanesResolved s k) :
    decideFinish s.event (s.lane k) (s.lane k).agreed
      ((s.lane k).backup s.event (lagEstimate s.event (s.race.lags ++ samplesUpTo s k))) = some (stopDecision s k) := by
  obtain ⟨evidence, -, -⟩ := h.finishing k hk finishing
  have lane := up.later k (.inl le_rfl)
  have event : (resolvedUpTo s k).event = s.event := by rw [State.event, up.race, State.event]
  have lags : (resolvedUpTo s k).race.lags = s.race.lags ++ samplesUpTo s k := by rw [up.race]
  obtain ⟨d, hd⟩ := exists_decision s.event evidence
    ((s.lane k).backup s.event (lagEstimate s.event (s.race.lags ++ samplesUpTo s k)))
  rw [stopDecision, State.decision, event, lags, lane]
  rw [hd]
  exact congrArg some (congrArg (Option.getD · _) hd).symm

theorem lanesResolved (hk : k ≤ 10) : LanesResolved s k := by
  induction k with
  | zero =>
    exact ⟨fun m _ => rfl, fun m hm => absurd hm (Nat.not_lt_zero m), h.count, by simp [resolvedUpTo, samplesUpTo]⟩
  | succ k ih =>
    have up := ih (by omega)
    cases finishing : s.finishes k with
    | false =>
      have same := resolvedUpTo_other finishing
      have samples : samplesUpTo s (k + 1) = samplesUpTo s k := by
        rw [samplesUpTo_succ, samplesOf, finishing]
        simp
      constructor
      · intro m hm
        rw [same]
        refine up.later m ?_
        by_cases at_k : m = k
        · exact .inr (at_k ▸ finishing)
        · exact hm.imp (fun _ => by omega) id
      · intro m hm fin
        rw [same]
        refine up.settled m ?_ fin
        have other : m ≠ k := fun e => by simp [e, finishing] at fin
        omega
      · rw [same, up.count]
      · rw [same, samples]
        exact up.race
    | true =>
      obtain ⟨one, -, -⟩ := resolvedOne_at h (by omega) finishing up
      have event : (resolvedUpTo s k).event = s.event := by rw [State.event, up.race, State.event]
      have samples : samplesUpTo s (k + 1)
          = samplesUpTo s k ++ (stopDecision s k).sample.toList.map (fun x => { lane := k, delta := x }) := by
        rw [samplesUpTo_succ, samplesOf, finishing, if_pos rfl]
      have lags : (resolvedUpTo s k).race.lags = s.race.lags ++ samplesUpTo s k := by rw [up.race]
      constructor
      · intro m hm
        have other : m ≠ k := by
          rintro rfl
          rcases hm with hm | hm
          · omega
          · simp [finishing] at hm
        rw [one.others m other, up.later m (hm.imp (fun _ => by omega) id)]
      · intro m hm fin
        by_cases at_k : m = k
        · subst at_k
          rw [one.lane, event, lags, up.later m (.inl le_rfl)]
          rfl
        · rw [one.others m at_k, up.settled m (by omega) fin]
      · rw [resolvedUpTo_finishing finishing, length_resolveLane, up.count]
      · rw [one.race, samples, lags, up.race, List.append_assoc]

end

end Sys2Proof.Machine
end

section
/-!
What the resolutions of a STOP do together (R119): the records, the samples, the notices, the rows, the lamps and the places.
-/
namespace Sys2Proof.Machine

theorem resolvedUpTo_outer (s : State) (k : Nat) : (resolvedUpTo s k).outer = s.outer := by
  induction k with
  | zero => rfl
  | succ k ih =>
    cases finishing : s.finishes k with
    | false => rw [resolvedUpTo_other finishing, ih]
    | true => rw [resolvedUpTo_finishing finishing, outer_resolveLane, ih]

theorem resolvedUpTo_none {s : State} {k : Nat} (none_ : ∀ n < k, s.finishes n = false) : resolvedUpTo s k = s := by
  induction k with
  | zero => rfl
  | succ k ih => rw [resolvedUpTo_other (none_ k (by omega)), ih fun n hn => none_ n (by omega)]

section
variable {s : State} (h : Stoppable s)
include h

/-- A property that each resolution keeps holds once all have been made. -/
theorem stop_induction {Q : Nat → Prop} (zero : Q 0)
    (other : ∀ k < 10, s.finishes k = false → resolvedUpTo s (k + 1) = resolvedUpTo s k → Q k → Q (k + 1))
    (resolve : ∀ k < 10, s.finishes k = true →
      ResolvedOne k ((resolvedUpTo s k).lane k) (stopDecision s k) (resolvedUpTo s k) (resolvedUpTo s (k + 1)) → Q k → Q (k + 1))
    {k : Nat} (hk : k ≤ 10) : Q k := by
  induction k with
  | zero => exact zero
  | succ k ih =>
    cases finishing : s.finishes k with
    | false => exact other k (by omega) finishing (resolvedUpTo_other finishing) (ih (by omega))
    | true => exact resolve k (by omega) finishing (resolvedOne_at h (by omega) finishing (lanesResolved h (by omega))).1 (ih (by omega))

/-- A lane keeps its record, places apart, behind its own resolution. -/
theorem lane_settled {j k m : Nat} (hm : m < j) (hjk : j ≤ k) (hk : k ≤ 10) : (resolvedUpTo s k).lane m
    = { (resolvedUpTo s j).lane m with place := ((resolvedUpTo s k).lane m).place } := by
  refine stop_induction h (Q := fun k => j ≤ k → (resolvedUpTo s k).lane m
    = { (resolvedUpTo s j).lane m with place := ((resolvedUpTo s k).lane m).place }) ?_ ?_ ?_ hk hjk
  · intro zero
    omega
  · intro k _ _ same ih hj
    rw [same]
    rcases Nat.lt_or_eq_of_le hj with hj | hj
    · exact ih (by omega)
    · rw [hj, same]
  · intro k _ _ one ih hj
    rcases Nat.lt_or_eq_of_le hj with hj | hj
    · rw [one.others m (by omega), ih (by omega)]
    · rw [hj]

theorem resolvedUpTo_holds {k : Nat} (hk : k ≤ 10) : HoldsKept s (resolvedUpTo s k) := by
  induction k with
  | zero => rfl
  | succ k ih =>
    cases finishing : s.finishes k with
    | false => rw [resolvedUpTo_other finishing]; exact ih (by omega)
    | true => exact (resolvedOne_at h (by omega) finishing (lanesResolved h (by omega))).2.1.trans (ih (by omega))

/-! ## The notices -/

/-- The notices of lane `n`'s resolution. -/
def noticesOf (s : State) (n : Nat) : List (Byte × List Byte) :=
  if s.finishes n then
    resolutionNotices n (s.lane n) (stopDecision s n) ((resolvedUpTo s 10).lane n)
      ++ placesNotice (resolvedUpTo s n).places (resolvedUpTo s (n + 1)).places ++ recordNotice n s (resolvedUpTo s 10)
  else []

theorem resolvedUpTo_link {k : Nat} (hk : k ≤ 10) :
    (resolvedUpTo s k).link = s.link.withNotices ((List.range k).flatMap (noticesOf s)) := by
  refine stop_induction h (Q := fun k => (resolvedUpTo s k).link = s.link.withNotices ((List.range k).flatMap (noticesOf s)))
    rfl ?_ ?_ hk
  · intro k _ finishing same ih
    rw [same, ih, List.range_succ, List.flatMap_append, List.flatMap_singleton, noticesOf, finishing]
    simp
  · intro k hk finishing one ih
    have before := (lanesResolved h (k := k) (by omega)).later k (.inl le_rfl)
    have after := lane_settled h (j := k + 1) (m := k) (by omega) (show k + 1 ≤ 10 by omega) le_rfl
    have notices : noticesOf s k = resolutionNotices k ((resolvedUpTo s k).lane k) (stopDecision s k)
        ((resolvedUpTo s (k + 1)).lane k) ++ placesNotice (resolvedUpTo s k).places (resolvedUpTo s (k + 1)).places
        ++ recordNotice k (resolvedUpTo s k) (resolvedUpTo s (k + 1)) := by
      rw [noticesOf, if_pos finishing, recordNotice, recordNotice, after, before]
      rfl
    rw [one.link, ih, List.range_succ, List.flatMap_append, List.flatMap_singleton, notices, withNotices_append (ys := _ ++ _ ++ _)]

/-! ## The record sets and their lamp -/

theorem resolvedUpTo_records {n : Nat} (hn : n < 10) (finishing : s.finishes n = true) (i : Nat) :
    i ∈ ((resolvedUpTo s 10).lane n).records ↔ i < 4 ∧ slotsMet s.race.slots ((resolvedUpTo s 10).lane n) i := by
  obtain ⟨one, -, -⟩ := resolvedOne_at h hn finishing (lanesResolved h (by omega))
  have slots : (resolvedUpTo s n).race.slots = s.race.slots := by rw [(lanesResolved h (k := n) (by omega)).race]
  have after := lane_settled h (j := n + 1) (m := n) (by omega) (show n + 1 ≤ 10 by omega) le_rfl
  have met := one.ranked.records i
  rw [slots] at met
  rw [after]
  exact met

/-- Lane `n`'s resolution changes its record set to one that is not empty. -/
def lights (s : State) (n : Nat) : Bool := s.finishes n
  && decide (((resolvedUpTo s 10).lane n).records ≠ (s.lane n).records ∧ ((resolvedUpTo s 10).lane n).records ≠ [])

theorem resolvedUpTo_lamps {k : Nat} (hk : k ≤ 10) : (resolvedUpTo s k).lamps = { s.lamps with
    record := if (List.range k).any (lights s) then { s.lamps.record with run := some { start := s.tick, width := s.options.recordWidth } }
      else s.lamps.record } := by
  induction k with
  | zero => simp [resolvedUpTo]
  | succ k ih =>
    have ih := ih (by omega)
    have more : (List.range (k + 1)).any (lights s) = ((List.range k).any (lights s) || lights s k) := by
      simp [List.range_succ]
    rw [more]
    cases finishing : s.finishes k with
    | false =>
      have off : lights s k = false := by simp [lights, finishing]
      rw [resolvedUpTo_other finishing, ih, off, Bool.or_false]
    | true =>
      obtain ⟨one, -, lamps⟩ := resolvedOne_at h (show k < 10 by omega) finishing (lanesResolved h (by omega))
      have before := (lanesResolved h (k := k) (by omega)).later k (.inl le_rfl)
      have after := lane_settled h (j := k + 1) (m := k) (by omega) hk le_rfl
      have tick := outer_tick (resolvedUpTo_outer s k)
      have options := outer_options (resolvedUpTo_outer s k)
      have dark : lights s k = false ↔ ((resolvedUpTo s (k + 1)).lane k).records = ((resolvedUpTo s k).lane k).records
          ∨ ((resolvedUpTo s (k + 1)).lane k).records = [] := by
        rw [lights, after, before, finishing, Bool.true_and, decide_eq_false_iff_not, not_and_or, not_not, not_not]
      have beacon := one.ranked.beacon
      rw [lamps, beacon, ih, tick, options]
      cases now : lights s k with
      | true =>
        have lit := mt dark.mpr (by rw [now]; simp)
        rw [if_neg lit, Bool.or_true]
        cases (List.range k).any (lights s) <;> rfl
      | false => rw [if_pos (dark.mp now), Bool.or_false]

/-! ## The rows -/

theorem resolvedUpTo_rows {k : Nat} (hk : k ≤ 10) :
    RowsMarked (((List.range k).filter s.finishes).flatMap (fun n => [n + 1, n + 12]) ++ placeRows s (resolvedUpTo s k))
      (List.range 11 ++ ((List.range k).filter s.finishes).map (· + 12)) s (resolvedUpTo s k) := by
  refine stop_induction h (Q := fun k =>
    RowsMarked (((List.range k).filter s.finishes).flatMap (fun n => [n + 1, n + 12]) ++ placeRows s (resolvedUpTo s k))
      (List.range 11 ++ ((List.range k).filter s.finishes).map (· + 12)) s (resolvedUpTo s k)) ?_ ?_ ?_ hk
  · have none_ : placeRows s (resolvedUpTo s 0) = [] := by simp [placeRows, resolvedUpTo]
    rw [none_]
    exact (RowsMarked.refl s).mono (by simp) (by simp)
  · intro k _ finishing same ih
    rw [same, List.range_succ, List.filter_append]
    simpa [finishing] using ih
  · intro k hk finishing one ih
    have places : placeRows s (resolvedUpTo s (k + 1))
        ⊆ placeRows s (resolvedUpTo s k) ++ placeRows (resolvedUpTo s k) (resolvedUpTo s (k + 1)) := by
      intro r hr
      obtain ⟨m, hm, rfl⟩ := List.mem_map.mp hr
      obtain ⟨range, changed⟩ := List.mem_filter.mp hm
      by_cases first : ((resolvedUpTo s k).lane m).place = (s.lane m).place
      · refine List.mem_append_right _ (List.mem_map.mpr ⟨m, List.mem_filter.mpr ⟨range, ?_⟩, rfl⟩)
        rw [first]
        exact changed
      · exact List.mem_append_left _ (List.mem_map.mpr ⟨m, List.mem_filter.mpr ⟨range, decide_eq_true first⟩, rfl⟩)
    have within (s t : State) : placeRows s t ⊆ List.range 11 := by
      intro r hr
      obtain ⟨m, hm, rfl⟩ := List.mem_map.mp hr
      have := List.mem_range.mp (List.mem_filter.mp hm).1
      exact List.mem_range.mpr (by omega)
    rw [List.range_succ, List.filter_append]
    refine (ih.trans one.rows).mono ?_ ?_
    · intro r hr
      simp only [List.mem_append, List.mem_flatMap, List.flatMap_append, List.mem_filter, List.mem_singleton] at hr ⊢
      rcases hr with (hr | ⟨n, ⟨rfl, _⟩, hr⟩) | hr
      · exact .inl (.inl hr)
      · exact .inr (.inl hr)
      · exact (List.mem_append.mp (places hr)).elim (fun q => .inl (.inr q)) fun q => .inr (.inr q)
    · intro r hr
      simp only [List.mem_append, List.map_append, List.mem_cons, List.not_mem_nil, or_false] at hr ⊢
      rcases hr with (hr | hr) | (rfl | rfl) | hr
      · exact .inl hr
      · exact .inr (.inl hr)
      · exact .inl (List.mem_range.mpr (by omega))
      · exact .inr (.inr (List.mem_map.mpr ⟨k, by simp [finishing], rfl⟩))
      · exact .inl (within _ _ hr)

/-! ## The places -/

theorem resolvedUpTo_ranked {k : Nat} (hk : k ≤ 10) (some_ : ∃ n < k, s.finishes n = true) :
    PlacesRight (resolvedUpTo s k) ∧ RankingRight (resolvedUpTo s k) := by
  refine stop_induction h (Q := fun k => (∃ n < k, s.finishes n = true) →
    PlacesRight (resolvedUpTo s k) ∧ RankingRight (resolvedUpTo s k)) ?_ ?_ ?_ hk some_
  · rintro ⟨n, hn, _⟩
    omega
  · rintro k _ finishing same ih ⟨n, hn, fin⟩
    rw [same]
    have other : n ≠ k := fun e => by simp [e, finishing] at fin
    exact ih ⟨n, by omega, fin⟩
  · intro k _ _ one _ _
    exact ⟨one.ranked.places, one.ranked.ranking⟩

end

end Sys2Proof.Machine
end

section
/-!
STOP and CLOSE (R119, R121): the places between the resolutions, the SWIMMING lanes that do not finish, and the end of the race.
-/
namespace Sys2Proof.Machine

/-! ## Places by the standings (R108) -/

theorem lanes_eq_map {s : State} (count : s.lanes.length = 10) : s.lanes = (List.range 10).map s.lane := by
  refine List.ext_getElem (by simp [count]) fun i hi _ => ?_
  simp [State.lane, hi]

theorem standings_eq_map {s : State} (count : s.lanes.length = 10) :
    s.standings = (List.range 10).map (fun n => (s.lane n).standing) :=
  (congrArg (List.map Lane.standing) (lanes_eq_map count)).trans List.map_map

theorem place_of_right {s : State} (right : PlacesRight s) {n : Nat} (hn : n < s.lanes.length) :
    (s.lane n).place = placeBy s.standings (s.lane n).standing :=
  (placesRight_iff s).mp right _ (mem_lanes_lane hn)

theorem places_of_right {s : State} (right : PlacesRight s) (count : s.lanes.length = 10) :
    s.places = s.standings.map (placeBy s.standings) := by
  have listed := congrArg (List.map (placeBy s.standings)) (standings_eq_map count)
  rw [listed, List.map_map, State.places]
  exact List.map_congr_left fun n hn => place_of_right right (by rw [count]; exact List.mem_range.mp hn)

theorem placesNotice_eq_nil {old new : List (Option Nat)} : placesNotice old new = [] ↔ new = old := by
  unfold placesNotice
  split
  · next same => simp [same]
  · next differs => simp [differs]

section
variable {s : State} (h : Stoppable s)
include h

/-- The lanes once those below `n` have been resolved, places apart. -/
def lanesUpTo (s : State) (n : Nat) : List Lane :=
  (List.range 10).map (fun m => if m ∈ (List.range 10).filter s.finishes ∧ m < n then (resolvedUpTo s 10).lane m else s.lane m)

theorem standings_lanesUpTo {n : Nat} (hn : n ≤ 10) : (lanesUpTo s n).map Lane.standing = (resolvedUpTo s n).standings := by
  have up := lanesResolved h hn
  rw [standings_eq_map up.count, lanesUpTo, List.map_map]
  refine List.map_congr_left fun m hm => ?_
  dsimp only [Function.comp]
  by_cases settled : m ∈ (List.range 10).filter s.finishes ∧ m < n
  · rw [if_pos settled, lane_settled h settled.2 hn le_rfl]
    rfl
  · rw [if_neg settled]
    have stays : n ≤ m ∨ s.finishes m = false := by
      by_contra moved
      obtain ⟨below, finishing⟩ := not_or.mp moved
      exact settled ⟨List.mem_filter.mpr ⟨hm, by simpa using finishing⟩, by omega⟩
    rw [up.later m stays]
    rfl

/-- The places once the lanes below `n` have been resolved (R109). -/
theorem places_resolvedUpTo {n : Nat} (hn : n ≤ 10) : (resolvedUpTo s n).places
    = if ((List.range 10).filter s.finishes).all (fun m => decide (n ≤ m)) then s.places
      else (lanesUpTo s n).map (placeAmong (lanesUpTo s n)) := by
  by_cases first : ((List.range 10).filter s.finishes).all (fun m => decide (n ≤ m)) = true
  · rw [if_pos first]
    refine congrArg State.places (resolvedUpTo_none fun m hm => Bool.eq_false_iff.mpr fun finishing => ?_)
    have ahead := List.all_eq_true.mp first m (List.mem_filter.mpr ⟨List.mem_range.mpr (by omega), finishing⟩)
    exact absurd hm (Nat.not_lt.mpr (of_decide_eq_true ahead))
  · rw [if_neg first]
    obtain ⟨m, hm, ahead⟩ := List.all_eq_false.mp (Bool.eq_false_iff.mpr first)
    have right := (resolvedUpTo_ranked h hn ⟨m, by simpa using ahead, (List.mem_filter.mp hm).2⟩).1
    rw [places_of_right right (lanesResolved h hn).count, ← standings_lanesUpTo h hn, List.map_map]
    exact List.map_congr_left fun l _ => (placeAmong_eq _ l).symm

/-- Where the places stood right, a resolution changes them for a lane without a DQ mark and for no other (R108, R109). -/
theorem placesNotice_resolved (right : PlacesRight s) {n : Nat} (hn : n < 10) (finishing : s.finishes n = true) :
    placesNotice (resolvedUpTo s n).places (resolvedUpTo s (n + 1)).places = [] ↔ (s.lane n).dq = true := by
  have before := lanesResolved h (k := n) (by omega)
  have after := lanesResolved h (k := n + 1) (by omega)
  have rightAfter := (resolvedUpTo_ranked h (k := n + 1) (by omega) ⟨n, by omega, finishing⟩).1
  have rightBefore : PlacesRight (resolvedUpTo s n) := by
    by_cases some_ : ∃ m < n, s.finishes m = true
    · exact (resolvedUpTo_ranked h (by omega) some_).1
    · rw [resolvedUpTo_none fun m hm => Bool.eq_false_iff.mpr fun fin => some_ ⟨m, hm, fin⟩]
      exact right
  have unplaced : ((resolvedUpTo s n).lane n).standing = none := by
    rw [standing_eq_none, before.later n (.inl le_rfl)]
    rintro ⟨state, -⟩
    rw [show (s.lane n).state = .finishing from of_decide_eq_true finishing] at state
    simp at state
  have others (m : Nat) (hm : m ≠ n) : ((resolvedUpTo s (n + 1)).lane m).standing = ((resolvedUpTo s n).lane m).standing := by
    have one := (resolvedOne_at h hn finishing before).1
    rw [one.others m hm]
    rfl
  have mine := after.settled n (by omega) finishing
  rw [placesNotice_eq_nil]
  cases dq : (s.lane n).dq with
  | true =>
    refine iff_of_true ?_ rfl
    have still : ((resolvedUpTo s (n + 1)).lane n).standing = none := by
      rw [standing_eq_none, mine]
      rintro ⟨-, -, clear⟩
      exact absurd (dq.symm.trans clear) (by simp)
    have standings : (resolvedUpTo s (n + 1)).standings = (resolvedUpTo s n).standings := by
      rw [standings_eq_map after.count, standings_eq_map before.count]
      refine List.map_congr_left fun m _ => ?_
      by_cases hm : m = n
      · rw [hm, still, unplaced]
      · exact others m hm
    rw [places_of_right rightAfter after.count, places_of_right rightBefore before.count, standings]
  | false =>
    refine iff_of_false (fun same => ?_) (by simp)
    obtain ⟨-, -, open_⟩ := h.finishing n hn finishing
    have decided := decision_at h hn finishing before
    have result : ((resolvedUpTo s (n + 1)).lane n).result ≠ none := by
      rw [mine, Lane.result]
      dsimp only
      rw [finalEntry_resolved _ _ _ open_]
      simp [timedEntry]
    have placed : ((resolvedUpTo s (n + 1)).lane n).placed := by
      refine ⟨?_, result, ?_⟩
      · rw [mine]
        exact decideFinish_state decided
      · rw [mine]
        exact dq
    have place := congrArg (fun ps => ps[n]?) same
    have at_n (u : State) : u.places[n]? = some (u.lane n).place := by simp [State.places, hn]
    rw [at_n, at_n, Option.some.injEq, place_of_right rightAfter (by rw [after.count]; exact hn),
      place_of_right rightBefore (by rw [before.count]; exact hn), unplaced, standing_of_placed placed] at place
    cases place

end

/-! ## The SWIMMING lanes (R113, R119) -/

/-- What the leaving of several lanes does. -/
structure LeftAll (ns : List Nat) (v w : State) : Prop where
  mine : ∀ n ∈ ns, w.lane n = { v.lane n with state := .dnf }
  others : ∀ m, m ∉ ns → w.lane m = v.lane m
  count : w.lanes.length = v.lanes.length
  race : w.race = v.race
  link : w.link = v.link
  rows : RowsMarked (ns.flatMap fun n => [n + 1, n + 12]) (ns.flatMap fun n => [n + 1, n + 12]) v w
  hold : ∀ m, w.hold m = if m ∈ ns then none else v.hold m
  lamps : w.lamps = { v.lamps with finalLength := w.lamps.finalLength }
  finals : w.lamps.finalLength.map LampTimer.stop = v.lamps.finalLength.map LampTimer.stop
  outer : w.outer = v.outer

theorem stop_setInput (t : Tick) (width : Nat) (on : Bool) (x : LampTimer) : (x.setInput t width on).stop = x.stop := by
  unfold LampTimer.setInput
  split
  · rfl
  · split <;> rfl

theorem map_stop_modify (n : Nat) (t : Tick) (width : Nat) (on : Bool) (xs : List LampTimer) :
    (xs.modify n (LampTimer.setInput t width on)).map LampTimer.stop = xs.map LampTimer.stop := by
  refine List.ext_getElem? fun i => ?_
  rw [List.getElem?_map, List.getElem?_modify, List.getElem?_map]
  cases xs[i]? with
  | none => rfl
  | some x => by_cases hi : n = i <;> simp [hi, stop_setInput]

theorem leftAll {ns : List Nat} (nodup : ns.Nodup) {v : State}
    (swim : ∀ n ∈ ns, n < v.lanes.length ∧ (v.lane n).state = .swimming) : LeftAll ns v (forEach ns dnfLane v) := by
  induction ns generalizing v with
  | nil =>
    exact ⟨by simp, fun m _ => rfl, rfl, rfl, rfl, RowsMarked.refl v, fun m => by simp [forEach], rfl, rfl, rfl⟩
  | cons n ns ih =>
    obtain ⟨fresh, rest⟩ := List.nodup_cons.mp nodup
    obtain ⟨hn, swimming⟩ := swim n (by simp)
    have left : LeftRace .dnf n v (dnfLane n v) := leftRace hn (by simp) (by simp [swimming])
    have count : (dnfLane n v).lanes.length = v.lanes.length := by
      rw [dnfLane, syncFinalLength_lanes, setLaneState_lanes, List.length_modify]
    have go := ih rest (v := dnfLane n v) fun m hm => by
      have other : m ≠ n := fun e => fresh (e ▸ hm)
      rw [count, left.others m other]
      exact swim m (by simp [hm])
    have step : forEach (n :: ns) dnfLane v = forEach ns dnfLane (dnfLane n v) := rfl
    rw [step]
    generalize forEach ns dnfLane (dnfLane n v) = w at go
    generalize dnfLane n v = u at left go count
    constructor
    · intro m hm
      rcases List.mem_cons.mp hm with rfl | hm
      · rw [go.others m fresh, left.lane]
      · have other : m ≠ n := fun e => fresh (e ▸ hm)
        rw [go.mine m hm, left.others m other]
    · intro m hm
      obtain ⟨other, rest⟩ := not_or.mp fun k => hm (List.mem_cons.mpr k)
      rw [go.others m rest, left.others m other]
    · rw [go.count, count]
    · rw [go.race, left.race]
    · rw [go.link, left.link]
    · exact left.rows.trans go.rows
    · intro m
      rw [go.hold, left.hold]
      by_cases hm : m = n
      · simp [hm, swimming]
      · simp [hm]
    · rw [go.lamps, left.lamps]
    · rw [go.finals, left.lamps]
      exact map_stop_modify _ _ _ _ _
    · rw [go.outer, left.outer]

end Sys2Proof.Machine
end

section
/-!
STOP and CLOSE as requests (R119, R121).
-/
namespace Sys2Proof.Machine

/-! ## The lag samples of a STOP (R84) -/

theorem lane_of_mem_samplesOf {s : State} {n : Nat} {x : LagSample} (h : x ∈ samplesOf s n) : x.lane = n := by
  unfold samplesOf at h
  split at h
  · obtain ⟨d, _, rfl⟩ := List.mem_map.mp h
    rfl
  · simp at h

theorem samplesUpTo_lanes (s : State) (k : Nat) :
    ((samplesUpTo s k).map (·.lane)).Sublist ((List.range k).filter s.finishes) := by
  induction k with
  | zero => simp [samplesUpTo]
  | succ k ih =>
    rw [samplesUpTo_succ, List.map_append, List.range_succ, List.filter_append]
    refine ih.append ?_
    unfold samplesOf
    cases finishing : s.finishes k with
    | false => simp
    | true => cases (stopDecision s k).sample <;> simp [finishing]

/-- The samples that stand before lane `n`'s resolution. -/
theorem samplesUpTo_below (s : State) {n k : Nat} (hn : n ≤ k) :
    (samplesUpTo s k).filter (fun x => decide (x.lane < n)) = samplesUpTo s n := by
  induction k with
  | zero =>
    obtain rfl : n = 0 := by omega
    simp [samplesUpTo]
  | succ k ih =>
    rw [samplesUpTo_succ, List.filter_append]
    rcases Nat.lt_or_eq_of_le hn with hn | rfl
    · have beyond : (samplesOf s k).filter (fun x => decide (x.lane < n)) = [] :=
        List.filter_eq_nil_iff.mpr fun x hx => by rw [lane_of_mem_samplesOf hx]; simp; omega
      rw [ih (by omega), beyond, List.append_nil]
    · have all (x : LagSample) (hx : x ∈ samplesUpTo s k ++ samplesOf s k) : x.lane < k + 1 := by
        rcases List.mem_append.mp hx with hx | hx
        · obtain ⟨m, hm, hx⟩ := List.mem_flatMap.mp hx
          have := List.mem_range.mp hm
          rw [lane_of_mem_samplesOf hx]
          omega
        · rw [lane_of_mem_samplesOf hx]
          omega
      rw [← List.filter_append, samplesUpTo_succ]
      exact List.filter_eq_self.mpr fun x hx => decide_eq_true (all x hx)

/-- The samples of lane `n`'s resolution. -/
theorem samplesUpTo_at (s : State) {n k : Nat} (hn : n < k) :
    (samplesUpTo s k).filter (fun x => decide (x.lane = n)) = samplesOf s n := by
  have other {m : Nat} (hm : m ≠ n) : (samplesOf s m).filter (fun x => decide (x.lane = n)) = [] :=
    List.filter_eq_nil_iff.mpr fun x hx => by rw [lane_of_mem_samplesOf hx]; simp [hm]
  have own : (samplesOf s n).filter (fun x => decide (x.lane = n)) = samplesOf s n :=
    List.filter_eq_self.mpr fun x hx => decide_eq_true (lane_of_mem_samplesOf hx)
  induction k with
  | zero => omega
  | succ k ih =>
    rw [samplesUpTo_succ, List.filter_append]
    rcases Nat.lt_or_eq_of_le (Nat.le_of_lt_succ hn) with below | rfl
    · rw [ih below, other (by omega), List.append_nil]
    · have none_ : (samplesUpTo s n).filter (fun x => decide (x.lane = n)) = [] := by
        refine List.filter_eq_nil_iff.mpr fun x hx => ?_
        obtain ⟨m, hm, hx⟩ := List.mem_flatMap.mp hx
        have := List.mem_range.mp hm
        rw [lane_of_mem_samplesOf hx]
        simp
        omega
      rw [none_, own, List.nil_append]

/-! ## The stopped race -/

/-- Lane `n` is SWIMMING. -/
def State.swims (s : State) (n : Nat) : Bool := decide ((s.lane n).state = .swimming)

/-- The state behind the four steps of R119. -/
def stoppedState (s : State) : State :=
  setRaceState .unofficial (stopLaneLamps (forEach ((List.range 10).filter s.swims) dnfLane (resolvedUpTo s 10)))

/-- What a STOP does. -/
structure Stopped (s t : State) : Prop where
  finisher : ∀ n < 10, s.finishes n = true → t.lane n = (resolvedUpTo s 10).lane n
  swimmer : ∀ n < 10, s.swims n = true → t.lane n = { s.lane n with state := .dnf, place := (t.lane n).place }
  other : ∀ n, ¬ (n < 10 ∧ s.finishes n = true) → ¬ (n < 10 ∧ s.swims n = true) →
    t.lane n = { s.lane n with place := (t.lane n).place }
  place : ∀ n, (t.lane n).place = ((resolvedUpTo s 10).lane n).place
  standings : t.standings = (resolvedUpTo s 10).standings
  count : t.lanes.length = 10
  race : t.race = { s.race with
    state := .unofficial, pastLimit := false, lags := s.race.lags ++ samplesUpTo s 10, ranking := (resolvedUpTo s 10).race.ranking }
  link : t.link = (s.link.withNotices ((List.range 10).flatMap (noticesOf s))).withRaceState .unofficial .running s.race.event
  hold : ∀ n, t.hold n = if n < 10 ∧ s.swims n = true then none else s.hold n
  lamps : t.lamps = { s.lamps with
    startFlash := s.lamps.startFlash.map LampTimer.stop, takeoffAlert := s.lamps.takeoffAlert.map LampTimer.stop
    finalLength := s.lamps.finalLength.map LampTimer.stop
    record := if (List.range 10).any (lights s) then { s.lamps.record with run := some { start := s.tick, width := s.options.recordWidth } }
      else s.lamps.record }
  rows : RowsMarked (0 :: ((List.range 10).filter s.finishes ++ (List.range 10).filter s.swims).flatMap (fun n => [n + 1, n + 12])
      ++ placeRows s t)
    (List.range 11 ++ ((List.range 10).filter s.finishes ++ (List.range 10).filter s.swims).map (· + 12)) s t
  outer : t.outer = s.outer

theorem stopped {s : State} (h : Stoppable s) (running : s.race.state = .running) : Stopped s (stoppedState s) := by
  have up := lanesResolved h (k := 10) le_rfl
  have mem {n : Nat} : n ∈ (List.range 10).filter s.swims ↔ n < 10 ∧ s.swims n = true := by simp
  have notBoth {n : Nat} (swims : s.swims n = true) : s.finishes n = false := by
    have state : (s.lane n).state = .swimming := of_decide_eq_true swims
    simp [State.finishes, state]
  have kept (n : Nat) (out : ¬ (n < 10 ∧ s.finishes n = true)) :
      (resolvedUpTo s 10).lane n = { s.lane n with place := ((resolvedUpTo s 10).lane n).place } := by
    refine up.later n ?_
    by_contra k
    obtain ⟨below, finishing⟩ := not_or.mp k
    exact out ⟨by omega, by simpa using finishing⟩
  have left := leftAll (ns := (List.range 10).filter s.swims) (List.nodup_range.filter _) (v := resolvedUpTo s 10) fun n hn => by
    obtain ⟨below, swims⟩ := mem.mp hn
    rw [kept n fun k => by simp [notBoth swims] at k, up.count]
    exact ⟨below, of_decide_eq_true swims⟩
  have link := resolvedUpTo_link h (k := 10) le_rfl
  have rows := resolvedUpTo_rows h (k := 10) le_rfl
  have holds := resolvedUpTo_holds h (k := 10) le_rfl
  have lamps := resolvedUpTo_lamps h (k := 10) le_rfl
  have outer := resolvedUpTo_outer s 10
  rw [stoppedState]
  generalize forEach ((List.range 10).filter s.swims) dnfLane (resolvedUpTo s 10) = w at left
  have state : w.race.state = .running := by rw [left.race, up.race, running]
  have event : w.race.event = s.race.event := by rw [left.race, up.race]
  have going : (stopLaneLamps w).race.state ≠ .unofficial := by
    change w.race.state ≠ _
    simp [state]
  have standing (n : Nat) : (w.lane n).standing = ((resolvedUpTo s 10).lane n).standing := by
    by_cases swims : n < 10 ∧ s.swims n = true
    · have before := kept n fun k => by simp [notBoth swims.2] at k
      have swimming : (s.lane n).state = .swimming := of_decide_eq_true swims.2
      rw [left.mine n (mem.mpr swims), standing_eq_none.mpr (by simp), eq_comm, standing_eq_none, before]
      simp [swimming]
    · rw [left.others n (mt mem.mp swims)]
  have place (n : Nat) : (w.lane n).place = ((resolvedUpTo s 10).lane n).place := by
    by_cases swims : n < 10 ∧ s.swims n = true
    · rw [left.mine n (mem.mpr swims)]
    · rw [left.others n (mt mem.mp swims)]
  have count : w.lanes.length = 10 := by rw [left.count, up.count]
  have board : RowsMarked [0] [0] w (setRaceState .unofficial (stopLaneLamps w)) := by
    have marked : RowsMarked [0] [0] (stopLaneLamps w) (setRaceState .unofficial (stopLaneLamps w)) :=
      rowsMarked_marked (by rw [setRaceState_eq going])
    generalize setRaceState .unofficial (stopLaneLamps w) = t at marked
    exact marked.of_boards rfl rfl
  have moved : placeRows s (setRaceState .unofficial (stopLaneLamps w)) = placeRows s (resolvedUpTo s 10) := by
    rw [setRaceState_eq going]
    exact congrArg (List.map (· + 1)) (List.filter_congr fun n _ => by rw [← place n]; rfl)
  constructor
  · intro n hn finishing
    refine (lane_of_lanes (t := setRaceState .unofficial (stopLaneLamps w)) (s := w) (setRaceState_lanes _ _) n).trans ?_
    exact left.others n (mt mem.mp fun k => by simp [notBoth k.2] at finishing)
  · intro n hn swims
    rw [lane_of_lanes (t := setRaceState .unofficial (stopLaneLamps w)) (s := w) (setRaceState_lanes _ _) n,
      left.mine n (mem.mpr ⟨hn, swims⟩), kept n fun k => by simp [notBoth swims] at k]
  · intro n out still
    rw [lane_of_lanes (t := setRaceState .unofficial (stopLaneLamps w)) (s := w) (setRaceState_lanes _ _) n,
      left.others n (mt mem.mp still), kept n out]
  · intro n
    rw [lane_of_lanes (t := setRaceState .unofficial (stopLaneLamps w)) (s := w) (setRaceState_lanes _ _) n, place]
  · have same : (setRaceState .unofficial (stopLaneLamps w)).standings = w.standings :=
      congrArg (List.map Lane.standing) (setRaceState_lanes _ _)
    rw [same, standings_eq_map count, standings_eq_map up.count]
    exact List.map_congr_left fun n _ => standing n
  · rw [setRaceState_lanes]
    exact count
  · rw [setRaceState_eq going]
    change { w.race with state := .unofficial, pastLimit := false } = _
    rw [left.race, up.race]
  · rw [setRaceState_eq going]
    change w.link.withRaceState .unofficial w.race.state w.race.event = _
    rw [left.link, link, state, event]
  · intro n
    have same : (setRaceState .unofficial (stopLaneLamps w)).board.holds = w.board.holds := by
      rw [setRaceState_eq going]
      exact Board.marked_holds _ _
    rw [hold_of_holds same, left.hold, hold_of_holds holds]
    simp only [mem]
  · rw [setRaceState_lamps]
    change { w.lamps with
      startFlash := w.lamps.startFlash.map LampTimer.stop, takeoffAlert := w.lamps.takeoffAlert.map LampTimer.stop
      finalLength := w.lamps.finalLength.map LampTimer.stop } = _
    rw [left.finals, left.lamps, lamps]
  · rw [moved]
    refine ((rows.trans left.rows).trans board).mono ?_ ?_
    · intro r hr
      simp only [List.mem_append, List.mem_cons, List.flatMap_append, List.not_mem_nil, or_false] at hr ⊢
      tauto
    · intro r hr
      simp only [List.mem_append, List.mem_cons, List.map_append, List.not_mem_nil, or_false, List.mem_flatMap] at hr ⊢
      rcases hr with (hr | ⟨n, hn, rfl | rfl⟩) | rfl
      · exact hr.elim .inl fun k => .inr (.inl k)
      · have := (mem.mp hn).1
        exact .inl (List.mem_range.mpr (by omega))
      · exact .inr (.inr (List.mem_map.mpr ⟨n, hn, rfl⟩))
      · exact .inl (List.mem_range.mpr (by omega))
  · rw [outer_setRaceState]
    exact left.outer.trans outer


/-! ## The requests -/

section
variable {f : Frame} {rest : List Frame} {s : State}

theorem exec_stop (h : HeadRequest f rest s) (hk : f.kind = 0x12) (hp : f.payload = []) (race : s.race.state = .running) :
    exec .stopRace s = .next ((stoppedState (popRequest s)).answered f .ok
      (laneSet (fun n => decide (n ∈ (List.range 10).filter s.finishes)) ++ laneSet (fun n => decide (n ∈ (List.range 10).filter s.swims)))) := by
  have low : f.kind.toNat < 0x80 := by simp [hk]
  have right : ¬ (popRequest s).race.state ≠ .running := not_not.mpr race
  have taken : exec .stopRace s = .next (actStop f (popRequest s)) :=
    exec_taken (r := .plain 0x12 (fun n => decide (n = 0)) actStop) rfl h hk rfl (by simp [RequestForm.plain, hp])
  have member (ns : List Nat) : laneSet (fun n => ns.contains n) = laneSet (fun n => decide (n ∈ ns)) :=
    laneSet_congr fun i _ => by simp
  refine taken.trans (congrArg _ ((if_neg right).trans ?_))
  have finishing : (popRequest s).lanesIn .finishing = (List.range 10).filter (popRequest s).finishes := rfl
  have swimming : (popRequest s).lanesIn .swimming = (List.range 10).filter (popRequest s).swims := rfl
  dsimp only
  rw [member, member, finishing, swimming, forEach_finishing, putReply_watchCheck low]
  rfl

theorem exec_close (h : HeadRequest f rest s) (hk : f.kind = 0x1A) (hp : f.payload = []) (race : s.race.state = .unofficial) :
    exec .close s = .next (if s.lanes.any (fun l => decide (l.state = .review)) then
        putReply f .reviewOpen (laneSet (fun n => decide ((s.lane n).state = .review))) (popRequest s)
      else putReply f .ok (laneSet (fun n => decide ((s.lane n).state = .review))) (watchCheck (setRaceState .official (popRequest s)))) := by
  have right : ¬ (popRequest s).race.state ≠ .unofficial := not_not.mpr race
  have taken : exec .close s = .next (actClose f (popRequest s)) :=
    exec_taken (r := .plain 0x1A (fun n => decide (n = 0)) actClose) rfl h hk rfl (by simp [RequestForm.plain, hp])
  exact taken.trans (congrArg _ (if_neg right))

end

theorem flatMap_if {α : Type} (p : Nat → Bool) (g : Nat → List α) (ns : List Nat) :
    ns.flatMap (fun n => if p n then g n else []) = (ns.filter p).flatMap g := by
  induction ns with
  | nil => rfl
  | cons n ns ih =>
    rw [List.flatMap_cons, ih, List.filter_cons]
    cases p n <;> simp

/-- What a STOP decides for a FINISHING lane, as the statement tells it. -/
structure StopDecides (s t : State) (n : Nat) : Prop where
  consensus : (t.lane n).consensus = consensusOf ((s.lane n).presses.map (·.time))
  lag : (t.lane n).lagUsed
    = lagEstimate s.event (s.race.lags ++ (samplesUpTo s 10).filter (fun x => decide (x.lane < n)))
  candidate : (t.lane n).candidate = (t.lane n).consensus.map (fun c =>
    (max ((c : Int) - ((t.lane n).lagUsed : Int)) (lengthLimit s.event (s.lane n) 1 : Int)).toNat)
  decided : DecidedBy s.event.disagreement (s.lane n) (t.lane n).consensus (t.lane n).candidate (stopDecision s n)
  sample : (samplesUpTo s 10).filter (fun x => decide (x.lane = n))
    = (stopDecision s n).sample.toList.map (fun x => { lane := n, delta := x })
  lane : t.lane n = { s.lane n with
    state := (stopDecision s n).state, source := (stopDecision s n).source, reason := (stopDecision s n).reason, window := none
    done := (s.lane n).done + 1
    splits := (s.lane n).splits ++ [timedEntry ((s.lane n).done + 1) .final
      { time := (stopDecision s n).result, overMark := (stopDecision s n).overMark }]
    consensus := (t.lane n).consensus, lagUsed := (t.lane n).lagUsed, candidate := (t.lane n).candidate
    place := (t.lane n).place, records := (t.lane n).records }
  records : ∀ i, i ∈ (t.lane n).records ↔ i < 4 ∧ slotsMet s.race.slots (t.lane n) i

theorem stopDecides {s t : State} (h : Stoppable s) (done : Stopped s t) {n : Nat} (hn : n < 10) (finishing : s.finishes n = true) :
    StopDecides s t n := by
  have mine := done.finisher n hn finishing
  have settled := (lanesResolved h (k := 10) le_rfl).settled n hn finishing
  have decided := decision_at h hn finishing (lanesResolved h (k := n) (by omega))
  have records := resolvedUpTo_records h hn finishing
  rw [← mine] at settled records
  constructor
  · rw [settled]
    rfl
  · rw [settled, samplesUpTo_below s (Nat.le_of_lt hn)]
    rfl
  · rw [settled]
    dsimp only [Lane.resolved, Lane.backup, candidateOf]
    cases (s.lane n).agreed <;> rfl
  · rw [settled]
    exact decidedBy_of_decide decided (by simp [Lane.resolved, Lane.backup])
  · rw [samplesUpTo_at s hn, samplesOf, if_pos finishing]
  · rw [settled]
    rfl
  · exact records

/-- The notices of the resolutions, by the lanes as they are in the end. -/
theorem notices_stopped {s t : State} (done : Stopped s t) :
    (List.range 10).flatMap (noticesOf s) = ((List.range 10).filter s.finishes).flatMap (fun n =>
      resolutionNotices n (s.lane n) (stopDecision s n) (t.lane n)
        ++ placesNotice (resolvedUpTo s n).places (resolvedUpTo s (n + 1)).places ++ recordNotice n s t) := by
  rw [← flatMap_if s.finishes]
  refine List.flatMap_congr fun n hn => ?_
  unfold noticesOf
  cases finishing : s.finishes n with
  | false => simp
  | true => rw [if_pos rfl, if_pos rfl, recordNotice, recordNotice, done.finisher n (List.mem_range.mp hn) finishing]

theorem lanesUpTo_stopped {s t : State} (done : Stopped s t) (n : Nat) : lanesUpTo s n
    = (List.range 10).map (fun m => if m ∈ (List.range 10).filter s.finishes ∧ m < n then t.lane m else s.lane m) := by
  refine List.map_congr_left fun m hm => ?_
  by_cases settled : m ∈ (List.range 10).filter s.finishes ∧ m < n
  · rw [if_pos settled, if_pos settled, done.finisher m (List.mem_range.mp hm) (List.mem_filter.mp settled.1).2]
  · rw [if_neg settled, if_neg settled]

/-- Settles O41. -/
theorem stopAndClose : Obligations.StopAndClose := by
  refine ⟨fun s f rest request hk hp running count field => ?_, fun s f rest request hk hp unofficial => ⟨fun open_ => ?_, fun clear => ?_⟩⟩
  · intro finishing swimming
    have h : Stoppable (popRequest s) := by
      refine ⟨count, fun n hn fin => ?_⟩
      exact field _ (mem_lanes_lane (count ▸ hn : n < s.lanes.length)) (of_decide_eq_true fin)
    have taken := exec_stop request hk hp running
    have done := stopped h running
    generalize stoppedState (popRequest s) = t at taken done
    have fin {n : Nat} : n ∈ finishing ↔ n < 10 ∧ (popRequest s).finishes n = true := by
      simp only [finishing, List.mem_filter, List.mem_range]
      rfl
    have swim {n : Nat} : n ∈ swimming ↔ n < 10 ∧ (popRequest s).swims n = true := by
      simp only [swimming, List.mem_filter, List.mem_range]
      rfl
    refine ⟨t.answered f .ok (laneSet (fun n => decide (n ∈ finishing)) ++ laneSet (fun n => decide (n ∈ swimming))), samplesUpTo (popRequest s) 10, stopDecision (popRequest s), ?_⟩
    intro resolved placesUpTo places
    have placed (n : Nat) (hn : n ≤ 10) : placesUpTo n = (resolvedUpTo (popRequest s) n).places := by
      rw [places_resolvedUpTo h hn, lanesUpTo_stopped done]
      rfl
    have notice (n : Nat) (hn : n < 10) : places n
        = placesNotice (resolvedUpTo (popRequest s) n).places (resolvedUpTo (popRequest s) (n + 1)).places := by
      rw [← placed n (by omega), ← placed (n + 1) (by omega)]
    refine ⟨taken, ?_, ?_, fun x hx => ?_, fun n hn => ?_, fun n hn => ⟨?_, ?_⟩, fun n out still => ?_, fun n out => ?_, fun some_ => ?_,
      fun none_ => ⟨?_, fun n => ?_⟩, ?_, ?_, ?_, changesOnly_of_outer done.outer⟩
    · have ranking : t.race.ranking = (resolvedUpTo (popRequest s) 10).race.ranking := by rw [done.race]
      refine done.race.trans ?_
      rw [← ranking]
      rfl
    · exact (List.pairwise_lt_range.filter _).sublist (samplesUpTo_lanes (popRequest s) 10)
    · exact (samplesUpTo_lanes (popRequest s) 10).subset (List.mem_map.mpr ⟨x, hx, rfl⟩)
    · obtain ⟨below, finishes⟩ := fin.mp hn
      have facts := stopDecides h done below finishes
      refine ⟨facts.consensus, facts.lag, facts.candidate, facts.decided, facts.sample, facts.lane, facts.records, fun right => ?_⟩
      rw [notice n below]
      exact placesNotice_resolved h right below finishes
    · exact done.swimmer n (swim.mp hn).1 (swim.mp hn).2
    · exact (done.hold n).trans (if_pos (swim.mp hn))
    · exact done.other n (mt fin.mpr out) (mt swim.mpr still)
    · exact (done.hold n).trans (if_neg (mt swim.mpr out))
    · obtain ⟨n, hn⟩ := List.exists_mem_of_ne_nil _ some_
      obtain ⟨places, ranking⟩ := resolvedUpTo_ranked h (k := 10) le_rfl ⟨n, fin.mp hn⟩
      have right : PlacesRight t ∧ RankingRight t := by
        refine ⟨places.of_standings done.standings fun l hl => ?_, ranking.of_standings done.standings (by rw [done.race])⟩
        obtain ⟨m, hm, rfl⟩ := exists_lane_of_mem hl
        have same : (resolvedUpTo (popRequest s) 10).lanes.length = 10 := (lanesResolved h (k := 10) le_rfl).count
        refine ⟨(resolvedUpTo (popRequest s) 10).lane m, mem_lanes_lane (by rw [same, ← done.count]; exact hm), done.place m,
          lane_standing done.standings m⟩
      exact ⟨right.1, ⟨right.2.members, right.2.ordered⟩⟩
    · have same : resolvedUpTo (popRequest s) 10 = popRequest s := resolvedUpTo_none fun n hn => Bool.eq_false_iff.mpr fun k => by
        have member := fin.mpr ⟨hn, k⟩
        rw [none_] at member
        cases member
      refine (congrArg Race.ranking done.race).trans ?_
      rw [same]
      rfl
    · have same : resolvedUpTo (popRequest s) 10 = popRequest s := resolvedUpTo_none fun n hn => Bool.eq_false_iff.mpr fun k => by
        have member := fin.mpr ⟨hn, k⟩
        rw [none_] at member
        cases member
      refine (done.place n).trans ?_
      rw [same]
      rfl
    · refine done.lamps.trans ?_
      have lit : (List.range 10).any (lights (popRequest s)) = true
          ↔ ∃ n ∈ finishing, (t.lane n).records ≠ (s.lane n).records ∧ (t.lane n).records ≠ [] := by
        rw [List.any_eq_true]
        constructor
        · rintro ⟨n, hn, on⟩
          simp only [lights, Bool.and_eq_true, decide_eq_true_eq] at on
          obtain ⟨finishes, changed⟩ := on
          have below := List.mem_range.mp hn
          refine ⟨n, fin.mpr ⟨below, finishes⟩, ?_⟩
          rw [done.finisher n below finishes]
          exact changed
        · rintro ⟨n, hn, changed⟩
          obtain ⟨below, finishes⟩ := fin.mp hn
          refine ⟨n, List.mem_range.mpr below, ?_⟩
          rw [done.finisher n below finishes] at changed
          simp only [lights, Bool.and_eq_true, decide_eq_true_eq]
          exact ⟨finishes, changed⟩
      simp only [lit]
      rfl
    · exact done.rows.of_boards rfl rfl
    · have link : t.link = ((s.link.taken rest).withNotices (finishing.flatMap (fun n =>
          resolutionNotices n (s.lane n) (stopDecision (popRequest s) n) (t.lane n) ++ places n ++ recordNotice n s t))).withRaceState
            .unofficial .running s.race.event := by
        have base : (popRequest s).link = s.link.taken rest := by rw [popRequest_head request]
        rw [done.link, notices_stopped done, base]
        refine congrArg (fun ns => (Link.withNotices (s.link.taken rest) ns).withRaceState .unofficial .running s.race.event) ?_
        refine List.flatMap_congr fun n hn => ?_
        rw [notice n (fin.mp hn).1]
        rfl
      exact congrArg (fun k => (Link.seen t.vector k).replied f .ok _) link
  · have taken := exec_close request hk hp unofficial
    have low : f.kind.toNat < 0x80 := by simp [hk]
    have some_ : s.lanes.any (fun l => decide (l.state = .review)) = true := by simpa using open_
    rw [if_pos some_, putReply_popRequest request low] at taken
    exact taken
  · have taken := exec_close request hk hp unofficial
    have low : f.kind.toNat < 0x80 := by simp [hk]
    have none_ : ¬ s.lanes.any (fun l => decide (l.state = .review)) = true := by simpa using clear
    have empty : laneSet (fun n => decide ((s.lane n).state = .review)) = [0, 0] := by
      refine (laneSet_congr (g := fun _ => false) fun n _ => decide_eq_false fun review => ?_).trans (by decide)
      by_cases hn : n < s.lanes.length
      · exact clear _ (mem_lanes_lane hn) review
      · rw [lane_beyond (by omega)] at review
        cases review
    rw [if_neg none_, empty, putReply_watchCheck low, setRaceState_eq (by exact fun k => by rw [show s.race.state = .official from k] at unofficial; cases unofficial),
      popRequest_head request] at taken
    refine ⟨_, taken, rfl, ?_, Board.marked_holds _ _, ?_, ?_⟩
    · exact (rowsMarked_marked (s := s) (r := 0) (t := { s with board := s.board.marked 0 }) rfl).of_boards rfl rfl
    · exact congrArg (fun r => (Link.seen _ ((s.link.taken rest).withRaceState .official r s.race.event)).replied f .ok [0, 0])
        unofficial
    · refine changesOnly_besides rfl fun b hb out => ?_
      obtain rfl | rfl : b = .lanes ∨ b = .lamps := by
        simp only [racePartsOf, List.mem_cons, List.not_mem_nil, or_false] at hb out
        tauto
      · exact rfl
      · exact rfl

end Sys2Proof.Machine
end

section
/-!
What a command can do to one lane, said once: the changes of a lane's view, its record with the race state and its lag samples.
The invariants of the lanes are each kept by every such change.
-/
namespace Sys2Proof.Machine

/-! ## The view of a lane -/

/-- The lag samples of lane `n`, oldest first (R84). -/
def State.samplesFor (s : State) (n : Nat) : List Nat := (s.race.lags.filter (fun x => decide (x.lane = n))).map (·.delta)

/-- A lane with what its invariants look at beside it: the race state and the lane's lag samples. -/
structure LaneView where
  race    : RaceState
  lane    : Lane
  samples : List Nat

/-- The view of lane `n`. -/
def State.view (s : State) (n : Nat) : LaneView := ⟨s.race.state, s.lane n, s.samplesFor n⟩

/-- The lane record with nothing but what its invariants look at. -/
def Lane.core (l : Lane) : Lane :=
  { Lane.blank with
    state := l.state, stateAtArm := l.stateAtArm, done := l.done, splits := l.splits, misses := l.misses, pad := l.pad
    press1 := l.press1, press2 := l.press2, press3 := l.press3, candidate := l.candidate }

/-- The kinds of an entry that an append makes without a time (R57, R66, R72). -/
def SplitKind.untimedKind (k : SplitKind) : Prop := k = .untimed ∨ k = .missed ∨ k = .inserted

/-- What a command can do to a lane and its race, each with the checks that the command makes; in an event `e`. -/
inductive LaneChange (e : EventDesc) : LaneView → LaneView → Prop where
  /-- The rest of the record changes. -/
  | besides {r : RaceState} {l m : Lane} {d : List Nat} (same : m.core = l.core) : LaneChange e ⟨r, l, d⟩ ⟨r, m, d⟩
  /-- A TIMED entry passes the one-length test (R60, R63). -/
  | timed {r : RaceState} {l : Lane} {d : List Nat} {t : Nat} {mark : Bool} (swims : l.state = .swimming)
      (limit : passes e l 1 t = true) : LaneChange e ⟨r, l, d⟩ ⟨r, l.appended e .timed (some t) mark, d⟩
  /-- An entry without a time (R65, R66, R72). -/
  | untimed {r : RaceState} {l : Lane} {d : List Nat} {k : SplitKind} {mark : Bool} (swims : l.state = .swimming)
      (kind : k.untimedKind) : LaneChange e ⟨r, l, d⟩ ⟨r, l.appended e k none mark, d⟩
  /-- Evidence opens the finish, or joins it (R76, R79, R80). -/
  | evidence {r : RaceState} {l : Lane} {d : List Nat} {ev : Evidence} {button : Option Nat}
      (takes : l.state = .finishing ∨ (l.state = .swimming ∧ l.done + 1 = e.total))
      (limit : button = none → passes e l 1 ev.time = true) :
      LaneChange e ⟨r, l, d⟩ ⟨r, (l.toState .finishing).withEvidence ev button, d⟩
  /-- A resolution (R83 to R89). -/
  | resolved {r : RaceState} {l : Lane} {d : List Nat} {lag : Nat} {x : Decision} (finishing : l.state = .finishing)
      (decides : decideFinish e l l.agreed (l.backup e lag) = some x) :
      LaneChange e ⟨r, l, d⟩ ⟨r, l.resolved e lag x, d ++ x.sample.toList⟩
  /-- The removal of the tail entry (R73). -/
  | removed {r : RaceState} {l : Lane} {d : List Nat} (swims : l.state = .swimming) :
      LaneChange e ⟨r, l, d⟩ ⟨r, l.removeTail, d⟩
  /-- An adjudication (R116, R117). -/
  | ruled {r : RaceState} {l : Lane} {d : List Nat} {ev : Evidence} {src : ResultSource}
      (stands : l.state = .finished ∨ l.state = .review)
      (source : l.pad = some ev ∨ l.candidate = some ev.time ∨ lengthLimit e l 1 ≤ ev.time) :
      LaneChange e ⟨r, l, d⟩ ⟨r, l.ruled ev src, d⟩
  /-- DNS, DNF and the lanes that STOP finds SWIMMING (R112, R113, R119). -/
  | left {r : RaceState} {l : Lane} {d : List Nat} {new : LaneState}
      (takes : l.state = .ready ∨ l.state = .set ∨ l.state = .swimming)
      (allowed : (new = .dns ∧ (r = .loaded ∨ r = .armed ∨ r = .running)) ∨ (new = .dnf ∧ r = .running)) :
      LaneChange e ⟨r, l, d⟩ ⟨r, l.toState new, d⟩
  /-- SET_LANE (R31). -/
  | used {l : Lane} {d : List Nat} {new : LaneState} (takes : l.state = .vacant ∨ l.state = .ready)
      (allowed : new = .vacant ∨ new = .ready) : LaneChange e ⟨.loaded, l, d⟩ ⟨.loaded, l.toState new, d⟩
  /-- ARM (R38 to R40). -/
  | armed {l : Lane} {d : List Nat} (far : FarTiming) (loaded dive : Bool) :
      LaneChange e ⟨.loaded, l, d⟩ ⟨.armed, l.atArm far loaded dive, d⟩
  /-- An accepted START (R44). -/
  | started {l : Lane} {d : List Nat} (start now : Tick) : LaneChange e ⟨.armed, l, d⟩ ⟨.running, l.started e start now, d⟩
  /-- RECALL from ARMED (R50). -/
  | recalledArmed {l : Lane} {d : List Nat} : LaneChange e ⟨.armed, l, d⟩ ⟨.loaded, l.recalledArmed, d⟩
  /-- RECALL from RUNNING (R52). -/
  | recalledRunning {l : Lane} {d : List Nat} : LaneChange e ⟨.running, l, d⟩ ⟨.loaded, l.recallRunning, []⟩
  /-- The end of the race (R118, R119). -/
  | ended {l : Lane} {d : List Nat} (rests : l.underWay = false) : LaneChange e ⟨.running, l, d⟩ ⟨.unofficial, l, d⟩
  /-- CLOSE (R121). -/
  | closed {l : Lane} {d : List Nat} (settled : l.state ≠ .review) : LaneChange e ⟨.unofficial, l, d⟩ ⟨.official, l, d⟩

/-- What one command, or a part of it, can do to a lane. -/
abbrev LaneMoves (e : EventDesc) : LaneView → LaneView → Prop := Relation.ReflTransGen (LaneChange e)

theorem LaneMoves.besides {e : EventDesc} {r : RaceState} {l m : Lane} {d : List Nat} (h : m.core = l.core) :
    LaneMoves e ⟨r, l, d⟩ ⟨r, m, d⟩ := .single (.besides h)

/-- A change of a lane with changes of the rest of its record behind it. -/
theorem LaneChange.and_besides {e : EventDesc} {v : LaneView} {r : RaceState} {l m : Lane} {d : List Nat}
    (h : LaneChange e v ⟨r, l, d⟩) (same : m.core = l.core) : LaneMoves e v ⟨r, m, d⟩ :=
  (Relation.ReflTransGen.single h).tail (.besides same)

/-- A property of the view that every change keeps. -/
theorem LaneMoves.keeps {e : EventDesc} {P : LaneView → Prop} (h : ∀ v w, LaneChange e v w → P v → P w) {v w : LaneView}
    (moves : LaneMoves e v w) (hv : P v) : P w := by
  induction moves with
  | refl => exact hv
  | tail _ change ih => exact h _ _ change ih

/-! ## What the lane functions leave of the core -/

section
variable {l m : Lane}

theorem of_core {α : Type} (part : Lane → α) (hp : ∀ l : Lane, part l.core = part l) (h : m.core = l.core) : part m = part l := by
  rw [← hp, h, hp]

theorem core_state (h : m.core = l.core) : m.state = l.state := of_core Lane.state (fun _ => rfl) h
theorem core_stateAtArm (h : m.core = l.core) : m.stateAtArm = l.stateAtArm := of_core Lane.stateAtArm (fun _ => rfl) h
theorem core_done (h : m.core = l.core) : m.done = l.done := of_core Lane.done (fun _ => rfl) h
theorem core_splits (h : m.core = l.core) : m.splits = l.splits := of_core Lane.splits (fun _ => rfl) h
theorem core_misses (h : m.core = l.core) : m.misses = l.misses := of_core Lane.misses (fun _ => rfl) h
theorem core_pad (h : m.core = l.core) : m.pad = l.pad := of_core Lane.pad (fun _ => rfl) h
theorem core_presses (h : m.core = l.core) : m.presses = l.presses := of_core Lane.presses (fun _ => rfl) h
theorem core_candidate (h : m.core = l.core) : m.candidate = l.candidate := of_core Lane.candidate (fun _ => rfl) h

end

theorem setExchange_core (j : Nat) (x : Exchange) (l : Lane) : (l.setExchange j x).core = l.core := by
  match j with
  | 0 | 1 | 2 | _ + 3 => rfl

/-- The lane with its counts behind an append, its exchanges apart. -/
theorem appended_core (ev : EventDesc) (k : SplitKind) (time : Option Nat) (mark : Bool) (l : Lane) :
    (l.appended ev k time mark).core
      = (if k = .missed then (l.append (nextEntry l k time mark)).counted else l.append (nextEntry l k time mark)).core :=
  withOutcome_keeps Lane.core setExchange_core _ _

theorem appended_splits (ev : EventDesc) (k : SplitKind) (time : Option Nat) (mark : Bool) (l : Lane) :
    (l.appended ev k time mark).splits = l.splits ++ [nextEntry l k time mark] :=
  (core_splits (appended_core ev k time mark l)).trans (by split <;> rfl)

theorem appended_stateAtArm (ev : EventDesc) (k : SplitKind) (time : Option Nat) (mark : Bool) (l : Lane) :
    (l.appended ev k time mark).stateAtArm = l.stateAtArm :=
  (core_stateAtArm (appended_core ev k time mark l)).trans (by split <;> rfl)

theorem appended_pad (ev : EventDesc) (k : SplitKind) (time : Option Nat) (mark : Bool) (l : Lane) :
    (l.appended ev k time mark).pad = l.pad :=
  (core_pad (appended_core ev k time mark l)).trans (by split <;> rfl)

theorem appended_candidate (ev : EventDesc) (k : SplitKind) (time : Option Nat) (mark : Bool) (l : Lane) :
    (l.appended ev k time mark).candidate = l.candidate :=
  (core_candidate (appended_core ev k time mark l)).trans (by split <;> rfl)

theorem appended_misses (ev : EventDesc) (k : SplitKind) (time : Option Nat) (mark : Bool) (l : Lane) :
    (l.appended ev k time mark).misses = if k = .missed then l.misses + 1 else l.misses :=
  (core_misses (appended_core ev k time mark l)).trans (by split <;> rfl)

end Sys2Proof.Machine
end

section
/-!
What the Race Engine's operations make of all lanes together: the view of each lane moves as `LaneChange` allows, the ranking follows
(R108, R109), and the FINAL_LENGTH inputs follow the lanes (R70), those apart that the operation leaves to be set behind it.
-/
namespace Sys2Proof.Machine

/-! ## The moves of a state -/

/-- The FINAL_LENGTH inputs (R163). -/
def State.inputs (s : State) : List Bool := s.lamps.finalLength.map (·.input)

/-- Lane `n`'s FINAL_LENGTH input is as R70 has it. -/
def InputRight (n : Nat) (s : State) : Prop := s.inputs[n]? = some (onFinalLength s.event (s.lane n))

/-- The places and the ranking table are as the results give them (R108). -/
def Ranks (s : State) : Prop := PlacesRight s ∧ RankingRight s

/-- The part of the race record that the invariants of the lanes look at. -/
def Race.core (r : Race) : Race := { Race.cleared with state := r.state, event := r.event, lags := r.lags, ranking := r.ranking }

/-- What the Race Engine makes of the lanes, with `open_` the lanes whose FINAL_LENGTH input may yet have to follow. -/
structure RaceMove (open_ : Nat → Prop) (s t : State) : Prop where
  event : t.event = s.event
  count : t.lanes.length = s.lanes.length
  lamps : t.inputs.length = s.inputs.length
  views : ∀ n, LaneMoves s.event (s.view n) (t.view n)
  ranks : Ranks s → Ranks t
  inputs : ∀ n, ¬ open_ n → InputRight n s → InputRight n t

/-- No lane. -/
abbrev noLane : Nat → Prop := fun _ => False

/-- Lane `n` alone. -/
abbrev onlyLane (n : Nat) : Nat → Prop := fun m => m = n

section
variable {open_ : Nat → Prop} {s t u : State}

theorem RaceMove.trans (h : RaceMove open_ s u) (k : RaceMove open_ u t) : RaceMove open_ s t where
  event := k.event.trans h.event
  count := k.count.trans h.count
  lamps := k.lamps.trans h.lamps
  views n := (h.views n).trans (h.event ▸ k.views n)
  ranks := fun right => k.ranks (h.ranks right)
  inputs n closed right := k.inputs n closed (h.inputs n closed right)

theorem RaceMove.mono {open' : Nat → Prop} (h : RaceMove open_ s t) (sub : ∀ n, open_ n → open' n) : RaceMove open' s t :=
  { h with inputs := fun n closed => h.inputs n fun o => closed (sub n o) }

theorem RaceMove.widen (h : RaceMove noLane s t) : RaceMove open_ s t := h.mono fun _ => False.elim

theorem race_of_core (h : t.race.core = s.race.core) : t.race.state = s.race.state ∧ t.event = s.event
    ∧ t.race.lags = s.race.lags ∧ t.race.ranking = s.race.ranking := by
  have state : t.race.core.state = s.race.core.state := by rw [h]
  have event : t.race.core.event = s.race.core.event := by rw [h]
  have lags : t.race.core.lags = s.race.core.lags := by rw [h]
  have ranking : t.race.core.ranking = s.race.core.ranking := by rw [h]
  exact ⟨state, congrArg (·.getD EventDesc.absent) event, lags, ranking⟩

theorem samplesFor_of_lags (h : t.race.lags = s.race.lags) (n : Nat) : t.samplesFor n = s.samplesFor n := by
  rw [State.samplesFor, h, State.samplesFor]

/-- The view of a lane whose race keeps its state and its samples. -/
theorem view_of (state : t.race.state = s.race.state) (lags : t.race.lags = s.race.lags) (n : Nat) :
    t.view n = ⟨s.race.state, t.lane n, s.samplesFor n⟩ := by
  rw [State.view, state, samplesFor_of_lags lags]

theorem standings_of_lanes (count : t.lanes.length = s.lanes.length)
    (standing : ∀ n, (t.lane n).standing = (s.lane n).standing) : t.standings = s.standings := by
  refine List.ext_getElem? fun n => ?_
  rw [State.standings, State.standings, List.getElem?_map, List.getElem?_map]
  by_cases hn : n < s.lanes.length
  · have ht : n < t.lanes.length := by omega
    have same := standing n
    simp only [State.lane, List.getD_eq_getElem?_getD, List.getElem?_eq_getElem hn, List.getElem?_eq_getElem ht,
      Option.getD_some] at same
    rw [List.getElem?_eq_getElem hn, List.getElem?_eq_getElem ht, Option.map_some, Option.map_some, same]
  · have ht : ¬ n < t.lanes.length := by omega
    rw [List.getElem?_eq_none (by omega), List.getElem?_eq_none (by omega)]

/-- The ranking rests on the standings; a lane without a place need not keep what it had. -/
theorem ranks_of_standings (count : t.lanes.length = s.lanes.length)
    (standing : ∀ n, (t.lane n).standing = (s.lane n).standing)
    (place : ∀ n, (t.lane n).place = (s.lane n).place ∨ ((t.lane n).place = none ∧ (t.lane n).standing = none))
    (ranking : t.race.ranking = s.race.ranking) (h : Ranks s) : Ranks t := by
  have standings := standings_of_lanes count standing
  obtain ⟨places, table⟩ := h
  refine ⟨(placesRight_iff t).mpr fun l hl => ?_, table.of_standings standings ranking⟩
  obtain ⟨n, hn, rfl⟩ := exists_lane_of_mem hl
  rcases place n with same | ⟨none_, unplaced⟩
  · rw [same, (placesRight_iff s).mp places _ (mem_lanes_lane (by omega)), standings, standing]
  · rw [none_, unplaced]
    rfl

/-- No lane's record and nothing that the invariants of the lanes look at changes. -/
theorem raceMove_of_same (lanes : t.lanes = s.lanes) (race : t.race.core = s.race.core) (inputs : t.inputs = s.inputs) :
    RaceMove open_ s t := by
  obtain ⟨state, event, lags, ranking⟩ := race_of_core race
  have lane := lane_of_lanes lanes
  refine ⟨event, by rw [lanes], by rw [inputs], fun n => ?_,
    ranks_of_standings (by rw [lanes]) (fun n => by rw [lane]) (fun n => .inl (by rw [lane])) ranking, fun n _ right => ?_⟩
  · rw [view_of state lags, lane]
    exact .refl
  · rw [InputRight, inputs, event, lane]
    exact right

theorem RaceMove.refl (s : State) : RaceMove open_ s s := raceMove_of_same rfl rfl rfl

/-- What stands behind an operation, the watch check and the reply, looks at other parts. -/
theorem RaceMove.of_parts (h : RaceMove open_ s u) (lanes : t.lanes = u.lanes) (race : t.race = u.race) (lamps : t.lamps = u.lamps) :
    RaceMove open_ s t := h.trans (raceMove_of_same lanes (by rw [race]) (by rw [State.inputs, lamps, State.inputs]))

theorem RaceMove.watchCheck (h : RaceMove open_ s u) : RaceMove open_ s (watchCheck u) :=
  h.of_parts (watchCheck_lanes u) (watchCheck_race u) (watchCheck_lamps u)

theorem RaceMove.putReply (h : RaceMove open_ s u) (f : Frame) (c : ReplyCode) (x : List Byte) :
    RaceMove open_ s (putReply f c x u) := h.of_parts rfl rfl rfl

theorem unplaced_standing {l : Lane} (h : ¬ (l.state = .finished ∨ l.state = .review)) : l.standing = none :=
  standing_eq_none.mpr fun placed => h placed.1

theorem onFinalLength_false {e : EventDesc} {l : Lane} (h : l.state ≠ .swimming) : onFinalLength e l = false :=
  decide_eq_false fun on => h on.2.1

theorem onFinalLength_congr {e : EventDesc} {l m : Lane} (state : m.state = l.state) (done : m.done = l.done) :
    onFinalLength e m = onFinalLength e l := by
  simp only [onFinalLength, state, done]

/-- A change of lane `n`'s record alone, which leaves its place and its standing. -/
theorem raceMove_of_lane {n : Nat} {f : Lane → Lane} (hn : n < s.lanes.length) (lanes : t.lanes = s.lanes.modify n f)
    (race : t.race.core = s.race.core) (inputs : t.inputs = s.inputs)
    (moves : ∀ d, LaneMoves s.event ⟨s.race.state, s.lane n, d⟩ ⟨s.race.state, f (s.lane n), d⟩)
    (standing : (f (s.lane n)).standing = (s.lane n).standing) (place : (f (s.lane n)).place = (s.lane n).place)
    (input : ¬ open_ n → onFinalLength s.event (f (s.lane n)) = onFinalLength s.event (s.lane n)) : RaceMove open_ s t := by
  obtain ⟨state, event, lags, ranking⟩ := race_of_core race
  have count : t.lanes.length = s.lanes.length := by rw [lanes, List.length_modify]
  have mine := lane_of_modify lanes hn
  have others := othersKept_of_modify lanes
  have part {α : Type} (g : Lane → α) (same : g (f (s.lane n)) = g (s.lane n)) (m : Nat) : g (t.lane m) = g (s.lane m) := by
    by_cases at_n : m = n
    · rw [at_n, mine, same]
    · rw [others m at_n]
  refine ⟨event, count, by rw [inputs], fun m => ?_,
    ranks_of_standings count (part Lane.standing standing) (fun m => .inl (part Lane.place place m)) ranking, fun m closed right => ?_⟩
  · rw [view_of state lags]
    by_cases at_n : m = n
    · rw [at_n, mine]
      exact moves _
    · rw [others m at_n]
      exact .refl
  · rw [InputRight, inputs, event]
    by_cases at_n : m = n
    · subst at_n
      rw [mine, input closed]
      exact right
    · rw [others m at_n]
      exact right

/-- A lane record that differs in nothing that the invariants and the ranking look at. -/
structure Lane.Aside (l m : Lane) : Prop where
  core : m.core = l.core
  place : m.place = l.place
  dq : m.dq = l.dq

theorem Lane.Aside.standing {l m : Lane} (h : l.Aside m) : m.standing = l.standing :=
  standing_congr (core_state h.core) (by rw [Lane.result, core_splits h.core, Lane.result]) h.dq

theorem raceMove_aside {n : Nat} {f : Lane → Lane} (hn : n < s.lanes.length) (lanes : t.lanes = s.lanes.modify n f)
    (race : t.race.core = s.race.core) (inputs : t.inputs = s.inputs) (aside : (s.lane n).Aside (f (s.lane n))) :
    RaceMove open_ s t :=
  raceMove_of_lane hn lanes race inputs (fun _ => .besides aside.core) aside.standing aside.place
    fun _ => onFinalLength_congr (core_state aside.core) (core_done aside.core)

theorem raceMove_updLane_aside {n : Nat} {f : Lane → Lane} (hn : n < s.lanes.length) (aside : (s.lane n).Aside (f (s.lane n))) :
    RaceMove open_ s (s.updLane n f) := raceMove_aside hn rfl rfl rfl aside

theorem RaceMove.lane_lt {n : Nat} (h : RaceMove open_ s t) (hn : n < s.lanes.length) : n < t.lanes.length := h.count ▸ hn

end

/-! ## The FINAL_LENGTH input (R70) -/

theorem setInput_input (t : Tick) (width : Nat) (on : Bool) (x : LampTimer) : (x.setInput t width on).input = on := by
  unfold LampTimer.setInput
  split
  · next same => exact same
  · split
    · next high => rw [high]
    · next low => exact (Bool.eq_false_iff.mpr low).symm

theorem syncFinalLength_inputs (n : Nat) (s : State) :
    (syncFinalLength n s).inputs = s.inputs.modify n (fun _ => onFinalLength s.event (s.lane n)) := by
  rw [syncFinalLength_eq, State.inputs, State.inputs]
  refine List.ext_getElem? fun i => ?_
  rw [List.getElem?_map, List.getElem?_modify, List.getElem?_modify, List.getElem?_map]
  by_cases hi : n = i
  · cases s.lamps.finalLength[i]? with
    | none => rfl
    | some x => simp [hi, setInput_input]
  · cases s.lamps.finalLength[i]? with
    | none => rfl
    | some x => simp [hi]

/-- The input of lane `n` follows once the operation is over. -/
theorem RaceMove.synced {n : Nat} {s u : State} (h : RaceMove (onlyLane n) s u) : RaceMove noLane s (syncFinalLength n u) := by
  have inputs := syncFinalLength_inputs n u
  have same : RaceMove noLane u (syncFinalLength n u) := by
    refine ⟨rfl, rfl, by rw [inputs, List.length_modify], fun _ => .refl,
      ranks_of_standings rfl (fun _ => rfl) (fun _ => .inl rfl) rfl, fun m _ right => ?_⟩
    rw [InputRight, inputs, List.getElem?_modify]
    have lane : (syncFinalLength n u).lane m = u.lane m := lane_of_lanes rfl m
    have event : (syncFinalLength n u).event = u.event := rfl
    rw [lane, event, right]
    by_cases at_n : n = m
    · simp [at_n]
    · simp [at_n]
  refine { (h.trans same.widen) with inputs := fun m _ right => ?_ }
  by_cases at_n : m = n
  · subst at_n
    have there : m < u.inputs.length := by
      rw [h.lamps]
      exact (List.getElem?_eq_some_iff.mp right).1
    rw [InputRight, inputs, List.getElem?_modify, List.getElem?_eq_getElem there]
    simp only [if_true]
    rfl
  · exact same.inputs m id (h.inputs m at_n right)

end Sys2Proof.Machine
end

section
/-!
The operations of the Race Engine on one lane as moves of the state: appends, evidence, the resolution, the end of the race, and the
events and corrections that are made of them.
-/
namespace Sys2Proof.Machine

/-! ## Recomputed rankings (R109, R110) -/

section
variable {open_ : Nat → Prop} {s t u : State} {n : Nat}

theorem inputs_of_finalLength (h : t.lamps.finalLength = s.lamps.finalLength) : t.inputs = s.inputs := by
  rw [State.inputs, h, State.inputs]

theorem inputs_of_lamps (h : t.lamps = s.lamps) : t.inputs = s.inputs := inputs_of_finalLength (by rw [h])

theorem length_reranked (n : Nat) (u : State) : (recordCheck n (recomputeRanking u)).lanes.length = u.lanes.length := by
  rw [recordCheck_recomputeRanking]
  simp [State.withPlaces]

/-- A change of lane `n`'s record with its samples, behind which the ranking is recomputed. -/
theorem raceMove_reranked {f : Lane → Lane} {xs : List Nat} (hn : n < s.lanes.length) (lanes : u.lanes = s.lanes.modify n f)
    (state : u.race.state = s.race.state) (event : u.event = s.event)
    (lags : u.race.lags = s.race.lags ++ xs.map (fun x => { lane := n, delta := x })) (inputs : u.inputs = s.inputs)
    (moves : ∀ d, LaneMoves s.event ⟨s.race.state, s.lane n, d⟩ ⟨s.race.state, f (s.lane n), d ++ xs⟩)
    (input : onFinalLength s.event (f (s.lane n)) = onFinalLength s.event (s.lane n)) :
    RaceMove open_ s (recordCheck n (recomputeRanking u)) := by
  have at_u : n < u.lanes.length := by rw [lanes, List.length_modify]; exact hn
  have ranked := reranked at_u
  have count := length_reranked n u
  generalize recordCheck n (recomputeRanking u) = t at ranked count
  obtain ⟨lane, others, ⟨places, table, -, -⟩, race, -, -, -, lamps, -⟩ := ranked
  have mine : u.lane n = f (s.lane n) := lane_of_modify lanes hn
  have still := othersKept_of_modify lanes
  have stateT : t.race.state = s.race.state := by rw [race, ← state]
  have eventT : t.event = s.event := by rw [← event, State.event, race, State.event]
  have lagsT : t.race.lags = s.race.lags ++ xs.map (fun x => { lane := n, delta := x }) := by rw [race, ← lags]
  have inputsT : t.inputs = s.inputs := (inputs_of_finalLength (by rw [lamps])).trans inputs
  have samples (m : Nat) : t.samplesFor m = s.samplesFor m ++ if m = n then xs else [] := by
    rw [State.samplesFor, lagsT, List.filter_append, List.map_append, State.samplesFor]
    refine congrArg _ ?_
    by_cases at_n : m = n
    · simp [at_n, List.filter_map, Function.comp_def]
    · have other : n ≠ m := Ne.symm at_n
      simp [at_n, other, List.filter_map, Function.comp_def]
  have core (m : Nat) : (t.lane m).core = (u.lane m).core := by
    by_cases at_n : m = n
    · rw [at_n, lane]
      rfl
    · rw [others m at_n]
      rfl
  refine ⟨eventT, ?_, by rw [inputsT], fun m => ?_, fun _ => ⟨places, table⟩, fun m _ right => ?_⟩
  · rw [count, lanes, List.length_modify]
  · have to_ : t.view m = ⟨s.race.state, t.lane m, s.samplesFor m ++ if m = n then xs else []⟩ := by
      rw [State.view, stateT, samples]
    rw [to_]
    by_cases at_n : m = n
    · subst at_n
      rw [if_pos rfl]
      exact (moves _).tail (.besides ((core m).trans (by rw [mine])))
    · rw [if_neg at_n, List.append_nil]
      exact .besides ((core m).trans (by rw [still m at_n]))
  · rw [InputRight, inputsT, eventT, onFinalLength_congr (core_state (core m)) (core_done (core m))]
    by_cases at_n : m = n
    · subst at_n
      rw [mine, input]
      exact right
    · rw [still m at_n]
      exact right

/-! ## The resolution and the end of the race (R83 to R90, R118) -/

theorem appendSplit_inputs (hn : n < s.lanes.length) (k : SplitKind) (time : Option Nat) (mark : Bool) :
    (appendSplit n k time mark s).inputs = s.inputs := inputs_of_finalLength (by rw [appendSplit_lamps hn])

theorem resolveStart_inputs (hn : n < s.lanes.length) (d : Decision) : (resolveStart n d s).inputs = s.inputs := by
  have count : n < (resolveDecided n d s).lanes.length := by rw [resolveDecided_lanes, List.length_modify]; exact hn
  have lamps : (resolveStart n d s).lamps = (appendSplit n .final (some d.result) d.overMark (resolveDecided n d s)).lamps := by
    rw [resolveStart, handNotice_lamps, appendLag_lamps]
  exact (inputs_of_lamps lamps).trans ((appendSplit_inputs count _ _ _).trans (inputs_of_lamps resolveDecided_lamps))

theorem resolveLane_undecided (h : s.decision (s.lane n) = none) : resolveLane n s = s := by
  have undecided : decideFinish s.event (s.lane n) (consensusOf ((s.lane n).presses.map (·.time)))
      ((consensusOf ((s.lane n).presses.map (·.time))).map
        fun c => candidateOf s.event (s.lane n) c (lagEstimate s.event s.race.lags)) = none := h
  unfold resolveLane
  dsimp only
  rw [undecided]

theorem raceMove_resolveLane (hn : n < s.lanes.length) (finishing : (s.lane n).state = .finishing) :
    RaceMove open_ s (resolveLane n s) := by
  cases decides : s.decision (s.lane n) with
  | none =>
    rw [resolveLane_undecided decides]
    exact .refl s
  | some d =>
    rw [resolveLane_eq decides]
    have race := resolveStart_race (s := s) (n := n) (d := d)
    refine raceMove_reranked (xs := d.sample.toList) hn (resolveStart_lanes hn) (by rw [race]) (by rw [State.event, race, State.event])
      (by rw [race]) (resolveStart_inputs hn d) (fun _ => .single (.resolved finishing decides)) ?_
    have settled : ((s.lane n).resolved s.event (lagEstimate s.event s.race.lags) d).state ≠ .swimming := by
      have state : d.state ≠ .swimming := by rcases decision_state decides with h | h <;> simp [h]
      exact state
    rw [onFinalLength_false settled, onFinalLength_false (by simp [finishing])]

theorem raceMove_endOfRaceCheck (s : State) : RaceMove open_ s (endOfRaceCheck s) := by
  unfold endOfRaceCheck
  split
  · next ends =>
    obtain ⟨running, rests⟩ := ends
    rw [setRaceState_eq (by simp [running])]
    have event : ({ s with
        race := { s.race with state := .unofficial, pastLimit := false }, board := s.board.marked 0
        link := s.link.withRaceState .unofficial s.race.state s.race.event } : State).event = s.event := rfl
    refine ⟨event, rfl, rfl, fun n => ?_, ranks_of_standings rfl (fun _ => rfl) (fun _ => .inl rfl) rfl, fun n _ right => right⟩
    have idle : (s.lane n).underWay = false := by
      by_cases hn : n < s.lanes.length
      · exact (List.any_eq_false.mp rests _ (mem_lanes_lane hn) |> Bool.eq_false_iff.mpr)
      · rw [lane_beyond (by omega)]
        rfl
    have from_ : s.view n = ⟨.running, s.lane n, s.samplesFor n⟩ := by rw [State.view, running]
    rw [from_]
    exact .single (.ended idle)
  · exact .refl s

theorem raceMove_earlyCloseCheck (hn : n < s.lanes.length) (finishing : (s.lane n).state = .finishing) :
    RaceMove open_ s (earlyCloseCheck n s) := by
  unfold earlyCloseCheck
  split
  · exact (raceMove_resolveLane hn finishing).trans (raceMove_endOfRaceCheck _)
  · exact .refl s

/-! ## Appends and evidence (R57, R76) -/

theorem appended_place (ev : EventDesc) (k : SplitKind) (time : Option Nat) (mark : Bool) (l : Lane) :
    (l.appended ev k time mark).place = l.place :=
  appended_keeps Lane.place setExchange_place (fun _ => rfl) ev k time mark l

/-- An append to a SWIMMING lane by a step that `LaneChange` allows. -/
theorem raceMove_appendSplit (hn : n < s.lanes.length) (swims : (s.lane n).state = .swimming) {k : SplitKind} {time : Option Nat}
    {mark : Bool} (change : ∀ r d, LaneChange s.event ⟨r, s.lane n, d⟩ ⟨r, (s.lane n).appended s.event k time mark, d⟩) :
    RaceMove (onlyLane n) s (appendSplit n k time mark s) := by
  have state := appended_state s.event k time mark (s.lane n)
  refine raceMove_of_lane hn (appendSplit_lanes hn k time mark) (by rw [appendSplit_race]) (appendSplit_inputs hn k time mark)
    (fun d => .single (change _ d)) ?_ (appended_place _ _ _ _ _) (fun closed => absurd rfl closed)
  rw [unplaced_standing (by simp [state, swims]), unplaced_standing (by simp [swims])]

theorem withEvidence_core {l m : Lane} (h : m.core = l.core) (ev : Evidence) (button : Option Nat) :
    (m.withEvidence ev button).core = (l.withEvidence ev button).core := by
  have fields (k : Lane) (b : Nat) : (k.setPress b ev).core = k.core.setPress b ev := by
    unfold Lane.setPress
    split <;> rfl
  cases button with
  | none =>
    have core (k : Lane) : (k.withEvidence ev none).core = { k.core with pad := some ev } := rfl
    rw [core, core, h]
  | some b =>
    have core (k : Lane) : (k.withEvidence ev (some b)).core = k.core.setPress b ev := fields k b
    rw [core, core, h]

theorem withEvidence_state (ev : Evidence) (button : Option Nat) (l : Lane) : (l.withEvidence ev button).state = l.state :=
  withEvidence_keeps Lane.state (fun _ _ => rfl) setPress_state ev button l

theorem withEvidence_place (ev : Evidence) (button : Option Nat) (l : Lane) : (l.withEvidence ev button).place = l.place :=
  withEvidence_keeps Lane.place (fun _ _ => rfl) setPress_place ev button l

/-- The opening of the finish of a SWIMMING lane on its last length (R76). -/
theorem raceMove_openFinish (hn : n < s.lanes.length) (swims : (s.lane n).state = .swimming)
    (last : (s.lane n).done + 1 = s.event.total) {e : Tick} {ev : Evidence} {button : Option Nat}
    (limit : button = none → passes s.event (s.lane n) 1 ev.time = true) :
    RaceMove (onlyLane n) s (openFinish n e ev button s) := by
  have lanes : (openedState n e ev button s).lanes = s.lanes.modify n (Lane.opening s.event e ev button) := by
    change (setLaneState n .finishing s).lanes.modify n _ = _
    rw [setLaneState_lanes, List.modify_modify_eq]
    rfl
  have race : (openedState n e ev button s).race = s.race := setLaneState_race _ _ _
  have state : ((s.lane n).opening s.event e ev button).state = .finishing := withEvidence_state _ _ _
  have core : ({ s.lane n with
      state := .finishing, first := some ev, window := some { start := e, width := s.event.window } } : Lane).core
        = ((s.lane n).toState .finishing).core := rfl
  have opened : RaceMove (onlyLane n) s (openedState n e ev button s) := by
    refine raceMove_of_lane hn lanes (by rw [race]) (inputs_of_lamps (setLaneState_lamps _ _ _))
      (fun d => LaneChange.and_besides (.evidence (.inr ⟨swims, last⟩) limit) (withEvidence_core core ev button)) ?_
      (withEvidence_place _ _ _) (fun closed => absurd rfl closed)
    rw [unplaced_standing (by simp [state]), unplaced_standing (by simp [swims])]
  rw [openFinish_eq]
  refine opened.trans (raceMove_earlyCloseCheck (opened.lane_lt hn) ?_)
  rw [lane_of_modify lanes hn]
  exact state

/-- Evidence of a FINISHING lane (R79, R80). -/
theorem raceMove_evidence (hn : n < s.lanes.length) (finishing : (s.lane n).state = .finishing) {ev : Evidence} {button : Option Nat}
    (limit : button = none → passes s.event (s.lane n) 1 ev.time = true) :
    RaceMove open_ s (earlyCloseCheck n (s.updLane n (Lane.withEvidence ev button))) := by
  have state : ((s.lane n).withEvidence ev button).state = .finishing := (withEvidence_state _ _ _).trans finishing
  have recorded : RaceMove open_ s (s.updLane n (Lane.withEvidence ev button)) := by
    have same : (s.lane n).core = ((s.lane n).toState .finishing).core := by
      unfold Lane.toState
      rw [← finishing]
    refine raceMove_of_lane hn rfl rfl rfl
      (fun d => LaneChange.and_besides (.evidence (.inl finishing) limit) (withEvidence_core same ev button)) ?_
      (withEvidence_place _ _ _) (fun _ => ?_)
    · rw [unplaced_standing (by simp [state]), unplaced_standing (by simp [finishing])]
    · rw [onFinalLength_false (by simp [state]), onFinalLength_false (by simp [finishing])]
  refine recorded.trans (raceMove_earlyCloseCheck (recorded.lane_lt hn) ?_)
  rw [lane_updLane_same hn]
  exact state

end

end Sys2Proof.Machine
end

section
/-!
The capture events and the corrections of one lane as moves of the state.
-/
namespace Sys2Proof.Machine

/-! ## The tests of touches and presses (R60, R62) -/

theorem beforeFinal_append {xs : List Split} {x : Split} (h : x.kind ≠ .final) : beforeFinal (xs ++ [x]) = beforeFinal xs ++ [x] := by
  simp [beforeFinal, h]

theorem refTime_append_untimed {xs : List Split} {x : Split} (h : x.kind ≠ .timed) : refTime (xs ++ [x]) = refTime xs := by
  simp [refTime, h]

theorem untimedRun_append_untimed {xs : List Split} {x : Split} (h : x.kind ≠ .timed) :
    untimedRun (xs ++ [x]) = untimedRun xs + 1 := by
  simp [untimedRun, h]

theorem SplitKind.untimedKind.not_timed {k : SplitKind} (h : k.untimedKind) : k ≠ .timed := by
  rcases h with rfl | rfl | rfl <;> simp

theorem SplitKind.untimedKind.not_final {k : SplitKind} (h : k.untimedKind) : k ≠ .final := by
  rcases h with rfl | rfl | rfl <;> simp

/-- The limits rest on the split list. -/
theorem lengthLimit_of_splits {l m : Lane} (h : m.splits = l.splits) (e : EventDesc) (k : Nat) :
    lengthLimit e m k = lengthLimit e l k := by
  rw [lengthLimit, h, lengthLimit]

/-- Behind an entry without a time, one length more has to go by (R59, R60). -/
theorem lengthLimit_appended {k : SplitKind} (h : k.untimedKind) (e : EventDesc) (l : Lane) (mark : Bool) (i : Nat) :
    lengthLimit e (l.appended e k none mark) i = lengthLimit e l (i + 1) := by
  have timed : (nextEntry l k none mark).kind ≠ .timed := h.not_timed
  rw [lengthLimit, appended_splits, beforeFinal_append h.not_final, refTime_append_untimed timed, untimedRun_append_untimed timed,
    lengthLimit]
  have run : untimedRun (beforeFinal l.splits) + 1 + i = untimedRun (beforeFinal l.splits) + (i + 1) := by omega
  rw [run]

theorem passes_appended {k : SplitKind} (h : k.untimedKind) {e : EventDesc} {l : Lane} {mark : Bool} {t : Nat}
    (pass : passes e l 2 t = true) : passes e (l.appended e k none mark) 1 t = true := by
  rw [passes, lengthLimit_appended h]
  exact pass

theorem missingKind_untimed (l : Lane) : (missingKind l (l.done + 1)).untimedKind :=
  (missingKind_cases l).elim (fun h => .inr (.inl h.1)) fun h => .inl h.1

/-- What the class of a touch says of its lane (R62). -/
theorem classifyTouch_cases (e : EventDesc) (l : Lane) (at0 : PoolEnd) (t : Nat) : classifyTouch e l at0 t = .stray
    ∨ (classifyTouch e l at0 t = .ordinary ∧ passes e l 1 t = true)
    ∨ (classifyTouch e l at0 t = .finish ∧ l.done + 1 = e.total ∧ passes e l 1 t = true)
    ∨ (classifyTouch e l at0 t = .missedTurn ∧ l.done + 2 ≤ e.total ∧ passes e l 2 t = true) := by
  unfold classifyTouch
  split
  · exact .inl rfl
  split
  · next h => exact .inr (.inl ⟨rfl, h.2.2⟩)
  split
  · next h => exact .inr (.inr (.inl ⟨rfl, h.2⟩))
  split
  · next h => exact .inr (.inr (.inr ⟨rfl, h.2⟩))
  · exact .inl rfl

section
variable {open_ : Nat → Prop} {s t u : State} {n : Nat}

/-! ## Touches and presses (R61 to R81) -/

/-- The missing length is appended, and the lane swims on with one length less to go (R65, R66). -/
theorem raceMove_missing (hn : n < s.lanes.length) (swims : (s.lane n).state = .swimming) :
    let t := appendSplit n (missingKind (s.lane n) ((s.lane n).done + 1)) none false s
    RaceMove (onlyLane n) s t ∧ (t.lane n).state = .swimming ∧ (t.lane n).done = (s.lane n).done + 1
      ∧ ∀ x, passes s.event (s.lane n) 2 x = true → passes t.event (t.lane n) 1 x = true := by
  have kind := missingKind_untimed (s.lane n)
  intro t
  have move : RaceMove (onlyLane n) s t := raceMove_appendSplit hn swims fun _ _ => .untimed swims kind
  have lane : t.lane n = _ := appendSplit_lane hn _ _ _
  refine ⟨move, ?_, ?_, fun x pass => ?_⟩
  · rw [lane, appended_state, swims]
  · rw [lane, Lane.appended_done]
  · rw [move.event, lane]
    exact passes_appended kind pass

theorem raceMove_touchSwimming (hn : n < s.lanes.length) (swims : (s.lane n).state = .swimming) (at0 : PoolEnd) (e : Tick)
    (ev : Evidence) : RaceMove (onlyLane n) s (touchSwimming n at0 e ev s) := by
  rcases classifyTouch_cases s.event (s.lane n) at0 ev.time with h | ⟨h, pass⟩ | ⟨h, last, pass⟩ | ⟨h, room, pass⟩
  · rw [touchSwimming_stray h]
    exact .refl s
  · rw [touchSwimming_ordinary h]
    exact raceMove_appendSplit hn swims fun _ _ => .timed swims pass
  · rw [touchSwimming_finish h]
    exact raceMove_openFinish hn swims last fun _ => pass
  · rw [touchSwimming_missedTurn h]
    obtain ⟨move, swimming, done, passing⟩ := raceMove_missing hn swims
    generalize appendSplit n (missingKind (s.lane n) ((s.lane n).done + 1)) none false s = t at move swimming done passing
    split
    · exact move.trans (raceMove_appendSplit (move.lane_lt hn) swimming fun _ _ => .timed swimming (passing _ pass))
    · exact move.trans (raceMove_openFinish (move.lane_lt hn) swimming (by rw [done, move.event]; omega) fun _ => passing _ pass)

theorem raceMove_pressSwimming (hn : n < s.lanes.length) (swims : (s.lane n).state = .swimming) (b : Nat) (e : Tick) (ev : Evidence) :
    RaceMove (onlyLane n) s (pressSwimming n b e ev s) := by
  unfold pressSwimming
  dsimp only
  split
  · exact .refl s
  split
  · next h => exact raceMove_openFinish hn swims h.1 (by simp)
  split
  · next h =>
    obtain ⟨move, swimming, done, -⟩ := raceMove_missing hn swims
    generalize appendSplit n (missingKind (s.lane n) ((s.lane n).done + 1)) none false s = t at move swimming done
    exact move.trans (raceMove_openFinish (move.lane_lt hn) swimming (by rw [done, move.event]; omega) (by simp))
  · exact .refl s

theorem raceMove_touchFinishing (hn : n < s.lanes.length) (finishing : (s.lane n).state = .finishing) (at0 : PoolEnd) (ev : Evidence) :
    RaceMove open_ s (touchFinishing n at0 ev s) := by
  unfold touchFinishing
  dsimp only
  split
  · exact .refl s
  · next h =>
    have pass : passes s.event (s.lane n) 1 ev.time = true := by
      by_contra fails
      exact h (.inr (.inr (.inr (Bool.eq_false_iff.mpr fails))))
    exact raceMove_evidence (button := none) hn finishing fun _ => pass

theorem raceMove_pressFinishing (hn : n < s.lanes.length) (finishing : (s.lane n).state = .finishing) (b : Nat) (ev : Evidence) :
    RaceMove open_ s (pressFinishing n b ev s) := by
  unfold pressFinishing
  split
  · exact .refl s
  · exact raceMove_evidence (button := some b) hn finishing (by simp)

/-- A touch or a press of a lane under way, whichever it is. -/
theorem raceMove_overrange {f g : State → State} (hn : n < s.lanes.length) (mark : Bool)
    (swimming : ∀ u : State, n < u.lanes.length → (u.lane n).state = .swimming → RaceMove (onlyLane n) u (f u))
    (finishing : ∀ u : State, n < u.lanes.length → (u.lane n).state = .finishing → RaceMove noLane u (g u)) :
    ((s.lane n).state = .swimming → RaceMove noLane s (syncFinalLength n (f (s.updLane n (Lane.overmarked mark)))))
      ∧ ((s.lane n).state = .finishing → RaceMove noLane s (g (s.updLane n (Lane.overmarked mark)))) := by
  have marked (o : Nat → Prop) : RaceMove o s (s.updLane n (Lane.overmarked mark)) := raceMove_updLane_aside hn ⟨rfl, rfl, rfl⟩
  have state : ((s.updLane n (Lane.overmarked mark)).lane n).state = (s.lane n).state := by
    rw [lane_updLane_same hn]
    rfl
  refine ⟨fun swims => ?_, fun finishes => ?_⟩
  · exact ((marked (onlyLane n)).trans (swimming _ ((marked (onlyLane n)).lane_lt hn) (state.trans swims))).synced
  · exact (marked noLane).trans (finishing _ ((marked noLane).lane_lt hn) (state.trans finishes))

theorem raceMove_takePadMake (hn : n < s.lanes.length) (at0 : PoolEnd) (e : Tick) : RaceMove noLane s (takePadMake n at0 e s) := by
  obtain ⟨swimming, finishing⟩ := raceMove_overrange (s := s) hn (s.raceTime e).overMark
    (fun u hu swims => raceMove_touchSwimming hu swims at0 e (s.raceTime e))
    (fun u hu finishes => raceMove_touchFinishing hu finishes at0 (s.raceTime e))
  by_cases swims : (s.lane n).state = .swimming
  · rw [takePadMake_swimming swims]
    exact swimming swims
  · by_cases finishes : (s.lane n).state = .finishing
    · rw [takePadMake_finishing finishes]
      exact finishing finishes
    · rw [takePadMake_idle swims finishes]
      exact .refl s

theorem raceMove_takeButtonPress (hn : n < s.lanes.length) (b : Nat) (e : Tick) : RaceMove noLane s (takeButtonPress n b e s) := by
  obtain ⟨swimming, finishing⟩ := raceMove_overrange (s := s) hn (s.raceTime e).overMark
    (fun u hu swims => raceMove_pressSwimming hu swims b e (s.raceTime e))
    (fun u hu finishes => raceMove_pressFinishing hu finishes b (s.raceTime e))
  by_cases swims : (s.lane n).state = .swimming
  · rw [takeButtonPress_swimming swims]
    exact swimming swims
  · by_cases finishes : (s.lane n).state = .finishing
    · rw [takeButtonPress_finishing finishes]
      exact finishing finishes
    · rw [takeButtonPress_idle swims finishes]
      exact .refl s

/-! ## Block events (R42, R43, R47 to R49, R97 to R99) -/

theorem setExchange_aside (j : Nat) (x : Exchange) (l : Lane) : l.Aside (l.setExchange j x) := by
  refine ⟨setExchange_core j x l, setExchange_place j x l, ?_⟩
  match j with
  | 0 | 1 | 2 | _ + 3 => rfl

theorem raceMove_withExchange (hn : n < s.lanes.length) (j : Nat) (x : Exchange) : RaceMove open_ s (s.withExchange n j x) :=
  raceMove_aside hn rfl rfl rfl (setExchange_aside j x _)

theorem raceMove_takeTakeoff (hn : n < s.lanes.length) (e : Tick) : RaceMove open_ s (takeTakeoff n e s) := by
  have stored : RaceMove open_ s (takenOff n e s) := raceMove_updLane_aside hn (by
    obtain ⟨core, place, dq⟩ := setExchange_aside ((s.lane n).takeoffs + 1)
      { (s.lane n).exchange ((s.lane n).takeoffs + 1) with takeoff := some (s.raceTime e).time } (s.lane n)
    exact ⟨core, place, dq⟩)
  have count := stored.lane_lt hn
  by_cases full : 3 ≤ (s.lane n).takeoffs
  · rw [takeTakeoff_ignored full]
    exact .refl s
  · have room := Nat.not_le.mp full
    cases entry : entryAt (s.lane n).splits (takeoffLength n s) with
    | none =>
      rw [takeTakeoff_pending room entry]
      exact stored.trans (raceMove_updLane_aside count (setExchange_aside _ _ _))
    | some x =>
      by_cases timed : x.kind = .timed
      · cases time : x.time with
        | none =>
          have kept : takeTakeoff n e s = takenOff n e s := by
            unfold takeTakeoff takenOff
            rw [takeoffLength] at entry
            dsimp only
            rw [if_neg full, entry]
            dsimp only
            rw [timed, time]
          rw [kept]
          exact stored
        | some at_ =>
          rw [takeTakeoff_judged room entry timed time, judgeExchange_eq count]
          exact stored.trans (raceMove_withExchange count _ _)
      · rw [takeTakeoff_stored room entry timed]
        exact stored

theorem raceMove_classifyRelease (hn : n < s.lanes.length) (e : Tick) : RaceMove open_ s (classifyRelease n e s) := by
  have held : RaceMove open_ s (s.updLane n (fun l => { l with reactionTick := some e })) := raceMove_updLane_aside hn ⟨rfl, rfl, rfl⟩
  by_cases reaction : ReactionRelease n e s
  · rcases reaction.2.2 with armed | ⟨running, -⟩
    · rw [classifyRelease_held reaction armed]
      exact held
    · rw [classifyRelease_reaction reaction running]
      have reacted : RaceMove open_ s (storeReaction n (reactionOf (s.lead e)) (s.updLane n (fun l => { l with reactionTick := some e }))) :=
        held.trans (raceMove_updLane_aside (held.lane_lt hn) ⟨rfl, rfl, rfl⟩)
      split
      · exact reacted.of_parts (handEarlyRelease_lanes _ _ _) (handEarlyRelease_race _ _ _) (handEarlyRelease_lamps _ _ _)
      · exact reacted
  · by_cases takeoff : TakeoffRelease n e s
    · rw [classifyRelease_takeoff reaction takeoff]
      exact raceMove_takeTakeoff hn e
    · rw [classifyRelease_other reaction takeoff]
      exact .refl s

theorem raceMove_takeBlockLoad (hn : n < s.lanes.length) : RaceMove open_ s (takeBlockLoad n s) := by
  unfold takeBlockLoad
  split
  · exact raceMove_updLane_aside hn ⟨rfl, rfl, rfl⟩
  · exact .refl s

theorem raceMove_takeBlockRelease (hn : n < s.lanes.length) (e : Tick) : RaceMove open_ s (takeBlockRelease n e s) := by
  unfold takeBlockRelease
  split
  · have tracked : RaceMove open_ s (s.updLane n (fun l => { l with tracking := .released })) :=
      raceMove_updLane_aside hn ⟨rfl, rfl, rfl⟩
    exact tracked.trans (raceMove_classifyRelease (tracked.lane_lt hn) e)
  · exact .refl s

/-! ## Corrections of one lane (R72, R73, R112 to R117) -/

theorem raceMove_removeTail (hn : n < s.lanes.length) (swims : (s.lane n).state = .swimming) :
    RaceMove noLane s (removeTail n s) := by
  have lanes : (markLaneRows n (s.updLane n Lane.removeTail)).lanes = s.lanes.modify n Lane.removeTail := markLaneRows_lanes _ _
  have removed : RaceMove (onlyLane n) s (markLaneRows n (s.updLane n Lane.removeTail)) := by
    have race : (markLaneRows n (s.updLane n Lane.removeTail)).race = s.race := markLaneRows_race _ _
    have state : (s.lane n).removeTail.state = .swimming := swims
    refine raceMove_of_lane hn lanes (by rw [race]) (inputs_of_lamps (markLaneRows_lamps _ _))
      (fun d => .single (.removed swims)) ?_ rfl (fun closed => absurd rfl closed)
    rw [unplaced_standing (by simp [state]), unplaced_standing (by simp [swims])]
  have count := removed.lane_lt hn
  obtain ⟨gone, -, -, -, lamps, race, -⟩ := withdrawExchange_withdrawn count (s.lane n).done
  have aside (o : Option (Nat × Exchange)) (l : Lane) : l.Aside (l.withOutcome o) := by
    cases o with
    | none => exact ⟨rfl, rfl, rfl⟩
    | some x => exact setExchange_aside x.1 x.2 l
  exact (removed.trans (raceMove_aside count gone (by rw [race]) (inputs_of_lamps lamps) (aside _ _))).synced

/-- A lane that is not resolved goes to a state without a place. -/
theorem raceMove_setLaneState (hn : n < s.lanes.length) {new : LaneState}
    (change : ∀ d, LaneChange s.event ⟨s.race.state, s.lane n, d⟩ ⟨s.race.state, (s.lane n).toState new, d⟩)
    (before : ¬ ((s.lane n).state = .finished ∨ (s.lane n).state = .review)) (after : ¬ (new = .finished ∨ new = .review))
    (input : ¬ open_ n → onFinalLength s.event ((s.lane n).toState new) = onFinalLength s.event (s.lane n)) :
    RaceMove open_ s (setLaneState n new s) := by
  have race : (setLaneState n new s).race = s.race := setLaneState_race _ _ _
  refine raceMove_of_lane hn (setLaneState_lanes n new s) (by rw [race]) (inputs_of_lamps (setLaneState_lamps _ _ _))
    (fun d => .single (change d)) ?_ rfl input
  rw [unplaced_standing (l := (s.lane n).toState new) after, unplaced_standing before]

/-- A lane leaves the race (R112, R113, R119). -/
theorem raceMove_leaveRace (hn : n < s.lanes.length) {new : LaneState}
    (takes : (s.lane n).state = .ready ∨ (s.lane n).state = .set ∨ (s.lane n).state = .swimming)
    (allowed : (new = .dns ∧ (s.race.state = .loaded ∨ s.race.state = .armed ∨ s.race.state = .running))
      ∨ (new = .dnf ∧ s.race.state = .running)) : RaceMove noLane s (leaveRace new n s) := by
  have moved : RaceMove (onlyLane n) s (setLaneState n new s) := by
    refine raceMove_setLaneState hn (fun d => .left takes allowed) ?_ ?_ (fun closed => absurd rfl closed)
    · rcases takes with h | h | h <;> simp [h]
    · rcases allowed with ⟨h, -⟩ | ⟨h, -⟩ <;> simp [h]
  exact moved.synced

theorem raceMove_adjudicateLane (hn : n < s.lanes.length) {ev : Evidence} (src : ResultSource)
    (stands : (s.lane n).state = .finished ∨ (s.lane n).state = .review)
    (source : (s.lane n).pad = some ev ∨ (s.lane n).candidate = some ev.time ∨ lengthLimit s.event (s.lane n) 1 ≤ ev.time) :
    RaceMove open_ s (adjudicateLane n ev src s) := by
  have race : (adjudicateStart n ev src s).race = s.race := by
    rw [adjudicateStart, markLaneRows_race, handSplit_race, setLaneState_race]
    rfl
  have lamps : (adjudicateStart n ev src s).lamps = s.lamps := by
    rw [adjudicateStart, markLaneRows_lamps, handSplit_lamps, setLaneState_lamps]
    rfl
  rw [adjudicateLane_eq]
  refine raceMove_reranked (xs := []) hn adjudicateStart_lanes (by rw [race]) (event_of_race race) (by rw [race, List.map_nil, List.append_nil])
    (inputs_of_lamps lamps) (fun d => ?_) ?_
  · rw [List.append_nil]
    exact .single (.ruled stands source)
  · have still : ((s.lane n).ruled ev src).state ≠ .swimming := by simp [Lane.ruled, Lane.toState]
    rw [onFinalLength_false still, onFinalLength_false (by rcases stands with h | h <;> simp [h])]

theorem raceMove_markDq (hn : n < s.lanes.length) (dq : Bool) : RaceMove open_ s (markDq dq n s) := by
  have moved : RaceMove open_ s (recordCheck n (recomputeRanking (s.updLane n (fun l => { l with dq := dq })))) := by
    refine raceMove_reranked (xs := []) hn rfl rfl rfl (by simp [State.updLane]) rfl (fun d => ?_) rfl
    rw [List.append_nil]
    exact .besides rfl
  exact moved.of_parts (markLaneRow_lanes _ _) (markLaneRow_race _ _) (markLaneRow_lamps _ _)

end

end Sys2Proof.Machine
end

section
/-!
The operations on the whole field as moves of the state (R30, R34, R38, R44, R50, R52, R118 to R121), and every command as one.
-/
namespace Sys2Proof.Machine

/-! ## What goes with a race state, lane by lane -/

/-- A lane agrees with the race state (sections 2.3 and 2.4). -/
structure LaneAgrees (r : RaceState) (l : Lane) : Prop where
  fits : laneStateFits r l.state = true
  atArm : r = .armed ∨ r = .running → l.state ≠ .vacant → l.stateAtArm = some .ready ∨ l.stateAtArm = some .dns
  evidence : l.state = .finishing → l.pad.isSome = true ∨ l.presses ≠ []

theorem laneAgrees_blank (r : RaceState) : LaneAgrees r Lane.blank :=
  ⟨by cases r <;> rfl, fun _ used => absurd rfl used, fun h => by cases h⟩

/-- A property of every lane, told by lane numbers. -/
theorem forall_lanes {P : Lane → Prop} {s : State} (blank : P Lane.blank) : (∀ l ∈ s.lanes, P l) ↔ ∀ n, P (s.lane n) := by
  refine ⟨fun h n => ?_, fun h l hl => ?_⟩
  · by_cases hn : n < s.lanes.length
    · exact h _ (mem_lanes_lane hn)
    · rw [lane_beyond (by omega)]
      exact blank
  · obtain ⟨n, -, rfl⟩ := exists_lane_of_mem hl
    exact h n

theorem raceAgrees_iff (s : State) : RaceAgrees s ↔ s.lanes.length = 10 ∧ ∀ n, LaneAgrees s.race.state (s.lane n) := by
  rw [← forall_lanes (laneAgrees_blank s.race.state)]
  refine ⟨fun h => ⟨h.count, fun l hl => ⟨h.fits l hl, fun r => h.atArm r l hl, h.evidence l hl⟩⟩, fun h => ?_⟩
  obtain ⟨count, agrees⟩ := h
  exact ⟨count, fun l hl => (agrees l hl).fits, fun r l hl => (agrees l hl).atArm r, fun l hl => (agrees l hl).evidence⟩

section
variable {open_ : Nat → Prop} {s t u : State} {n : Nat}

/-! ## A change of all lanes at once -/

/-- No lane of the state swims or is resolved, as before ARM and before the START. -/
def AtRest (s : State) : Prop := ∀ n, (s.lane n).state ≠ .swimming ∧ ¬ ((s.lane n).state = .finished ∨ (s.lane n).state = .review)

/-- All lanes change at once, none of them swimming or resolved before or behind it. -/
theorem raceMove_atRest (count : t.lanes.length = s.lanes.length) (event : t.event = s.event) (ranking : t.race.ranking = s.race.ranking)
    (inputs : t.inputs = s.inputs) (views : ∀ n, LaneMoves s.event (s.view n) (t.view n)) (before : AtRest s) (after : AtRest t)
    (place : ∀ n, (t.lane n).place = (s.lane n).place ∨ (t.lane n).place = none) : RaceMove open_ s t := by
  have standing (n : Nat) : (t.lane n).standing = none := unplaced_standing (after n).2
  refine ⟨event, count, by rw [inputs], views, ranks_of_standings count (fun n => ?_) (fun n => ?_) ranking, fun n _ right => ?_⟩
  · rw [standing, unplaced_standing (before n).2]
  · exact (place n).imp id fun none_ => ⟨none_, standing n⟩
  · rw [InputRight, inputs, onFinalLength_false (after n).1, ← onFinalLength_false (e := s.event) (before n).1]
    exact right

theorem atRest_of_fits {r : RaceState} (agrees : ∀ n, LaneAgrees r (s.lane n)) (race : r = .loaded ∨ r = .armed) : AtRest s := by
  intro n
  have fits := (agrees n).fits
  rcases race with rfl | rfl <;> rcases hs : (s.lane n).state <;> simp_all [laneStateFits]

/-- An operation on each lane in turn keeps the number of lanes. -/
theorem length_lanesMoved {f : Nat → Lane → Lane} {g : Nat → Lane → List Nat} {op : Nat → State → State} (acts : ActsOnLane f g op s)
    (new : RaceState) : (setRaceState new (forEach laneNumbers op s)).lanes.length = s.lanes.length := by
  have moved := forEach_actsOnLane acts (ns := List.range 10) List.nodup_range
  rw [setRaceState_lanes, show laneNumbers = List.range 10 from rfl, moved]
  exact length_foldl_modify _ _ _

/-- ARM and a RECALL from ARMED: each lane in turn and then the race state. -/
theorem raceMove_lanesMoved {new : RaceState} {f : Nat → Lane → Lane} {g : Nat → Lane → List Nat} {op : Nat → State → State}
    (acts : ActsOnLane f g op s) (count : s.lanes.length = 10) (race : s.race.state ≠ new) (blank : ∀ n, f n Lane.blank = Lane.blank)
    (change : ∀ n l d, LaneChange s.event ⟨s.race.state, l, d⟩ ⟨new, f n l, d⟩) (before : AtRest s)
    (after : ∀ n, (f n (s.lane n)).state ≠ .swimming ∧ ¬ ((f n (s.lane n)).state = .finished ∨ (f n (s.lane n)).state = .review))
    (place : ∀ n l, (f n l).place = l.place ∨ (f n l).place = none) :
    RaceMove open_ s (setRaceState new (forEach laneNumbers op s)) := by
  have moved := lanesMoved acts count race
  have length := length_lanesMoved acts new
  generalize setRaceState new (forEach laneNumbers op s) = t at moved length
  have lane (n : Nat) : t.lane n = f n (s.lane n) := by
    by_cases hn : n < 10
    · exact moved.lane n hn
    · rw [moved.beyond n (by omega), lane_beyond (by omega), blank]
  have race := moved.race
  refine raceMove_atRest length (by rw [State.event, race, State.event]) (by rw [race]) (inputs_of_lamps moved.lamps) (fun n => ?_)
    before (fun n => by rw [lane]; exact after n) (fun n => by rw [lane]; exact place n _)
  have to_ : t.view n = ⟨new, f n (s.lane n), s.samplesFor n⟩ := by
    rw [State.view, lane, samplesFor_of_lags (s := s) (by rw [race]), race]
  rw [to_]
  exact .single (change n _ _)

theorem atArm_state (far : FarTiming) (loaded dive : Bool) (l : Lane) :
    (l.atArm far loaded dive).state = if l.state = .ready then .set else l.state := by
  unfold Lane.atArm
  split
  · rfl
  · split <;> rfl

theorem atArm_place (far : FarTiming) (loaded dive : Bool) (l : Lane) : (l.atArm far loaded dive).place = l.place := by
  unfold Lane.atArm
  split
  · rfl
  · split <;> rfl

theorem raceMove_arm (agrees : RaceAgrees s) (loaded : s.race.state = .loaded) :
    RaceMove open_ s (setRaceState .armed (forEach laneNumbers armLane s)) := by
  obtain ⟨count, lanes⟩ := (raceAgrees_iff s).mp agrees
  have rest := atRest_of_fits lanes (.inl loaded)
  refine raceMove_lanesMoved (armLane_acts s) count (by simp [loaded]) (fun n => rfl) (fun n l d => ?_) rest (fun n => ?_)
    (fun n l => .inl (atArm_place _ _ _ l))
  · rw [loaded]
    exact .armed _ _ _
  · rw [armedLane, atArm_state]
    split
    · simp
    · exact rest n

theorem recalledArmed_state (l : Lane) : l.recalledArmed.state = if l.state = .set then .ready else l.state := by
  unfold Lane.recalledArmed
  split
  · next vacant => simp [vacant]
  · rfl

theorem recalledArmed_place (l : Lane) : l.recalledArmed.place = l.place ∨ l.recalledArmed.place = none := by
  unfold Lane.recalledArmed
  split
  · exact .inl rfl
  · exact .inr rfl

theorem raceMove_recallArmed (agrees : RaceAgrees s) (armed : s.race.state = .armed) :
    RaceMove open_ s (setRaceState .loaded (forEach laneNumbers recallArmedLane s)) := by
  obtain ⟨count, lanes⟩ := (raceAgrees_iff s).mp agrees
  have rest := atRest_of_fits lanes (.inr armed)
  refine raceMove_lanesMoved (recallArmedLane_acts (s := s)) count (by simp [armed]) (fun n => rfl) (fun n l d => ?_) rest (fun n => ?_)
    (fun n l => recalledArmed_place l)
  · rw [armed]
    exact .recalledArmed
  · rw [recalledArmed_state]
    split
    · simp
    · exact rest n

/-! ## The start (R44) -/

/-- The lanes that would take a START with a length done already: none, while the counts are right. -/
def unready (s : State) : Nat → Prop := fun n => (s.lane n).state = .set ∧ (s.lane n).done ≠ 0

theorem started_core (ev : EventDesc) (start now : Tick) (l : Lane) :
    (l.started ev start now).core = (if l.state = .set then l.toState .swimming else l).core := by
  unfold Lane.started
  split
  · split <;> rfl
  · rfl

theorem started_aside (ev : EventDesc) (start now : Tick) (l : Lane) :
    (l.started ev start now).place = l.place ∧ (l.started ev start now).dq = l.dq := by
  unfold Lane.started
  split
  · split <;> exact ⟨rfl, rfl⟩
  · exact ⟨rfl, rfl⟩

theorem started_standing (ev : EventDesc) (start now : Tick) (l : Lane) : (l.started ev start now).standing = l.standing := by
  by_cases set : l.state = .set
  · have core := started_core ev start now l
    rw [if_pos set] at core
    have state : (l.started ev start now).state = .swimming := core_state core
    rw [unplaced_standing (by simp [state]), unplaced_standing (by simp [set])]
  · rw [started_other set]

theorem raceMove_startRace (count : s.lanes.length = 10) (armed : s.race.state = .armed) (e : Tick) :
    RaceMove (unready s) s (startRace e s) := by
  have lane (n : Nat) := startedState_lane (e := e) count n
  have len : (startedState e s).lanes.length = s.lanes.length := length_foldl_modify _ _ _
  have race : (startedState e s).race = { s.race with state := .running, startTick := some e, pastLimit := false } := rfl
  have lamps : (startedState e s).lamps = s.lamps := rfl
  have started : RaceMove (unready s) s (startedState e s) := by
    generalize startedState e s = t at lane len race lamps
    have event : t.event = s.event := by rw [State.event, race, State.event]
    have inputs := inputs_of_lamps lamps
    refine ⟨event, len, by rw [inputs], fun n => ?_, ranks_of_standings len (fun n => ?_) (fun n => .inl ?_) (by rw [race]),
      fun n ready right => ?_⟩
    · have to_ : t.view n = ⟨.running, (s.lane n).started s.event e s.tick, s.samplesFor n⟩ := by
        rw [State.view, lane, samplesFor_of_lags (s := s) (by rw [race]), race]
      have from_ : s.view n = ⟨.armed, s.lane n, s.samplesFor n⟩ := by rw [State.view, armed]
      rw [to_, from_]
      exact .single (.started e s.tick)
    · rw [lane, started_standing]
    · rw [lane, (started_aside _ _ _ _).1]
    · have same : onFinalLength s.event (t.lane n) = onFinalLength s.event (s.lane n) := by
        rw [lane]
        by_cases set : (s.lane n).state = .set
        · have core := started_core s.event e s.tick (s.lane n)
          rw [if_pos set] at core
          have done : ((s.lane n).started s.event e s.tick).done = 0 := (core_done core).trans (by
            by_contra some_
            exact ready ⟨set, some_⟩)
          rw [onFinalLength_false (l := s.lane n) (by simp [set])]
          exact decide_eq_false fun on => by omega
        · rw [started_other set]
      rw [InputRight, inputs, event, same]
      exact right
  rw [startRace_eq armed]
  exact started.trans (raceMove_of_same rfl rfl rfl)

theorem raceMove_takeStart (count : s.lanes.length = 10) (e : Tick) : RaceMove (unready s) s (takeStart e s) := by
  unfold takeStart
  split
  · next h => exact raceMove_startRace count h.1 e
  · exact RaceMove.refl s |>.of_parts (handNotice_lanes _ _ _) (handNotice_race _ _ _) (handNotice_lamps _ _ _)

/-! ## RECALL from RUNNING (R52) -/

theorem inputs_stopAllLamps (s : State) : (stopAllLamps s).inputs = s.inputs.map (fun _ => false) := by
  change (s.lamps.finalLength.map LampTimer.stop).map (·.input) = (s.lamps.finalLength.map (·.input)).map _
  rw [List.map_map, List.map_map]
  rfl

theorem recallRunning_fits {l : Lane} (agrees : LaneAgrees .running l) :
    l.recallRunning.state = .vacant ∨ l.recallRunning.state = .ready ∨ l.recallRunning.state = .dns := by
  unfold Lane.recallRunning
  split
  · next vacant => exact .inl vacant
  · next used =>
    have state : (l.recalled (l.stateAtArm.getD l.state)).state = l.stateAtArm.getD l.state := rfl
    rw [state]
    rcases agrees.atArm (.inr rfl) used with h | h <;> simp [h]

theorem recallRunning_place (l : Lane) : l.recallRunning = l ∨ l.recallRunning.place = none := by
  unfold Lane.recallRunning
  split
  · exact .inl rfl
  · exact .inr rfl

theorem raceMove_recallRunning (agrees : RaceAgrees s) (running : s.race.state = .running) : RaceMove open_ s (recallRunning s) := by
  obtain ⟨-, lanes⟩ := (raceAgrees_iff s).mp agrees
  have back := recalled (s := s) (by simp [running])
  generalize recallRunning s = t at back
  have lane := back.lane
  have race := back.race
  have inputs : t.inputs = s.inputs.map (fun _ => false) := 
    (inputs_of_lamps (s := stopAllLamps s) back.cleared.1).trans (inputs_stopAllLamps s)
  have event : t.event = s.event := by rw [State.event, race, State.event]
  have state (n : Nat) : (t.lane n).state = .vacant ∨ (t.lane n).state = .ready ∨ (t.lane n).state = .dns := by
    rw [lane]
    exact recallRunning_fits (running ▸ lanes n)
  have standing (n : Nat) : (t.lane n).standing = none := unplaced_standing (by rcases state n with h | h | h <;> simp [h])
  refine ⟨event, by rw [back.lanes, List.length_map], by rw [inputs, List.length_map], fun n => ?_, fun right => ⟨?_, ?_⟩,
    fun n _ right => ?_⟩
  · have to_ : t.view n = ⟨.loaded, (s.lane n).recallRunning, []⟩ := by
      rw [State.view, lane, State.samplesFor, race]
      rfl
    have from_ : s.view n = ⟨.running, s.lane n, s.samplesFor n⟩ := by rw [State.view, running]
    rw [to_, from_]
    exact .single .recalledRunning
  · refine (placesRight_iff t).mpr fun l hl => ?_
    obtain ⟨n, hn, rfl⟩ := exists_lane_of_mem hl
    have unplaced := standing n
    rw [unplaced]
    rw [lane] at unplaced ⊢
    rcases recallRunning_place (s.lane n) with same | none_
    · rw [same] at unplaced ⊢
      rw [back.lanes, List.length_map] at hn
      rw [(placesRight_iff s).mp right.1 _ (mem_lanes_lane hn), unplaced]
      rfl
    · exact none_
  · rw [rankingRight_iff, race]
    refine ⟨fun n => ⟨fun h => (by cases h), fun h => ?_⟩, .nil⟩
    exact absurd h.2 (standing_eq_none.mp (standing n))
  · have off : onFinalLength t.event (t.lane n) = false := onFinalLength_false (by rcases state n with h | h | h <;> simp [h])
    rw [InputRight, inputs, List.getElem?_map, off, show s.inputs[n]? = _ from right]
    rfl

/-! ## STOP and CLOSE (R119, R121) -/

theorem underWay_core {l m : Lane} (h : m.core = l.core) : m.underWay = l.underWay := of_core Lane.underWay (fun _ => rfl) h

/-- What settling lane `n` of a running race does. -/
structure SettlesLane (n : Nat) (s t : State) : Prop where
  move : RaceMove noLane s t
  race : t.race.state = s.race.state
  mine : (t.lane n).underWay = false
  others : ∀ m, m ≠ n → (t.lane m).core = (s.lane m).core

/-- What settling the lanes `ns` of a running race one after another does. -/
structure SettlesLanes (ns : List Nat) (s t : State) : Prop where
  move : RaceMove noLane s t
  race : t.race.state = s.race.state
  mine : ∀ n ∈ ns, (t.lane n).underWay = false
  others : ∀ m, m ∉ ns → (t.lane m).core = (s.lane m).core

/-- An operation that settles each lane that is `ok` settles one after another. -/
theorem settlesLanes {op : Nat → State → State} {ok : Lane → Prop} (core : ∀ l m : Lane, m.core = l.core → ok l → ok m)
    (settles : ∀ (u : State) (n : Nat), n < u.lanes.length → u.race.state = .running → ok (u.lane n) → SettlesLane n u (op n u))
    {ns : List Nat} (nodup : ns.Nodup) (below : ∀ n ∈ ns, n < s.lanes.length) (running : s.race.state = .running)
    (hs : ∀ n ∈ ns, ok (s.lane n)) : SettlesLanes ns s (forEach ns op s) := by
  induction ns generalizing s with
  | nil => exact ⟨.refl s, rfl, by simp, fun _ _ => rfl⟩
  | cons n ns ih =>
    obtain ⟨fresh, rest⟩ := List.nodup_cons.mp nodup
    obtain ⟨move, race, mine, others⟩ := settles s n (below n (by simp)) running (hs n (by simp))
    have unfold_ : forEach (n :: ns) op s = forEach ns op (op n s) := rfl
    have later (m : Nat) (hm : m ∈ ns) : m ≠ n := fun h => fresh (h ▸ hm)
    have all := ih (s := op n s) rest (fun m hm => move.lane_lt (below m (by simp [hm]))) (race.trans running)
      fun m hm => core _ _ (others m (later m hm)) (hs m (by simp [hm]))
    rw [unfold_]
    refine ⟨move.trans all.move, all.race.trans race, fun m hm => ?_, fun m hm => ?_⟩
    · rcases List.mem_cons.mp hm with rfl | hm
      · rw [underWay_core (all.others m fresh)]
        exact mine
      · exact all.mine m hm
    · obtain ⟨hn, hr⟩ := not_or.mp (List.mem_cons.not.mp hm)
      exact (all.others m hr).trans (others m hn)

theorem core_reranked (n m : Nat) (hn : n < u.lanes.length) :
    ((recordCheck n (recomputeRanking u)).lane m).core = (u.lane m).core := by
  obtain ⟨lane, others, -⟩ := reranked hn
  by_cases at_n : m = n
  · rw [at_n, lane]
    rfl
  · rw [others m at_n]
    rfl

/-- A FINISHING lane with evidence is resolved (R76, R87). -/
theorem settlesLane_resolveLane (hn : n < s.lanes.length) (finishing : (s.lane n).state = .finishing)
    (evidence : (s.lane n).pad ≠ none ∨ (s.lane n).presses ≠ []) : SettlesLane n s (resolveLane n s) := by
  obtain ⟨d, decides⟩ := exists_decision s.event evidence
    ((s.lane n).backup s.event (lagEstimate s.event s.race.lags))
  have lanes := resolveStart_lanes (d := d) hn
  have count : n < (resolveStart n d s).lanes.length := by rw [lanes, List.length_modify]; exact hn
  have core := core_reranked n (hn := count)
  refine ⟨raceMove_resolveLane hn finishing, ?_, ?_, fun m hm => ?_⟩
  · obtain ⟨-, -, -, race, -⟩ := reranked count
    rw [resolveLane_eq decides, race, resolveStart_race]
  · have state : ((resolveLane n s).lane n).state = d.state := by
      rw [resolveLane_eq decides, core_state (core n), lane_of_modify lanes hn]
      rfl
    unfold Lane.underWay
    rw [state]
    rcases decision_state decides with h | h <;> simp [h]
  · rw [resolveLane_eq decides, core m, othersKept_of_modify lanes m hm]

theorem settlesLane_dnfLane (hn : n < s.lanes.length) (running : s.race.state = .running) (swims : (s.lane n).state = .swimming) :
    SettlesLane n s (dnfLane n s) := by
  have left := leftRace (new := .dnf) hn (by simp) (by simp [swims])
  have same : dnfLane n s = leaveRace .dnf n s := rfl
  have move := raceMove_leaveRace (new := .dnf) hn (.inr (.inr swims)) (.inr ⟨rfl, running⟩)
  rw [same]
  refine ⟨move, by rw [left.race], ?_, fun m hm => by rw [left.others m hm]⟩
  rw [left.lane]
  rfl

/-- The end of a race in which no lane is under way (R119). -/
theorem raceMove_stopped (running : s.race.state = .running) (idle : ∀ n, (s.lane n).underWay = false) :
    RaceMove open_ s (setRaceState .unofficial (stopLaneLamps s)) := by
  have going : (stopLaneLamps s).race.state ≠ .unofficial := by
    change s.race.state ≠ _
    simp [running]
  have inputs : (setRaceState .unofficial (stopLaneLamps s)).inputs = s.inputs.map (fun _ => false) :=
    (inputs_of_lamps (setRaceState_lamps _ _)).trans (inputs_stopAllLamps s)
  have race : (setRaceState .unofficial (stopLaneLamps s)).race = { s.race with state := .unofficial, pastLimit := false } := by
    rw [setRaceState_eq going]
    rfl
  have lanes : (setRaceState .unofficial (stopLaneLamps s)).lanes = s.lanes := setRaceState_lanes _ _
  generalize setRaceState .unofficial (stopLaneLamps s) = t at inputs race lanes
  have lane := lane_of_lanes lanes
  have event : t.event = s.event := by rw [State.event, race, State.event]
  refine ⟨event, by rw [lanes], by rw [inputs, List.length_map], fun n => ?_,
    ranks_of_standings (by rw [lanes]) (fun n => by rw [lane]) (fun n => .inl (by rw [lane])) (by rw [race]), fun n _ right => ?_⟩
  · have to_ : t.view n = ⟨.unofficial, s.lane n, s.samplesFor n⟩ := by
      rw [State.view, lane, samplesFor_of_lags (s := s) (by rw [race]), race]
    have from_ : s.view n = ⟨.running, s.lane n, s.samplesFor n⟩ := by rw [State.view, running]
    rw [to_, from_]
    exact .single (.ended (idle n))
  · have still : (s.lane n).state ≠ .swimming := fun swims => by
      have under := idle n
      simp [Lane.underWay, swims] at under
    rw [InputRight, inputs, List.getElem?_map, lane, onFinalLength_false still, show s.inputs[n]? = _ from right]
    rfl

/-- STOP: FINISHING lanes are resolved, SWIMMING lanes go to DNF, and the race ends (R119). -/
theorem raceMove_stop (agrees : RaceAgrees s) (running : s.race.state = .running) :
    RaceMove open_ s (setRaceState .unofficial
      (stopLaneLamps (forEach (s.lanesIn .swimming) dnfLane (forEach (s.lanesIn .finishing) resolveLane s)))) := by
  obtain ⟨count, lanes⟩ := (raceAgrees_iff s).mp agrees
  have nodup (st : LaneState) : (s.lanesIn st).Nodup := List.Nodup.filter _ (List.nodup_range (n := Config.laneCount))
  have mem {st : LaneState} {n : Nat} : n ∈ s.lanesIn st ↔ n < 10 ∧ (s.lane n).state = st := by
    simp [State.lanesIn, laneNumbers, Config.laneCount]
  have resolved : SettlesLanes (s.lanesIn .finishing) s (forEach (s.lanesIn .finishing) resolveLane s) := by
    refine settlesLanes (ok := fun l => l.state = .finishing ∧ (l.pad ≠ none ∨ l.presses ≠ [])) (fun l m same ok => ?_)
      (fun u n hn _ ok => settlesLane_resolveLane hn ok.1 ok.2) (nodup _) (fun n hn => count ▸ (mem.mp hn).1) running fun n hn => ?_
    · rw [core_state same, core_pad same, core_presses same]
      exact ok
    · refine ⟨(mem.mp hn).2, ((lanes n).evidence (mem.mp hn).2).imp (fun there => ?_) id⟩
      exact Option.isSome_iff_ne_none.mp there
  generalize forEach (s.lanesIn .finishing) resolveLane s = u at resolved
  have notBoth {n : Nat} (hn : n ∈ s.lanesIn .swimming) : n ∉ s.lanesIn .finishing := fun h => by
    have one := (mem.mp h).2
    rw [(mem.mp hn).2] at one
    cases one
  have stopped : SettlesLanes (s.lanesIn .swimming) u (forEach (s.lanesIn .swimming) dnfLane u) := by
    refine settlesLanes (ok := fun l => l.state = .swimming) (fun l m same ok => (core_state same).trans ok)
      (fun w n hn race ok => settlesLane_dnfLane hn race ok) (nodup _) (fun n hn => ?_) (resolved.race.trans running) fun n hn => ?_
    · exact resolved.move.lane_lt (count ▸ (mem.mp hn).1)
    · rw [core_state (resolved.others n (notBoth hn))]
      exact (mem.mp hn).2
  generalize forEach (s.lanesIn .swimming) dnfLane u = w at stopped
  have over_ : w.race.state = .running := stopped.race.trans (resolved.race.trans running)
  have idle (n : Nat) : (w.lane n).underWay = false := by
    by_cases swims : n ∈ s.lanesIn .swimming
    · exact stopped.mine n swims
    · rw [underWay_core (stopped.others n swims)]
      by_cases finishes : n ∈ s.lanesIn .finishing
      · exact resolved.mine n finishes
      · rw [underWay_core (resolved.others n finishes)]
        by_cases hn : n < 10
        · have still : (s.lane n).state ≠ .swimming := fun h => swims (mem.mpr ⟨hn, h⟩)
          have open' : (s.lane n).state ≠ .finishing := fun h => finishes (mem.mpr ⟨hn, h⟩)
          have set : (s.lane n).state ≠ .set := fun set => by
            have fits := (lanes n).fits
            rw [running, set] at fits
            simp [laneStateFits] at fits
          simp [Lane.underWay, still, open', set]
        · rw [lane_beyond (by omega)]
          rfl
  exact ((resolved.move.trans stopped.move).widen).trans (raceMove_stopped over_ idle)

end

end Sys2Proof.Machine
end

section
/-!
Every command, and every step, as a move of the lanes or an emptied field.
-/
namespace Sys2Proof.Machine

/-! ## An emptied field (R30, R34, R21) -/

/-- The field is empty: the race is IDLE or LOADED, every lane is blank, nothing is ranked or sampled, and no FINAL_LENGTH input is
on. -/
structure FieldEmpty (t : State) : Prop where
  race : t.race.state = .idle ∨ t.race.state = .loaded
  lanes : ∀ l ∈ t.lanes, l = Lane.blank
  count : t.lanes.length = 10
  lags : t.race.lags = []
  ranking : t.race.ranking = []
  inputs : ∀ x ∈ t.inputs, x = false

theorem FieldEmpty.lane {t : State} (h : FieldEmpty t) (n : Nat) : t.lane n = Lane.blank :=
  (forall_lanes (P := fun l => l = Lane.blank) rfl).mp h.lanes n

/-- What a command leaves: the lanes have moved, those apart whose FINAL_LENGTH input is out of the ordinary from the start, or the
field is empty. -/
def RaceOutcome (s t : State) : Prop := RaceMove (unready s) s t ∨ FieldEmpty t

section
variable {s t u : State} {c : Instr}

theorem RaceMove.outcome (h : RaceMove noLane s t) : RaceOutcome s t := .inl h.widen

theorem raceOutcome_same (lanes : t.lanes = s.lanes) (race : t.race.core = s.race.core) (inputs : t.inputs = s.inputs) :
    RaceOutcome s t := .inl (raceMove_of_same lanes race inputs)

theorem RaceOutcome.of_parts (h : RaceOutcome s u) (lanes : t.lanes = u.lanes) (race : t.race = u.race) (lamps : t.lamps = u.lamps) :
    RaceOutcome s t := by
  rcases h with h | ⟨state, blank, count, lags, ranking, inputs⟩
  · exact .inl (h.of_parts lanes race lamps)
  · have same := inputs_of_lamps lamps
    exact .inr ⟨by rw [race]; exact state, by rw [lanes]; exact blank, by rw [lanes]; exact count, by rw [race]; exact lags,
      by rw [race]; exact ranking, by rw [same]; exact inputs⟩

theorem RaceOutcome.watchCheck (h : RaceOutcome s u) : RaceOutcome s (watchCheck u) :=
  h.of_parts (watchCheck_lanes u) (watchCheck_race u) (watchCheck_lamps u)

theorem RaceOutcome.putReply (h : RaceOutcome s u) (f : Frame) (r : ReplyCode) (x : List Byte) : RaceOutcome s (putReply f r x u) :=
  h.of_parts rfl rfl rfl

theorem raceOutcome_refused (f : Frame) (r : ReplyCode) (x : List Byte) : RaceOutcome s (putReply f r x s) :=
  raceOutcome_same rfl rfl rfl

theorem RaceAgrees.of_parts (h : RaceAgrees s) (lanes : t.lanes = s.lanes) (race : t.race = s.race) : RaceAgrees t := by
  obtain ⟨count, fits, atArm, evidence⟩ := h
  constructor <;> simpa [lanes, race]

/-- What stands before an operation, the taking of a frame or the sampling of a line, looks at other parts. -/
theorem RaceOutcome.from_ (h : RaceOutcome u t) (lanes : u.lanes = s.lanes) (race : u.race = s.race) (lamps : u.lamps = s.lamps) :
    RaceOutcome s t := by
  refine h.imp (fun move => ?_) id
  have same : unready u = unready s := by
    funext n
    rw [unready, lane_of_lanes lanes, unready]
  rw [same] at move
  exact (raceMove_of_same lanes (by rw [race]) (inputs_of_lamps lamps)).trans move

/-- A request is an outcome as its effect behind the taking of the frame is. -/
theorem raceOutcome_request {kind : Byte} {mine : List Byte → Bool} {lengthOk : Nat → Bool} {bad : State → List Byte}
    {act : Frame → State → State} (agrees : RaceAgrees s) (hact : ∀ f u, RaceAgrees u → RaceOutcome u (act f u)) :
    NextMeets (RaceOutcome s) (.next (takeRequest kind mine lengthOk bad act s)) := by
  refine (nextMeets_next _ _).mpr ?_
  obtain h | ⟨f, -, -, -, ⟨-, h⟩ | ⟨-, h⟩⟩ := takeRequest_cases kind mine lengthOk bad act s <;> rw [h]
  · exact raceOutcome_same rfl rfl rfl
  · exact (hact f (popRequest s) (agrees.of_parts rfl rfl)).from_ rfl rfl rfl
  · exact (raceOutcome_refused (s := popRequest s) _ _ _).from_ rfl rfl rfl

/-! ## The requests of the Race Engine -/

theorem fieldEmpty_cleared {new : RaceState} {e : Option EventDesc} (count : s.lanes.length = 10) (race : new = .idle ∨ new = .loaded) :
    FieldEmpty (setRaceState new (clearField e s)) := by
  obtain ⟨race', lanes, cleared, -, -⟩ := emptiedField new e s
  generalize setRaceState new (clearField e s) = t at race' lanes cleared
  have inputs : t.inputs = s.inputs.map (fun _ => false) :=
    (inputs_of_lamps (s := stopAllLamps s) cleared.1).trans (inputs_stopAllLamps s)
  refine ⟨by rw [race']; exact race, ?_, by rw [lanes, List.length_map, count], by rw [race']; rfl, by rw [race']; rfl, ?_⟩
  · rw [lanes]
    simp
  · rw [inputs]
    simp

theorem actLoadEvent_raceOutcome (f : Frame) (agrees : RaceAgrees s) : RaceOutcome s (actLoadEvent f s) := by
  unfold actLoadEvent
  split
  · exact raceOutcome_refused ..
  split
  · exact raceOutcome_refused ..
  · exact (RaceOutcome.watchCheck (.inr (fieldEmpty_cleared agrees.count (.inr rfl)))).putReply _ _ _

theorem actClearRace_raceOutcome (f : Frame) (agrees : RaceAgrees s) : RaceOutcome s (actClearRace f s) := by
  have empty : RaceOutcome s (setRaceState .idle (clearField none s)) := .inr (fieldEmpty_cleared agrees.count (.inl rfl))
  exact (empty.of_parts (answerClear_lanes _) (answerClear_race _) (answerClear_lamps _)).putReply _ _ _

theorem actSetLane_raceOutcome (f : Frame) (agrees : RaceAgrees s) : RaceOutcome s (actSetLane f s) := by
  unfold actSetLane
  dsimp only
  generalize (byteAt f.payload 0).toNat = n
  split
  · exact raceOutcome_refused ..
  next hs =>
  have loaded : s.race.state = .loaded := not_not.mp hs
  split
  · exact raceOutcome_refused ..
  next hn =>
  have hn : n < s.lanes.length := agrees.count ▸ Nat.not_le.mp hn
  split
  · exact raceOutcome_refused ..
  split
  · exact raceOutcome_refused ..
  next hstate =>
  have takes : (s.lane n).state = .vacant ∨ (s.lane n).state = .ready := by
    by_contra h
    exact hstate (not_or.mp h)
  generalize hnew : (if byteAt f.payload 1 = 1 then LaneState.ready else LaneState.vacant) = new
  have allowed : new = .vacant ∨ new = .ready := by
    rw [← hnew]
    split
    · exact .inr rfl
    · exact .inl rfl
  have moved : RaceMove noLane s (setLaneState n new s) := by
    refine raceMove_setLaneState hn (fun d => ?_) ?_ ?_ fun _ => ?_
    · rw [loaded]
      exact .used takes allowed
    · rcases takes with h | h <;> simp [h]
    · rcases allowed with h | h <;> simp [h]
    · have off : ((s.lane n).toState new).state ≠ .swimming := by rcases allowed with h | h <;> simp [Lane.toState, h]
      rw [onFinalLength_false off, onFinalLength_false (by rcases takes with h | h <;> simp [h])]
  have texted : RaceMove noLane s ((setLaneState n new s).updLane n (fun l => { l with text := storedText 16 (f.payload.drop 2) })) :=
    moved.trans (raceMove_updLane_aside (moved.lane_lt hn) ⟨rfl, rfl, rfl⟩)
  exact ((texted.of_parts (markLaneRow_lanes _ _) (markLaneRow_race _ _) (markLaneRow_lamps _ _)).watchCheck.putReply _ _ _).outcome

theorem actSetRecord_raceOutcome (f : Frame) : RaceOutcome s (actSetRecord f s) := by
  unfold actSetRecord
  dsimp only
  (repeat' split) <;> exact raceOutcome_same rfl rfl rfl

theorem actArm_raceOutcome (f : Frame) (agrees : RaceAgrees s) : RaceOutcome s (actArm f s) := by
  unfold actArm
  dsimp only
  split
  · exact raceOutcome_refused ..
  next hs =>
  split
  · exact raceOutcome_refused ..
  · exact ((raceMove_arm agrees (not_not.mp hs)).watchCheck.putReply _ _ _).outcome

theorem actRecall_raceOutcome (f : Frame) (agrees : RaceAgrees s) : RaceOutcome s (actRecall f s) := by
  unfold actRecall
  split
  · next h => exact ((raceMove_recallArmed agrees h).watchCheck.putReply _ _ _).outcome
  · next h =>
    split
    · exact raceOutcome_refused ..
    · exact ((raceMove_recallRunning agrees h).watchCheck.putReply _ _ _).outcome
  · exact raceOutcome_refused ..

theorem actStop_raceOutcome (f : Frame) (agrees : RaceAgrees s) : RaceOutcome s (actStop f s) := by
  unfold actStop
  dsimp only
  split
  · exact raceOutcome_refused ..
  next hs => exact ((raceMove_stop agrees (not_not.mp hs)).watchCheck.putReply _ _ _).outcome

theorem raceMove_close (unofficial : s.race.state = .unofficial) (settled : ∀ n, (s.lane n).state ≠ .review) :
    RaceMove noLane s (setRaceState .official s) := by
  have lanes : (setRaceState .official s).lanes = s.lanes := setRaceState_lanes _ _
  have race : (setRaceState .official s).race = { s.race with state := .official, pastLimit := false } := by
    rw [setRaceState_eq (by simp [unofficial])]
  have inputs : (setRaceState .official s).inputs = s.inputs := inputs_of_lamps (setRaceState_lamps _ _)
  generalize setRaceState .official s = t at lanes race inputs
  have lane := lane_of_lanes lanes
  have event : t.event = s.event := by rw [State.event, race, State.event]
  refine ⟨event, by rw [lanes], by rw [inputs], fun n => ?_,
    ranks_of_standings (by rw [lanes]) (fun n => by rw [lane]) (fun n => .inl (by rw [lane])) (by rw [race]), fun n _ right => ?_⟩
  · have to_ : t.view n = ⟨.official, s.lane n, s.samplesFor n⟩ := by
      rw [State.view, lane, samplesFor_of_lags (s := s) (by rw [race]), race]
    have from_ : s.view n = ⟨.unofficial, s.lane n, s.samplesFor n⟩ := by rw [State.view, unofficial]
    rw [to_, from_]
    exact .single (.closed (settled n))
  · rw [InputRight, inputs, lane, event]
    exact right

theorem actClose_raceOutcome (f : Frame) : RaceOutcome s (actClose f s) := by
  unfold actClose
  dsimp only
  split
  · exact raceOutcome_refused ..
  next hs =>
  split
  · exact raceOutcome_refused ..
  next none_ =>
  have settled : ∀ n, (s.lane n).state ≠ .review := (forall_lanes (P := fun l => l.state ≠ .review) (by simp [Lane.blank])).mp fun l hl review =>
    none_ (List.any_eq_true.mpr ⟨l, hl, decide_eq_true review⟩)
  exact ((raceMove_close (not_not.mp hs) settled).watchCheck.putReply _ _ _).outcome

/-- What the checks of ADJUST_LENGTH have found (R72). -/
theorem adjustCheck_found {p : List Byte} (h : adjustCheck p s = none) :
    (byteAt p 0).toNat < 10 ∧ (s.lane (byteAt p 0).toNat).state = .swimming := by
  unfold adjustCheck at h
  dsimp only at h
  split at h
  · cases h
  split at h
  · cases h
  next hn =>
  split at h
  · cases h
  next swims => exact ⟨Nat.not_le.mp hn, not_not.mp swims⟩

theorem actAdjustPlus_raceOutcome (f : Frame) (agrees : RaceAgrees s) : RaceOutcome s (actAdjustPlus f s) := by
  unfold actAdjustPlus
  dsimp only
  split
  · exact raceOutcome_refused ..
  next accepted =>
  obtain ⟨hn, swims⟩ := adjustCheck_found accepted
  exact ((raceMove_appendSplit (agrees.count ▸ hn) swims fun _ _ => .untimed swims (.inr (.inr rfl))).synced.putReply _ _ _).outcome

end

section
variable {s : State}

theorem actAdjustMinus_raceOutcome (f : Frame) (agrees : RaceAgrees s) : RaceOutcome s (actAdjustMinus f s) := by
  unfold actAdjustMinus
  dsimp only
  split
  · exact raceOutcome_refused ..
  next accepted =>
  obtain ⟨hn, swims⟩ := adjustCheck_found accepted
  exact ((raceMove_removeTail (agrees.count ▸ hn) swims).putReply _ _ _).outcome

/-- What the checks of ADJUDICATE have found (R116): the lane, its state, and where the new time comes from. -/
theorem adjudicateCheck_found {p : List Byte} (h : adjudicateCheck p s = none) {ev : Evidence} {src : ResultSource}
    (time : adjudicated p (s.lane (byteAt p 0).toNat) = some (ev, src)) : (byteAt p 0).toNat < 10
    ∧ ((s.lane (byteAt p 0).toNat).pad = some ev ∨ (s.lane (byteAt p 0).toNat).candidate = some ev.time
      ∨ lengthLimit s.event (s.lane (byteAt p 0).toNat) 1 ≤ ev.time) := by
  unfold adjudicateCheck at h
  dsimp only at h
  split at h
  · cases h
  split at h
  · cases h
  next hn =>
  split at h
  · cases h
  split at h
  · cases h
  next known =>
  split at h
  · cases h
  split at h
  · cases h
  next within =>
  refine ⟨Nat.not_le.mp hn, ?_⟩
  unfold adjudicated at time
  split at time
  · obtain ⟨x, pad, same⟩ := Option.map_eq_some_iff.mp time
    cases same
    exact .inl pad
  next notPad =>
  split at time
  · obtain ⟨x, candidate, same⟩ := Option.map_eq_some_iff.mp time
    cases same
    exact .inr (.inl candidate)
  next notBackup =>
  cases time
  have manual : byteAt p 1 = 2 := by bv_omega
  exact .inr (.inr (Nat.not_lt.mp fun low => within ⟨manual, .inl low⟩))

theorem actAdjudicate_raceOutcome (f : Frame) (agrees : RaceAgrees s) : RaceOutcome s (actAdjudicate f s) := by
  unfold actAdjudicate
  dsimp only
  split
  · next accepted time =>
    obtain ⟨hn, source⟩ := adjudicateCheck_found accepted time
    exact ((raceMove_adjudicateLane (open_ := noLane) (agrees.count ▸ hn) _ (adjudicateCheck_state accepted) source).watchCheck.putReply
      _ _ _).outcome
  · exact raceOutcome_refused ..
  · exact raceOutcome_refused ..

theorem declareCheck_lane {rok : RaceState → Bool} {lok : Lane → Bool} {p : List Byte} (h : declareCheck rok lok p s = none) :
    (byteAt p 0).toNat < 10 := by
  unfold declareCheck at h
  dsimp only at h
  split at h
  · cases h
  split at h
  · cases h
  split at h
  · cases h
  next hn => exact Nat.not_le.mp hn

theorem actDeclare_raceOutcome {rok : RaceState → Bool} {lok : Lane → Bool} {effect : Nat → State → State}
    (he : ∀ n, n < s.lanes.length → rok s.race.state = true → lok (s.lane n) = true → RaceMove noLane s (effect n s)) (f : Frame)
    (agrees : RaceAgrees s) : RaceOutcome s (actDeclare rok lok effect f s) := by
  unfold actDeclare
  dsimp only
  split
  · exact raceOutcome_refused ..
  next accepted =>
  obtain ⟨hr, hl⟩ := declareCheck_states accepted
  exact ((he _ (agrees.count ▸ declareCheck_lane accepted) hr hl).watchCheck.putReply _ _ _).outcome

theorem raceMove_declareDnsLane {n : Nat} (hn : n < s.lanes.length)
    (race : decide (s.race.state = .loaded ∨ s.race.state = .armed ∨ s.race.state = .running) = true)
    (lane : dnsLane (s.lane n) = true) : RaceMove noLane s (declareDnsLane n s) := by
  have takes : (s.lane n).state = .ready ∨ (s.lane n).state = .set ∨ (s.lane n).state = .swimming :=
    (of_decide_eq_true lane).imp id (Or.imp id fun h => h.1)
  exact (raceMove_leaveRace hn takes (.inl ⟨rfl, of_decide_eq_true race⟩)).trans (raceMove_endOfRaceCheck _)

theorem raceMove_declareDnfLane {n : Nat} (hn : n < s.lanes.length) (race : decide (s.race.state = .running) = true)
    (lane : decide ((s.lane n).state = .swimming) = true) : RaceMove noLane s (declareDnfLane n s) :=
  (raceMove_leaveRace hn (.inr (.inr (of_decide_eq_true lane))) (.inr ⟨rfl, of_decide_eq_true race⟩)).trans (raceMove_endOfRaceCheck _)

theorem raceMove_declareDqLane {n : Nat} (hn : n < s.lanes.length) : RaceMove noLane s (declareDqLane n s) := by
  unfold declareDqLane
  split
  · exact .refl s
  · exact raceMove_markDq hn true

theorem raceMove_declareReinstateLane {n : Nat} (hn : n < s.lanes.length) : RaceMove noLane s (declareReinstateLane n s) := by
  unfold declareReinstateLane
  split
  · exact raceMove_markDq hn false
  · exact .refl s

/-! ## Edges, the backup window and the other commands -/

theorem raceOutcome_takeCapture (count : s.lanes.length = 10) {x : CaptureEvent} (hx : ∀ n, x.laneNumber = some n → n < 10) :
    RaceOutcome s (takeCapture x s) := by
  cases x with
  | padMake n at0 e => exact (raceMove_takePadMake (count ▸ hx n rfl) at0 e).watchCheck.outcome
  | buttonPress n b e => exact (raceMove_takeButtonPress (count ▸ hx n rfl) b e).watchCheck.outcome
  | blockLoad n e => exact (raceMove_takeBlockLoad (open_ := noLane) (count ▸ hx n rfl)).outcome
  | blockRelease n e => exact (raceMove_takeBlockRelease (open_ := noLane) (count ▸ hx n rfl) e).outcome
  | start e =>
    have started : RaceOutcome s (takeStart e s) := .inl (raceMove_takeStart count e)
    exact started.watchCheck

theorem execEdgeConfirmed_raceOutcome (n : Nat) (high : Bool) (agrees : RaceAgrees s) :
    NextMeets (RaceOutcome s) (execEdgeConfirmed n high s) := by
  unfold execEdgeConfirmed
  split
  · simp
  next hn =>
    have hn : n < 61 := by simpa [Config.lineCount] using hn
    dsimp only
    split <;> refine (nextMeets_next _ _).mpr ?_
    · next e _ =>
      unfold confirmEdge
      dsimp only
      split
      · next x hd =>
        exact (raceOutcome_takeCapture (s := (s.sampleLine n high).updLine n
          (Line.confirmed (lineClass n) e (s.sampleLine n high).tick (s.sampleLine n high).tested.padHold)) agrees.count
          (captureOf_lane hn hd)).from_ rfl rfl rfl
      · exact raceOutcome_same rfl rfl rfl
    · exact raceOutcome_same rfl rfl rfl

theorem execBackupWindowExpiry_raceOutcome (n : Nat) (agrees : RaceAgrees s) :
    NextMeets (RaceOutcome s) (execBackupWindowExpiry n s) := by
  unfold execBackupWindowExpiry
  split
  · simp
  next hn =>
    have hn : n < s.lanes.length := agrees.count ▸ Nat.not_le.mp hn
    split <;> refine (nextMeets_next _ _).mpr ?_
    · next h =>
      have finishing : (s.lane n).state = .finishing := by
        unfold windowExpired at h
        split at h
        · exact (of_decide_eq_true h).1
        · cases h
      exact ((raceMove_resolveLane hn finishing).trans (raceMove_endOfRaceCheck _)).watchCheck.outcome
    · exact raceOutcome_same rfl rfl rfl

theorem expire_input (now : Tick) (x : LampTimer) : (x.expire now).input = x.input := by
  unfold LampTimer.expire
  split <;> rfl

theorem exec_lamps_raceOutcome {c : Instr} (hc : (∃ f, c = .pulseExpiry f) ∨ (∃ f, c = .extendedExpiry f) ∨ ∃ n, c = .offDelayExpiry n) :
    NextMeets (RaceOutcome s) (exec c s) := by
  rcases hc with ⟨f, rfl⟩ | ⟨f, rfl⟩ | ⟨n, rfl⟩
  · change NextMeets _ (execPulseExpiry f s)
    unfold execPulseExpiry
    (repeat' split)
    · simp
    · exact (nextMeets_next _ _).mpr (raceOutcome_same rfl rfl rfl)
    · exact (nextMeets_next _ _).mpr (raceOutcome_same rfl rfl rfl)
  · change NextMeets _ (execExtendedExpiry f s)
    unfold execExtendedExpiry
    (repeat' split)
    · simp
    · exact (nextMeets_next _ _).mpr (raceOutcome_same rfl rfl rfl)
    · exact (nextMeets_next _ _).mpr (raceOutcome_same rfl rfl rfl)
  · change NextMeets _ (execOffDelayExpiry n s)
    unfold execOffDelayExpiry
    split
    · simp
    · refine (nextMeets_next _ _).mpr (raceOutcome_same rfl rfl ?_)
      change (s.lamps.finalLength.modify n (LampTimer.expire s.tick)).map (·.input) = s.lamps.finalLength.map (·.input)
      refine List.ext_getElem? fun i => ?_
      rw [List.getElem?_map, List.getElem?_modify, List.getElem?_map]
      cases s.lamps.finalLength[i]? with
      | none => rfl
      | some x => by_cases hi : n = i <;> simp [hi, expire_input]

theorem fieldEmpty_powerOn (p : Pins) (s : State) : FieldEmpty (powerOn p s) where
  race := .inl rfl
  lanes := by simp [powerOn]
  count := by simp [powerOn]
  lags := rfl
  ranking := rfl
  inputs := by simp [State.inputs, powerOn, Lamps.powerOn, LampTimer.stopped]

theorem exec_raceOutcome (c : Instr) (agrees : RaceAgrees s) : NextMeets (RaceOutcome s) (exec c s) := by
  have untouched (hrace : .race ∉ touches c) (hlanes : .lanes ∉ touches c) (hlamps : .lamps ∉ touches c) :
      NextMeets (RaceOutcome s) (exec c s) :=
    nextMeets_of_touches fun t ht => (raceOutcome_same (s := s) rfl rfl rfl).of_parts (ht .lanes hlanes) (ht .race hrace) (ht .lamps hlamps)
  cases c with
  | edgeConfirmed n high => exact execEdgeConfirmed_raceOutcome n high agrees
  | backupWindowExpiry n => exact execBackupWindowExpiry_raceOutcome n agrees
  | loadEvent => exact raceOutcome_request agrees fun f _ h => actLoadEvent_raceOutcome f h
  | setLane => exact raceOutcome_request agrees fun f _ h => actSetLane_raceOutcome f h
  | setRecord => exact raceOutcome_request agrees fun f _ _ => actSetRecord_raceOutcome f
  | clearRace => exact raceOutcome_request agrees fun f _ h => actClearRace_raceOutcome f h
  | arm => exact raceOutcome_request agrees fun f _ h => actArm_raceOutcome f h
  | recallRace => exact raceOutcome_request agrees fun f _ h => actRecall_raceOutcome f h
  | stopRace => exact raceOutcome_request agrees fun f _ h => actStop_raceOutcome f h
  | close => exact raceOutcome_request agrees fun f _ _ => actClose_raceOutcome f
  | adjustLengthPlusOne => exact raceOutcome_request agrees fun f _ h => actAdjustPlus_raceOutcome f h
  | adjustLengthMinusOne => exact raceOutcome_request agrees fun f _ h => actAdjustMinus_raceOutcome f h
  | adjudicate => exact raceOutcome_request agrees fun f _ h => actAdjudicate_raceOutcome f h
  | declareDns => exact raceOutcome_request agrees fun f _ h => actDeclare_raceOutcome (fun _ => raceMove_declareDnsLane) f h
  | declareDnf => exact raceOutcome_request agrees fun f _ h => actDeclare_raceOutcome (fun _ => raceMove_declareDnfLane) f h
  | declareDq =>
    exact raceOutcome_request agrees fun f _ h => actDeclare_raceOutcome (fun _ hn _ _ => raceMove_declareDqLane hn) f h
  | declareReinstate =>
    exact raceOutcome_request agrees fun f _ h => actDeclare_raceOutcome (fun _ hn _ _ => raceMove_declareReinstateLane hn) f h
  | pulseExpiry f => exact exec_lamps_raceOutcome (.inl ⟨f, rfl⟩)
  | extendedExpiry f => exact exec_lamps_raceOutcome (.inr (.inl ⟨f, rfl⟩))
  | offDelayExpiry n => exact exec_lamps_raceOutcome (.inr (.inr ⟨n, rfl⟩))
  | clockLimit =>
    change NextMeets _ (execClockLimit s)
    unfold execClockLimit
    split <;> refine (nextMeets_next _ _).mpr ?_
    · rw [handAlarm_eq]
      exact raceOutcome_same rfl rfl rfl
    · exact raceOutcome_same rfl rfl rfl
  | powerOn p => exact (nextMeets_next _ _).mpr (.inr (fieldEmpty_powerOn p s))
  | resetTakesEffect =>
    change NextMeets _ (execResetTakesEffect s)
    unfold execResetTakesEffect
    split
    · exact (nextMeets_next _ _).mpr (.inr (fieldEmpty_powerOn _ s))
    · exact (nextMeets_next _ _).mpr (raceOutcome_same rfl rfl rfl)
  | _ => exact untouched (by simp [touches]) (by simp [touches]) (by simp [touches])

/-- Every step moves the lanes as `LaneChange` allows, or leaves the field empty. -/
theorem step_raceOutcome {t : State} (agrees : RaceAgrees s) (h : step s = .next t) : RaceOutcome s t := by
  unfold step at h
  split at h
  · next c rest _ =>
    exact (exec_raceOutcome c (s := { s with pending := rest }) (agrees.of_parts rfl rfl) t h).from_ rfl rfl rfl
  · split at h
    · next c _ => exact (exec_raceOutcome c (s := takeDue c s) (agrees.of_parts rfl rfl) t h).from_ rfl rfl rfl
    · cases h
      exact raceOutcome_same rfl rfl rfl

end

end Sys2Proof.Machine
end

section
/-!
The agreement of race and lane states, the order of the split lists, the ranking and the lag samples (R25, R57, R84, R108), kept by
every step.
-/
namespace Sys2Proof.Machine

section
variable {e : EventDesc} {r : RaceState} {l m : Lane}

/-! ## The agreement of race and lane states (sections 2.3 and 2.4) -/

theorem LaneAgrees.of_core (h : LaneAgrees r l) (core : m.core = l.core) : LaneAgrees r m := by
  refine ⟨?_, ?_, ?_⟩
  · rw [core_state core]
    exact h.fits
  · rw [core_state core, core_stateAtArm core]
    exact h.atArm
  · rw [core_state core, core_pad core, core_presses core]
    exact h.evidence

/-- A lane under way swims in a running race only. -/
theorem LaneAgrees.running (h : LaneAgrees r l) (swims : l.state = .swimming ∨ l.state = .finishing) : r = .running := by
  have fits := h.fits
  rcases swims with s | s <;> cases r <;> simp_all [laneStateFits]

/-- Before the START no lane is resolved. -/
theorem LaneAgrees.unresolved (h : LaneAgrees r l) (race : r = .loaded ∨ r = .armed) :
    ¬ (l.state = .finished ∨ l.state = .review) := by
  have fits := h.fits
  rcases race with rfl | rfl <;> intro placed <;> rcases placed with s | s <;> simp [s, laneStateFits] at fits

/-- A lane goes to a state that is not FINISHING. -/
theorem LaneAgrees.to (h : LaneAgrees r l) {r' : RaceState} (fits : laneStateFits r' m.state = true) (open_ : m.state ≠ .finishing)
    (atArm : r' = .armed ∨ r' = .running → (r = .armed ∨ r = .running) ∧ l.state ≠ .vacant ∧ m.stateAtArm = l.stateAtArm) :
    LaneAgrees r' m := by
  refine ⟨fits, fun race _ => ?_, fun finishing => absurd finishing open_⟩
  obtain ⟨before, used, same⟩ := atArm race
  rw [same]
  exact h.atArm before used

theorem withEvidence_given (ev : Evidence) (button : Option Nat) (l : Lane) :
    (l.withEvidence ev button).pad.isSome = true ∨ (l.withEvidence ev button).presses ≠ [] := by
  cases button with
  | none => exact .inl rfl
  | some b =>
    refine .inr ?_
    have made : (l.withEvidence ev (some b)) = l.setPress b ev := rfl
    rw [made]
    unfold Lane.setPress
    split <;> simp [Lane.presses]

theorem withEvidence_stateAtArm (ev : Evidence) (button : Option Nat) (l : Lane) :
    (l.withEvidence ev button).stateAtArm = l.stateAtArm := by
  refine withEvidence_keeps Lane.stateAtArm (fun _ _ => rfl) (fun b x k => ?_) ev button l
  unfold Lane.setPress
  split <;> rfl

theorem atArm_agrees (far : FarTiming) (loaded dive : Bool) (h : LaneAgrees .loaded l) :
    LaneAgrees .armed (l.atArm far loaded dive) := by
  have fits := h.fits
  unfold Lane.atArm
  split
  · exact ⟨rfl, fun _ _ => .inl rfl, fun h => by cases h⟩
  · next ready =>
    split
    · next dns => exact ⟨by simp [Lane.emptied, dns, laneStateFits], fun _ _ => .inr rfl, fun h => by simp [Lane.emptied, dns] at h⟩
    · next dns =>
      have vacant : l.state = .vacant := by simpa [laneStateFits, ready, dns] using fits
      exact ⟨by simp [Lane.emptied, vacant, laneStateFits], fun _ used => absurd vacant used,
        fun h => by simp [Lane.emptied, vacant] at h⟩

theorem recalledArmed_agrees (h : LaneAgrees .armed l) : LaneAgrees .loaded l.recalledArmed := by
  have fits := h.fits
  have state : l.recalledArmed.state = .vacant ∨ l.recalledArmed.state = .ready ∨ l.recalledArmed.state = .dns := by
    rw [recalledArmed_state]
    split
    · simp
    · have known : l.state = .vacant ∨ l.state = .set ∨ l.state = .dns := by simpa [laneStateFits] using fits
      tauto
  exact ⟨by rcases state with s | s | s <;> simp [s, laneStateFits], by simp,
    fun h => by rcases state with s | s | s <;> simp [s] at h⟩

theorem recallRunning_agrees (h : LaneAgrees .running l) : LaneAgrees .loaded l.recallRunning := by
  have state := recallRunning_fits h
  exact ⟨by rcases state with s | s | s <;> simp [s, laneStateFits], by simp,
    fun h => by rcases state with s | s | s <;> simp [s] at h⟩

theorem started_agrees (start now : Tick) (h : LaneAgrees .armed l) : LaneAgrees .running (l.started e start now) := by
  refine LaneAgrees.of_core (l := if l.state = .set then l.toState .swimming else l) ?_ (started_core e start now l)
  have fits := h.fits
  split
  · next set => exact ⟨rfl, fun _ _ => h.atArm (.inl rfl) (by simp [set]), fun h => by simp [Lane.toState] at h⟩
  · next set =>
    refine ⟨?_, fun _ => h.atArm (.inl rfl), h.evidence⟩
    simp only [laneStateFits, decide_eq_true_eq] at fits ⊢
    rcases fits with f | f | f <;> simp_all

/-- Every change keeps the agreement of race and lane states. -/
theorem laneAgrees_keeps (v w : LaneView) (change : LaneChange e v w) (h : LaneAgrees v.race v.lane) : LaneAgrees w.race w.lane := by
  cases change with
  | besides same => exact h.of_core same
  | timed swims _ =>
    exact h.to (by rw [appended_state]; exact h.fits) (by simp [appended_state, swims])
      fun race => ⟨race, by simp [swims], appended_stateAtArm ..⟩
  | untimed swims _ =>
    exact h.to (by rw [appended_state]; exact h.fits) (by simp [appended_state, swims])
      fun race => ⟨race, by simp [swims], appended_stateAtArm ..⟩
  | @evidence r l _ ev button takes _ =>
    have running : r = .running := h.running (takes.elim .inr fun h => .inl h.1)
    have state : ((l.toState .finishing).withEvidence ev button).state = .finishing := withEvidence_state ..
    refine ⟨by rw [state, running]; rfl, fun race _ => ?_, fun _ => withEvidence_given ..⟩
    rw [withEvidence_stateAtArm]
    exact h.atArm race (by rcases takes with s | s <;> simp [s])
  | @resolved r l _ lag x finishing decides =>
    have running : r = .running := h.running (.inr finishing)
    have state : (l.resolved e lag x).state = .finished ∨ (l.resolved e lag x).state = .review := decideFinish_state decides
    exact h.to (by rw [running]; rcases state with s | s <;> simp [s, laneStateFits]) (by rcases state with s | s <;> simp [s])
      fun race => ⟨race, by simp [finishing], rfl⟩
  | removed swims =>
    exact h.to h.fits (by simp [Lane.removeTail, swims]) fun race => ⟨race, by simp [swims], rfl⟩
  | @ruled r l _ ev src stands _ =>
    have fits := h.fits
    refine h.to (m := l.ruled ev src) ?_ (by simp [Lane.ruled, Lane.toState]) fun race => ⟨race, by rcases stands with s | s <;> simp [s], rfl⟩
    rcases stands with s | s <;> cases r <;> simp_all [laneStateFits, Lane.ruled, Lane.toState]
  | @left r l _ new takes allowed =>
    refine h.to (m := l.toState new) ?_ ?_ fun race => ⟨race, by rcases takes with s | s | s <;> simp [s], rfl⟩
    · rcases allowed with ⟨rfl, rfl | rfl | rfl⟩ | ⟨rfl, rfl⟩ <;> rfl
    · rcases allowed with ⟨rfl, -⟩ | ⟨rfl, -⟩ <;> simp [Lane.toState]
  | @used l _ new takes allowed =>
    refine h.to (m := l.toState new) ?_ ?_ (by simp)
    · rcases allowed with rfl | rfl <;> rfl
    · rcases allowed with rfl | rfl <;> simp [Lane.toState]
  | armed far loaded dive => exact atArm_agrees far loaded dive h
  | started start now => exact started_agrees start now h
  | recalledArmed => exact recalledArmed_agrees h
  | recalledRunning => exact recallRunning_agrees h
  | @ended l _ rests =>
    have fits := h.fits
    have idle := of_decide_eq_false rests
    refine ⟨?_, by simp, h.evidence⟩
    cases s : l.state <;> simp_all [laneStateFits]
  | @closed l _ settled =>
    have fits := h.fits
    refine ⟨?_, by simp, h.evidence⟩
    cases s : l.state <;> simp_all [laneStateFits]

/-! ## The order of the split lists (R57) -/

theorem splitsInOrder_of_core (h : l.splitsInOrder) (core : m.core = l.core) : m.splitsInOrder := by
  rw [Lane.splitsInOrder, core_done core, core_splits core]
  exact h

theorem splitsInOrder_empty (splits : l.splits = []) (done : l.done = 0) : l.splitsInOrder := by
  simp [Lane.splitsInOrder, splits, done]

/-- An entry for the next length joins the tail (R57). -/
theorem splitsInOrder_append {x : Split} (h : l.splitsInOrder) (splits : m.splits = l.splits ++ [x]) (done : m.done = l.done + 1)
    (length : x.length = l.done + 1) : m.splitsInOrder := by
  obtain ⟨count, order⟩ := h
  refine ⟨by simp [splits, done, count], ?_⟩
  rw [splits, List.map_append, order, List.length_append, List.length_singleton, List.range'_concat, List.map_singleton, length, count]
  congr 2
  omega

theorem withEvidence_done (ev : Evidence) (button : Option Nat) (l : Lane) : (l.withEvidence ev button).done = l.done :=
  withEvidence_keeps Lane.done (fun _ _ => rfl) setPress_done ev button l

theorem withEvidence_splits (ev : Evidence) (button : Option Nat) (l : Lane) : (l.withEvidence ev button).splits = l.splits :=
  withEvidence_keeps Lane.splits (fun _ _ => rfl) setPress_splits ev button l

theorem splitsInOrder_of_same (h : l.splitsInOrder) (splits : m.splits = l.splits) (done : m.done = l.done) : m.splitsInOrder := by
  rw [Lane.splitsInOrder, done, splits]
  exact h

theorem removeTail_inOrder (h : l.splitsInOrder) : l.removeTail.splitsInOrder := by
  obtain ⟨count, order⟩ := h
  have splits : l.removeTail.splits = l.splits.dropLast := rfl
  have done : l.removeTail.done = l.done - 1 := rfl
  rw [Lane.splitsInOrder, splits, done]
  refine ⟨by rw [List.length_dropLast, count], ?_⟩
  rw [List.map_dropLast, order, List.length_dropLast]
  cases l.splits.length with
  | zero => rfl
  | succ k => rw [List.range'_concat, List.dropLast_concat, Nat.add_sub_cancel]

theorem adjudicate_splits (ev : Evidence) (src : ResultSource) (l : Lane) : (l.ruled ev src).splits
    = l.splits.map (fun x => if x.kind = .final then { x with time := some ev.time, overMark := ev.overMark } else x) := rfl

theorem ruled_inOrder (ev : Evidence) (src : ResultSource) (h : l.splitsInOrder) : (l.ruled ev src).splitsInOrder := by
  obtain ⟨count, order⟩ := h
  have done : (l.ruled ev src).done = l.done := rfl
  rw [Lane.splitsInOrder, adjudicate_splits, done]
  refine ⟨by rw [List.length_map, count], ?_⟩
  rw [List.map_map, List.length_map, ← order]
  refine List.map_congr_left fun x _ => ?_
  dsimp only [Function.comp]
  split <;> rfl

theorem recalled_inOrder (st : LaneState) (l : Lane) : (l.recalled st).splitsInOrder := splitsInOrder_empty rfl rfl

/-- Every change keeps the split lists in order. -/
theorem splitsInOrder_keeps (v w : LaneView) (change : LaneChange e v w) (h : v.lane.splitsInOrder) : w.lane.splitsInOrder := by
  cases change with
  | besides same => exact splitsInOrder_of_core h same
  | timed | untimed => exact splitsInOrder_append h (appended_splits ..) (Lane.appended_done ..) rfl
  | evidence => exact splitsInOrder_of_same h (withEvidence_splits ..) (withEvidence_done ..)
  | resolved => exact splitsInOrder_append h rfl rfl rfl
  | removed => exact removeTail_inOrder h
  | ruled => exact ruled_inOrder _ _ h
  | left | used | ended | closed => exact h
  | armed =>
    unfold Lane.atArm
    (repeat' split) <;> exact splitsInOrder_empty rfl rfl
  | @started l =>
    refine splitsInOrder_of_core (l := if l.state = .set then l.toState .swimming else l) ?_ (started_core ..)
    split <;> exact h
  | recalledArmed =>
    unfold Lane.recalledArmed
    split
    · exact h
    · exact recalled_inOrder _ _
  | recalledRunning =>
    unfold Lane.recallRunning
    split
    · exact h
    · exact recalled_inOrder _ _

/-! ## The lag samples (R84) -/

/-- The samples of a lane: one at most, of a lane that has been resolved, no greater than the disagreement limit (R84). -/
structure SamplesRight (e : EventDesc) (v : LaneView) : Prop where
  once : v.samples.length ≤ 1
  resolved : v.samples ≠ [] → v.lane.state = .finished ∨ v.lane.state = .review
  bounded : ∀ x ∈ v.samples, x ≤ e.disagreement

theorem SamplesRight.none_ {v : LaneView} (h : SamplesRight e v) (open_ : ¬ (v.lane.state = .finished ∨ v.lane.state = .review)) :
    v.samples = [] := by
  by_contra some_
  exact open_ (h.resolved some_)

theorem samplesRight_empty {v : LaneView} (h : v.samples = []) : SamplesRight e v := by
  constructor <;> simp [h]

theorem SamplesRight.of_state {v w : LaneView} (h : SamplesRight e v) (samples : w.samples = v.samples)
    (state : w.lane.state = v.lane.state) : SamplesRight e w := by
  refine ⟨?_, ?_, ?_⟩
  · rw [samples]
    exact h.once
  · rw [samples, state]
    exact h.resolved
  · rw [samples]
    exact h.bounded

/-- A sample is no greater than the disagreement limit (R84, R87). -/
theorem decideFinish_sample {c k : Option Nat} {x : Decision} (h : decideFinish e l c k = some x) :
    ∀ d ∈ x.sample.toList, d ≤ e.disagreement := by
  unfold decideFinish at h
  split at h
  · dsimp only at h
    split at h
    · next bound =>
      cases h
      intro d hd
      simp only [Option.toList_some, List.mem_singleton] at hd
      omega
    split at h
    · cases h
      simp
    split at h <;> (cases h; simp)
  · cases h
    simp
  · cases h
    simp
  · cases h

/-- Every change keeps the samples right. -/
theorem samplesRight_keeps (v w : LaneView) (change : LaneChange e v w) (h : LaneAgrees v.race v.lane ∧ SamplesRight e v) :
    LaneAgrees w.race w.lane ∧ SamplesRight e w := by
  refine ⟨laneAgrees_keeps v w change h.1, ?_⟩
  obtain ⟨agrees, samples⟩ := h
  cases change with
  | besides same => exact samples.of_state rfl (core_state same)
  | timed | untimed => exact samples.of_state rfl (appended_state ..)
  | evidence takes =>
    exact samplesRight_empty (samples.none_ (by rcases takes with s | s <;> simp [s]))
  | @resolved r l d lag x finishing decides =>
    have fresh : d = [] := samples.none_ (by simp [finishing])
    have all : d ++ x.sample.toList = x.sample.toList := by rw [fresh, List.nil_append]
    refine ⟨?_, fun _ => decideFinish_state decides, ?_⟩
    · change (d ++ x.sample.toList).length ≤ 1
      rw [all]
      cases x.sample <;> simp
    · change ∀ y ∈ d ++ x.sample.toList, _
      rw [all]
      exact decideFinish_sample decides
  | removed => exact samples.of_state rfl rfl
  | ruled => exact ⟨samples.once, fun _ => .inl rfl, samples.bounded⟩
  | left takes => exact samplesRight_empty (samples.none_ (by rcases takes with s | s | s <;> simp [s]))
  | used takes => exact samplesRight_empty (samples.none_ (by rcases takes with s | s <;> simp [s]))
  | armed => exact samplesRight_empty (samples.none_ (agrees.unresolved (.inl rfl)))
  | started | recalledArmed => exact samplesRight_empty (samples.none_ (agrees.unresolved (.inr rfl)))
  | recalledRunning => exact samplesRight_empty rfl
  | ended | closed => exact samples.of_state rfl rfl

end

/-! ## The invariants, told by lane numbers -/

section
variable {s t : State}

theorem count_lane (n : Nat) (xs : List LagSample) :
    List.count n (xs.map (·.lane)) = (xs.filter (fun x => decide (x.lane = n))).length := by
  rw [List.count_eq_length_filter, List.filter_map, List.length_map]
  refine congrArg List.length (List.filter_congr fun x _ => ?_)
  simp [beq_eq_decide]

theorem lagsRight_iff (s : State) : LagsRight s ↔ ∀ n, SamplesRight s.event (s.view n) := by
  have mem (n d : Nat) : d ∈ s.samplesFor n ↔ (⟨n, d⟩ : LagSample) ∈ s.race.lags := by
    simp only [State.samplesFor, List.mem_map, List.mem_filter, decide_eq_true_eq]
    refine ⟨fun ⟨x, ⟨hx, lane⟩, delta⟩ => ?_, fun h => ⟨_, ⟨h, rfl⟩, rfl⟩⟩
    rw [← lane, ← delta]
    exact hx
  have length (n : Nat) : (s.samplesFor n).length = List.count n (s.race.lags.map (·.lane)) := by
    rw [count_lane, State.samplesFor, List.length_map]
  refine ⟨fun ⟨once, resolved, bounded⟩ n => ⟨?_, fun some_ => ?_, fun d hd => ?_⟩, fun h => ⟨?_, fun x hx => ?_, fun x hx => ?_⟩⟩
  · exact (length n).trans_le (List.nodup_iff_count_le_one.mp once n)
  · obtain ⟨d, hd⟩ := List.exists_mem_of_ne_nil _ some_
    exact resolved _ ((mem n d).mp hd)
  · exact bounded _ ((mem n d).mp hd)
  · exact List.nodup_iff_count_le_one.mpr fun n => (length n).symm.trans_le (h n).once
  · exact (h x.lane).resolved (List.ne_nil_of_mem ((mem x.lane x.delta).mpr hx))
  · exact (h x.lane).bounded _ ((mem x.lane x.delta).mpr hx)

/-- What the changes of the views keep lane by lane, and blank lanes meet, holds behind an outcome. -/
theorem RaceOutcome.keeps {P : EventDesc → LaneView → Prop} (h : RaceOutcome s t) (change : ∀ e v w, LaneChange e v w → P e v → P e w)
    (blank : FieldEmpty t → ∀ n, P t.event (t.view n)) (hs : ∀ n, P s.event (s.view n)) (n : Nat) : P t.event (t.view n) := by
  rcases h with move | empty
  · rw [move.event]
    exact LaneMoves.keeps (change s.event) (move.views n) (hs n)
  · exact blank empty n

theorem RaceOutcome.count (h : RaceOutcome s t) (count : s.lanes.length = 10) : t.lanes.length = 10 :=
  h.elim (fun move => move.count.trans count) fun empty => empty.count

theorem raceOutcome_raceAgrees (h : RaceOutcome s t) (agrees : RaceAgrees s) : RaceAgrees t := by
  obtain ⟨count, lanes⟩ := (raceAgrees_iff s).mp agrees
  refine (raceAgrees_iff t).mpr ⟨h.count count, h.keeps (P := fun _ v => LaneAgrees v.race v.lane) (fun _ => laneAgrees_keeps) ?_ lanes⟩
  intro empty n
  have lane : (t.view n).lane = Lane.blank := empty.lane n
  rw [lane]
  exact laneAgrees_blank _

theorem splitsInOrder_iff (s : State) : SplitsInOrder s ↔ ∀ n, (s.lane n).splitsInOrder :=
  forall_lanes (splitsInOrder_empty rfl rfl)

theorem raceOutcome_splitsInOrder (h : RaceOutcome s t) (order : SplitsInOrder s) : SplitsInOrder t := by
  refine (splitsInOrder_iff t).mpr (h.keeps (P := fun _ v => v.lane.splitsInOrder) (fun _ => splitsInOrder_keeps) ?_
    ((splitsInOrder_iff s).mp order))
  intro empty n
  have lane : (t.view n).lane = Lane.blank := empty.lane n
  rw [lane]
  exact splitsInOrder_empty rfl rfl

theorem FieldEmpty.ranks (h : FieldEmpty t) : Ranks t := by
  have standing : Lane.blank.standing = none := unplaced_standing (by simp [Lane.blank])
  refine ⟨(placesRight_iff t).mpr fun l hl => ?_, (rankingRight_iff t).mpr ?_⟩
  · rw [h.lanes l hl, standing]
    rfl
  · rw [h.ranking]
    refine ⟨fun n => ⟨fun h => (by cases h), fun ⟨_, placed⟩ => ?_⟩, .nil⟩
    rw [h.lane n] at placed
    exact absurd placed (standing_eq_none.mp standing)

theorem raceOutcome_lagsRight (h : RaceOutcome s t) (agrees : RaceAgrees s) (lags : LagsRight s) : LagsRight t := by
  obtain ⟨-, lanes⟩ := (raceAgrees_iff s).mp agrees
  refine (lagsRight_iff t).mpr fun n => (h.keeps (P := fun e v => LaneAgrees v.race v.lane ∧ SamplesRight e v)
    (fun _ => samplesRight_keeps) (fun empty n => ?_) (fun n => ⟨lanes n, (lagsRight_iff s).mp lags n⟩) n).2
  have lane : (t.view n).lane = Lane.blank := empty.lane n
  refine ⟨by rw [lane]; exact laneAgrees_blank _, samplesRight_empty ?_⟩
  change t.samplesFor n = []
  rw [State.samplesFor, empty.lags]
  rfl

end

/-- Settles O57: the ranking is recomputed wherever a standing changes, and a lane's sample comes with its resolution only. -/
theorem rankingFollowsTheResults : Obligations.RankingFollowsTheResults := by
  refine ⟨fun s t agrees places table h => ?_, fun s t agrees lags h => raceOutcome_lagsRight (step_raceOutcome agrees h) agrees lags⟩
  rcases step_raceOutcome agrees h with move | empty
  · exact move.ranks ⟨places, table⟩
  · exact empty.ranks

end Sys2Proof.Machine
end

section
/-!
Timed evidence keeps its distance (R60): the one-length limit stands one minimum length time behind every timed entry for each length,
and every time that a change gives a lane is tested against it.
-/
namespace Sys2Proof.Machine

/-! ## Lists of lengths in order -/

/-- The entry at position i stands for length i (R57). -/
abbrev LengthsInOrder (xs : List Split) : Prop := xs.map (·.length) = List.range' 1 xs.length

section
variable {xs ys : List Split} {x y : Split}

theorem LengthsInOrder.ascending (h : LengthsInOrder xs) : xs.Pairwise (fun a b => a.length < b.length) := by
  rw [← List.pairwise_map (f := fun x : Split => x.length) (R := (· < ·)), h]
  exact List.pairwise_lt_range'

theorem LengthsInOrder.bounds (h : LengthsInOrder xs) (hx : x ∈ xs) : 1 ≤ x.length ∧ x.length ≤ xs.length := by
  have mem : x.length ∈ xs.map (·.length) := List.mem_map_of_mem hx
  rw [h, List.mem_range'_1] at mem
  omega

theorem LengthsInOrder.concat (h : LengthsInOrder (xs ++ [x])) : LengthsInOrder xs ∧ x.length = xs.length + 1 := by
  have both : xs.map (·.length) ++ [x.length] = List.range' 1 xs.length ++ [1 + xs.length] := by
    have whole : (xs ++ [x]).map (·.length) = List.range' 1 (xs ++ [x]).length := h
    rwa [List.map_append, List.length_append, List.length_singleton, List.range'_concat, List.map_singleton, Nat.one_mul] at whole
  obtain ⟨front, last⟩ := List.append_inj both (by rw [List.length_map, List.length_range'])
  have length : x.length = 1 + xs.length := List.singleton_inj.mp last
  exact ⟨front, by omega⟩

theorem LengthsInOrder.front (h : LengthsInOrder (xs ++ ys)) : LengthsInOrder xs := by
  induction ys using List.reverseRecOn with
  | nil => rwa [List.append_nil] at h
  | append_singleton ys y ih => exact ih (by rw [← List.append_assoc] at h; exact h.concat.1)

/-- A list has a last TIMED entry, or none. -/
theorem exists_last_timed (xs : List Split) (open_ : ∀ x ∈ xs, x.kind ≠ .final) :
    Untimed xs ∨ ∃ front x run, xs = front ++ [x] ++ run ∧ x.kind = .timed ∧ Untimed run := by
  induction xs using List.reverseRecOn with
  | nil => exact .inl fun _ h => absurd h List.not_mem_nil
  | append_singleton xs y ih =>
    by_cases timed : y.kind = .timed
    · exact .inr ⟨xs, y, [], by simp, timed, fun _ h => absurd h List.not_mem_nil⟩
    · have last : y.kind ≠ .timed ∧ y.kind ≠ .final := ⟨timed, open_ y (by simp)⟩
      rcases ih fun x hx => open_ x (by simp [hx]) with untimed | ⟨front, x, run, split, kind, untimed⟩
      · exact .inl fun z hz => (List.mem_append.mp hz).elim (untimed z) fun h => List.mem_singleton.mp h ▸ last
      · refine .inr ⟨front, x, run ++ [y], by rw [split, List.append_assoc], kind, fun z hz => ?_⟩
        exact (List.mem_append.mp hz).elim (untimed z) fun h => List.mem_singleton.mp h ▸ last

end

/-! ## The limit behind a list that keeps its distance -/

/-- A split list without a FINAL entry whose times keep their distance (R60). -/
structure SpacedList (e : EventDesc) (xs : List Split) : Prop where
  order : LengthsInOrder xs
  open_ : ∀ x ∈ xs, x.kind ≠ .final
  times : ∀ x ∈ xs, x.kind = .timed → x.time ≠ none
  fromStart : ∀ x ∈ xs, ∀ t, x.time = some t → x.length * e.minLength ≤ t
  between : ∀ x ∈ xs, ∀ y ∈ xs, ∀ t u, x.kind = .timed → x.time = some t → y.time = some u →
    x.length < y.length → t + (y.length - x.length) * e.minLength ≤ u

section
variable {e : EventDesc} {l m : Lane} {xs : List Split}

/-- The limit stands as many minimum length times behind the start as there are lengths to it. -/
theorem SpacedList.start_le_limit (h : SpacedList e xs) (list : l.splits = xs) (i : Nat) :
    (xs.length + i) * e.minLength ≤ lengthLimit e l i := by
  rcases exists_last_timed xs h.open_ with untimed | ⟨front, x, run, split, kind, untimed⟩
  · rw [lengthLimit_of_untimed e i (list ▸ untimed), list]
  · have mem : x ∈ xs := by simp [split]
    obtain ⟨t, ht⟩ := Option.ne_none_iff_exists'.mp (h.times x mem kind)
    rw [lengthLimit_of_timed e i (list.trans split) kind ht untimed]
    have length : x.length = front.length + 1 := (LengthsInOrder.front (split ▸ h.order)).concat.2
    have start := h.fromStart x mem t ht
    have count : xs.length + i = x.length + (run.length + i) := by
      rw [split, length]
      simp only [List.length_append, List.length_singleton]
      omega
    rw [count, Nat.add_mul]
    omega

/-- The limit stands as many minimum length times behind a TIMED entry as there are lengths between them. -/
theorem SpacedList.timed_le_limit (h : SpacedList e xs) (list : l.splits = xs) (i : Nat) {x : Split} (hx : x ∈ xs)
    (kind : x.kind = .timed) {t : Nat} (time : x.time = some t) :
    t + (xs.length + i - x.length) * e.minLength ≤ lengthLimit e l i := by
  rcases exists_last_timed xs h.open_ with untimed | ⟨front, y, run, split, last, untimed⟩
  · exact absurd kind (untimed x hx).1
  · have mem : y ∈ xs := by simp [split]
    obtain ⟨u, hu⟩ := Option.ne_none_iff_exists'.mp (h.times y mem last)
    rw [lengthLimit_of_timed e i (list.trans split) last hu untimed]
    have length : y.length = front.length + 1 := (LengthsInOrder.front (split ▸ h.order)).concat.2
    have here : x ∈ front ∨ x = y := by
      rw [split, List.mem_append, List.mem_append, List.mem_singleton] at hx
      exact hx.resolve_right fun later => (untimed x later).1 kind
    have apart : x.length ≤ y.length ∧ t + (y.length - x.length) * e.minLength ≤ u := by
      rcases here with before | rfl
      · have ahead : x.length < y.length :=
          (List.pairwise_append.mp (LengthsInOrder.front (split ▸ h.order)).ascending).2.2 x before y (by simp)
        exact ⟨ahead.le, h.between x hx y mem t u kind time hu ahead⟩
      · have same : t = u := Option.some.inj (time.symm.trans hu)
        simp [same]
    have count : xs.length + i - x.length = (y.length - x.length) + (run.length + i) := by
      rw [split]
      simp only [List.length_append, List.length_singleton]
      omega
    rw [count, Nat.add_mul]
    omega

/-! ## Lanes -/

/-- A lane that is not resolved has no FINAL entry. -/
theorem Lane.spaced.open_ (h : l.spaced e) (unresolved : ¬ (l.state = .finished ∨ l.state = .review)) :
    ∀ x ∈ l.splits, x.kind ≠ .final := fun x hx final => unresolved (h.last x hx final).1

theorem Lane.spaced.list (h : l.spaced e) (order : l.splitsInOrder) (open_ : ∀ x ∈ l.splits, x.kind ≠ .final) :
    SpacedList e l.splits :=
  ⟨order.2, open_, fun x hx kind => (h.timed x hx).mpr (.inl kind), h.fromStart, h.between⟩

/-- A lane that neither finishes nor is resolved holds no evidence. -/
theorem Lane.spaced.bare (h : l.spaced e) (away : ¬ (l.state = .finishing ∨ l.state = .finished ∨ l.state = .review)) :
    l.pad = none ∧ l.candidate = none := by
  constructor
  · cases pad : l.pad with
    | none => rfl
    | some p => exact absurd (h.pad p pad).1 away
  · cases candidate : l.candidate with
    | none => rfl
    | some c => exact absurd (.inr (h.candidate c candidate).1) away

theorem Lane.spaced.of_core (h : l.spaced e) (core : m.core = l.core) : m.spaced e := by
  have splits := core_splits core
  refine ⟨?_, ?_, ?_, ?_, fun p pad => ?_, fun c candidate => ?_⟩
  · rw [splits]
    exact h.fromStart
  · rw [splits]
    exact h.between
  · rw [splits]
    exact h.timed
  · rw [splits, core_state core, core_done core]
    exact h.last
  · rw [core_state core, lengthLimit_of_splits splits]
    exact h.pad p ((core_pad core).symm.trans pad)
  · rw [core_state core, lengthLimit_of_splits splits]
    exact h.candidate c ((core_candidate core).symm.trans candidate)

/-- A lane without evidence and FINAL entry whose entries stand in a list that keeps its distance. -/
theorem spaced_of_sublist (h : l.spaced e) (sub : ∀ x ∈ m.splits, x ∈ l.splits) (open_ : ∀ x ∈ m.splits, x.kind ≠ .final)
    (pad : m.pad = none) (candidate : m.candidate = none) : m.spaced e where
  fromStart x hx := h.fromStart x (sub x hx)
  between x hx y hy := h.between x (sub x hx) y (sub y hy)
  timed x hx := h.timed x (sub x hx)
  last x hx final := absurd final (open_ x hx)
  pad p hp := by rw [pad] at hp; cases hp
  candidate c hc := by rw [candidate] at hc; cases hc

/-- An entry joins the list; its time, where it has one, passes the one-length test (R60). -/
theorem spaced_append {x : Split} (h : l.spaced e) (order : l.splitsInOrder) (open_ : ∀ y ∈ l.splits, y.kind ≠ .final)
    (splits : m.splits = l.splits ++ [x]) (length : x.length = l.done + 1) (timed : x.time ≠ none ↔ x.kind = .timed ∨ x.kind = .final)
    (limit : ∀ t, x.time = some t → lengthLimit e l 1 ≤ t)
    (last : x.kind = .final → (m.state = .finished ∨ m.state = .review) ∧ x.length = m.done)
    (pad : ∀ p, m.pad = some p → (m.state = .finishing ∨ m.state = .finished ∨ m.state = .review) ∧ lengthLimit e m 1 ≤ p.time)
    (candidate : ∀ c, m.candidate = some c → (m.state = .finished ∨ m.state = .review) ∧ lengthLimit e m 1 ≤ c) : m.spaced e := by
  have list := h.list order open_
  have count : l.splits.length + 1 = x.length := by rw [length, order.1]
  have mem (y : Split) (hy : y ∈ m.splits) : y ∈ l.splits ∨ y = x := by simpa [splits] using hy
  refine ⟨fun y hy t ht => ?_, fun y hy z hz t u kind ht hu ahead => ?_, fun y hy => ?_, fun y hy final => ?_, pad, candidate⟩
  · rcases mem y hy with old | rfl
    · exact h.fromStart y old t ht
    · rw [← count]
      exact (list.start_le_limit rfl 1).trans (limit t ht)
  · rcases mem z hz with oldZ | rfl
    · rcases mem y hy with oldY | rfl
      · exact h.between y oldY z oldZ t u kind ht hu ahead
      · have below := LengthsInOrder.bounds order.2 oldZ
        omega
    · rcases mem y hy with oldY | rfl
      · rw [← count]
        exact (list.timed_le_limit rfl 1 oldY kind ht).trans (limit u hu)
      · omega
  · rcases mem y hy with old | rfl
    · exact h.timed y old
    · exact timed
  · rcases mem y hy with old | rfl
    · exact absurd final (open_ y old)
    · exact last final

/-! ## The resolution and the adjudication -/

theorem lengthLimit_final {x : Split} (kind : x.kind = .final) (splits : m.splits = l.splits ++ [x]) (i : Nat) :
    lengthLimit e m i = lengthLimit e l i := by
  have same : beforeFinal m.splits = beforeFinal l.splits := by rw [splits]; simp [beforeFinal, kind]
  rw [lengthLimit, same, lengthLimit]

theorem backup_limit {lag c : Nat} (h : l.backup e lag = some c) : lengthLimit e l 1 ≤ c := by
  obtain ⟨x, -, rfl⟩ := Option.map_eq_some_iff.mp h
  unfold candidateOf
  omega

/-- A result is the pad evidence's or the backup candidate's time (R87). -/
theorem decideFinish_result {lag : Nat} {x : Decision} (decides : decideFinish e l l.agreed (l.backup e lag) = some x) :
    (∃ p, l.pad = some p ∧ x.result = p.time) ∨ l.backup e lag = some x.result := by
  unfold decideFinish at decides
  split at decides
  · next p c pad _ =>
    dsimp only at decides
    refine .inl ⟨p, pad, ?_⟩
    (repeat' split at decides) <;> (cases decides; rfl)
  · next p pad _ =>
    cases decides
    exact .inl ⟨p, pad, rfl⟩
  · next c _ agreed =>
    cases decides
    refine .inr ?_
    rw [Lane.backup, agreed]
    rfl
  · cases decides

theorem resolved_spaced {lag : Nat} {x : Decision} (h : l.spaced e) (order : l.splitsInOrder) (finishing : l.state = .finishing)
    (decides : decideFinish e l l.agreed (l.backup e lag) = some x) : (l.resolved e lag x).spaced e := by
  have state : (l.resolved e lag x).state = .finished ∨ (l.resolved e lag x).state = .review := decideFinish_state decides
  have same : lengthLimit e (l.resolved e lag x) 1 = lengthLimit e l 1 := lengthLimit_final (x := timedEntry (l.done + 1) .final
    { time := x.result, overMark := x.overMark }) rfl rfl 1
  refine spaced_append h order (h.open_ (by simp [finishing])) (x := timedEntry (l.done + 1) .final
    { time := x.result, overMark := x.overMark }) rfl rfl (by simp [timedEntry]) (fun t ht => ?_) (fun _ => ⟨state, rfl⟩)
    (fun p pad => ?_) (fun c candidate => ?_)
  · cases ht
    rcases decideFinish_result decides with ⟨p, pad, result⟩ | candidate
    · rw [result]
      exact (h.pad p pad).2
    · exact backup_limit candidate
  · rw [same]
    exact ⟨.inr state, (h.pad p pad).2⟩
  · rw [same]
    exact ⟨state, backup_limit candidate⟩

/-- A resolved lane's FINAL entry stands last, behind the list without it. -/
theorem Lane.spaced.final_last (h : l.spaced e) (order : l.splitsInOrder) {x : Split} (hx : x ∈ l.splits) (final : x.kind = .final) :
    ∃ front, l.splits = front ++ [x] ∧ LengthsInOrder front ∧ x.length = front.length + 1 ∧ ∀ y ∈ front, y.kind ≠ .final := by
  obtain ⟨count, inOrder⟩ := order
  have nonempty : l.splits ≠ [] := List.ne_nil_of_mem hx
  obtain ⟨front, last, split⟩ : ∃ front last, l.splits = front ++ [last] := ⟨_, _, (List.dropLast_append_getLast nonempty).symm⟩
  have both : LengthsInOrder (front ++ [last]) := split ▸ inOrder
  obtain ⟨ordered, length⟩ := both.concat
  have done : l.done = front.length + 1 := by rw [count, split]; simp
  have apart (y : Split) (hy : y ∈ front) : y.kind ≠ .final := fun yFinal => by
    have at_ := (h.last y (by simp [split, hy]) yFinal).2
    have below := ordered.bounds hy
    omega
  have same : x = last := by
    have mem : x ∈ front ∨ x = last := by simpa [split] using hx
    exact mem.resolve_left fun before => apart x before final
  subst same
  exact ⟨front, split, ordered, length, apart⟩

theorem ruled_spaced {ev : Evidence} (src : ResultSource) (h : l.spaced e) (order : l.splitsInOrder)
    (source : l.pad = some ev ∨ l.candidate = some ev.time ∨ lengthLimit e l 1 ≤ ev.time) : (l.ruled ev src).spaced e := by
  have limit : lengthLimit e l 1 ≤ ev.time := by
    rcases source with pad | candidate | manual
    · exact (h.pad ev pad).2
    · exact (h.candidate _ candidate).2
    · exact manual
  by_cases some_ : ∃ x ∈ l.splits, x.kind = .final
  · obtain ⟨x, hx, final⟩ := some_
    obtain ⟨front, split, ordered, length, apart⟩ := h.final_last order hx final
    -- The lane without its FINAL entry; the new time joins it as the old one did.
    have before : ({ l with splits := front, done := front.length, pad := none, candidate := none } : Lane).spaced e :=
      spaced_of_sublist h (fun y hy => by simp [split, show y ∈ front from hy]) apart rfl rfl
    have ruled : (l.ruled ev src).splits = front ++ [{ x with time := some ev.time, overMark := ev.overMark }] := by
      rw [adjudicate_splits, split, List.map_append, List.map_singleton, if_pos final]
      congr 1
      refine (List.map_congr_left fun y hy => ?_).trans (List.map_id front)
      exact if_neg (apart y hy)
    have limits : lengthLimit e ({ l with splits := front, done := front.length, pad := none, candidate := none } : Lane) 1
        = lengthLimit e l 1 := (lengthLimit_final final split 1).symm
    have after : lengthLimit e (l.ruled ev src) 1 = lengthLimit e l 1 :=
      (lengthLimit_final (l := { l with splits := front, done := front.length, pad := none, candidate := none })
        (by exact final) ruled 1).trans limits
    refine spaced_append before ⟨rfl, ordered⟩ apart ruled length (by simp [final]) (fun t ht => ?_) (fun _ => ⟨.inl rfl, ?_⟩)
      (fun p pad => ?_) (fun c candidate => ?_)
    · cases ht
      rw [limits]
      exact limit
    · exact (h.last x hx final).2
    · rw [after]
      exact ⟨.inr (.inl rfl), (h.pad p pad).2⟩
    · rw [after]
      exact ⟨.inl rfl, (h.candidate c candidate).2⟩
  · have same : (l.ruled ev src).splits = l.splits := by
      rw [adjudicate_splits]
      refine (List.map_congr_left fun y hy => ?_).trans (List.map_id l.splits)
      exact if_neg fun final => some_ ⟨y, hy, final⟩
    refine ⟨?_, ?_, ?_, fun x hx final => ?_, fun p pad => ?_, fun c candidate => ?_⟩
    · rw [same]
      exact h.fromStart
    · rw [same]
      exact h.between
    · rw [same]
      exact h.timed
    · rw [same] at hx
      exact absurd ⟨x, hx, final⟩ some_
    · rw [lengthLimit_of_splits same]
      exact ⟨.inr (.inl rfl), (h.pad p pad).2⟩
    · rw [lengthLimit_of_splits same]
      exact ⟨.inl rfl, (h.candidate c candidate).2⟩

/-! ## Every change -/

/-- A lane that neither finishes nor is resolved, before and behind a change that leaves its list and its evidence. -/
theorem Lane.spaced.keeps_bare (h : l.spaced e) (away : ¬ (l.state = .finishing ∨ l.state = .finished ∨ l.state = .review))
    (splits : m.splits = l.splits ∨ m.splits = []) (pad : m.pad = l.pad) (candidate : m.candidate = l.candidate) : m.spaced e := by
  obtain ⟨noPad, noCandidate⟩ := h.bare away
  have open_ := h.open_ fun resolved => away (.inr resolved)
  have sub (x : Split) (hx : x ∈ m.splits) : x ∈ l.splits := by
    rcases splits with same | none_
    · rwa [same] at hx
    · rw [none_] at hx
      cases hx
  exact spaced_of_sublist h sub (fun x hx => open_ x (sub x hx)) (pad.trans noPad) (candidate.trans noCandidate)

theorem evidence_spaced {ev : Evidence} {button : Option Nat} (h : l.spaced e)
    (takes : l.state = .finishing ∨ l.state = .swimming) (limit : button = none → passes e l 1 ev.time = true) :
    ((l.toState .finishing).withEvidence ev button).spaced e := by
  have splits : ((l.toState .finishing).withEvidence ev button).splits = l.splits := withEvidence_splits ..
  have state : ((l.toState .finishing).withEvidence ev button).state = .finishing := withEvidence_state ..
  have unresolved : ¬ (l.state = .finished ∨ l.state = .review) := by rcases takes with s | s <;> simp [s]
  have open_ := h.open_ unresolved
  have candidate : ((l.toState .finishing).withEvidence ev button).candidate = l.candidate := by
    refine withEvidence_keeps Lane.candidate (fun _ _ => rfl) (fun b x k => ?_) ev button _
    unfold Lane.setPress
    split <;> rfl
  refine ⟨?_, ?_, ?_, ?_, fun p pad => ?_, fun c some_ => ?_⟩
  · rw [splits]
    exact h.fromStart
  · rw [splits]
    exact h.between
  · rw [splits]
    exact h.timed
  · rw [splits]
    exact fun x hx final => absurd final (open_ x hx)
  · rw [lengthLimit_of_splits splits]
    refine ⟨.inl state, ?_⟩
    cases button with
    | none =>
      cases pad
      exact of_decide_eq_true (limit rfl)
    | some b =>
      have kept : ((l.toState .finishing).withEvidence ev (some b)).pad = l.pad := setPress_pad b ev _
      exact (h.pad p (kept.symm.trans pad)).2
  · exact absurd (h.candidate c (candidate.symm.trans some_)).1 unresolved

/-- What the distance of the timed evidence rests on (R23, R57, R60). -/
structure ViewSpaced (e : EventDesc) (v : LaneView) : Prop where
  agrees : LaneAgrees v.race v.lane
  order : v.lane.splitsInOrder
  spaced : v.lane.spaced e

/-- Every change keeps the distance. -/
theorem spaced_keeps (v w : LaneView) (change : LaneChange e v w) (hv : ViewSpaced e v) : w.lane.spaced e := by
  obtain ⟨agrees, order, h⟩ := hv
  have early (race : v.race = .loaded ∨ v.race = .armed) :
      ¬ (v.lane.state = .finishing ∨ v.lane.state = .finished ∨ v.lane.state = .review) := by
    rintro (finishing | resolved)
    · have running := agrees.running (.inr finishing)
      rcases race with r | r <;> simp [r] at running
    · exact agrees.unresolved race resolved
  cases change with
  | besides same => exact h.of_core same
  | @timed _ l _ t mark swims limit =>
    obtain ⟨pad, candidate⟩ := h.bare (by simp [swims])
    refine spaced_append h order (h.open_ (by simp [swims])) (appended_splits ..) rfl (by simp [nextEntry]) (fun u hu => ?_)
      (fun final => by cases final) (fun p some_ => ?_) (fun c some_ => ?_)
    · cases hu
      exact of_decide_eq_true limit
    · rw [appended_pad, pad] at some_
      cases some_
    · rw [appended_candidate, candidate] at some_
      cases some_
  | @untimed _ l _ k mark swims kind =>
    obtain ⟨pad, candidate⟩ := h.bare (by simp [swims])
    refine spaced_append h order (h.open_ (by simp [swims])) (appended_splits ..) rfl ?_ (fun u hu => by cases hu)
      (fun final => absurd final kind.not_final) (fun p some_ => ?_) (fun c some_ => ?_)
    · simp [nextEntry, kind.not_timed, kind.not_final]
    · rw [appended_pad, pad] at some_
      cases some_
    · rw [appended_candidate, candidate] at some_
      cases some_
  | evidence takes limit => exact evidence_spaced h (takes.imp id fun h => h.1) limit
  | resolved finishing decides => exact resolved_spaced h order finishing decides
  | @removed _ l _ swims =>
    obtain ⟨pad, candidate⟩ := h.bare (by simp [swims])
    have sub (x : Split) (hx : x ∈ l.removeTail.splits) : x ∈ l.splits := List.dropLast_subset _ hx
    exact spaced_of_sublist h sub (fun x hx => h.open_ (by simp [swims]) x (sub x hx)) pad candidate
  | ruled _ source => exact ruled_spaced _ h order source
  | left takes => exact h.keeps_bare (by rcases takes with s | s | s <;> simp [s]) (.inl rfl) rfl rfl
  | used takes => exact h.keeps_bare (by rcases takes with s | s <;> simp [s]) (.inl rfl) rfl rfl
  | armed =>
    refine h.keeps_bare (early (.inl rfl)) (.inr ?_) ?_ ?_ <;> unfold Lane.atArm <;> (repeat' split) <;> rfl
  | @started l =>
    refine Lane.spaced.of_core (l := if l.state = .set then l.toState .swimming else l) ?_ (started_core ..)
    split
    · exact h.keeps_bare (early (.inr rfl)) (.inl rfl) rfl rfl
    · exact h
  | recalledArmed =>
    unfold Lane.recalledArmed
    split
    · exact h
    · exact spaced_of_sublist h (by simp [Lane.recalled, Lane.blank]) (by simp [Lane.recalled, Lane.blank]) rfl rfl
  | recalledRunning =>
    unfold Lane.recallRunning
    split
    · exact h
    · exact spaced_of_sublist h (by simp [Lane.recalled, Lane.blank]) (by simp [Lane.recalled, Lane.blank]) rfl rfl
  | ended | closed => exact h

end

theorem spaced_blank (e : EventDesc) : Lane.blank.spaced e := by
  constructor <;> simp [Lane.blank]

/-- Settles O60: every change that a step can make to a lane keeps the distance of its timed evidence. -/
theorem timedEvidenceKeepsItsDistance : Obligations.TimedEvidenceKeepsItsDistance := by
  intro s t agrees order spaced h
  have lanes := ((raceAgrees_iff s).mp agrees).2
  have inOrder := (splitsInOrder_iff s).mp order
  have apart := (forall_lanes (spaced_blank s.event)).mp spaced
  refine (forall_lanes (spaced_blank t.event)).mpr fun n => ?_
  refine ((step_raceOutcome agrees h).keeps (P := ViewSpaced) (fun e v w change view =>
    ⟨laneAgrees_keeps v w change view.agrees, splitsInOrder_keeps v w change view.order, spaced_keeps v w change view⟩)
    (fun empty m => ?_) (fun m => ⟨lanes m, inOrder m, apart m⟩) n).spaced
  have lane : (t.view m).lane = Lane.blank := empty.lane m
  refine ⟨?_, ?_, ?_⟩
  · rw [lane]
    exact laneAgrees_blank _
  · rw [lane]
    exact splitsInOrder_empty rfl rfl
  · rw [lane]
    exact spaced_blank _

end Sys2Proof.Machine
end

section
/-!
The lists of a fixed length (R4, R22, R159) keep it through every step.
-/
namespace Sys2Proof.Machine

/-! ## The split holds -/

/-- The number of split holds. -/
def Board.holdCount (b : Board) : Nat := b.holds.length

@[simp] theorem marked_holdCount (r : Nat) (b : Board) : (b.marked r).holdCount = b.holdCount :=
  congrArg List.length (Board.marked_holds r b)

@[simp] theorem markedAll_holdCount (rs : List Nat) (b : Board) : (b.markedAll rs).holdCount = b.holdCount :=
  congrArg List.length (Board.markedAll_holds rs b)

@[simp] theorem released_holdCount (b : Board) : b.released.holdCount = b.holdCount := rfl

@[simp] theorem completeBoard_holdCount (x : Sending) (b : Board) : (completeBoard x b).holdCount = b.holdCount := rfl

@[simp] theorem driveStb_holdCount (level : Bool) (s : State) : (driveStb level s).board.holdCount = s.board.holdCount := rfl

@[simp] theorem enterPhase_holdCount (p : BytePhase) (x : Sending) (s : State) :
    (enterPhase p x s).board.holdCount = s.board.holdCount := rfl

@[simp] theorem driveByte_holdCount (b : Byte) (s : State) : (driveByte b s).board.holdCount = s.board.holdCount := rfl

@[simp] theorem beginByte_holdCount (x : Sending) (s : State) : (beginByte x s).board.holdCount = s.board.holdCount := by
  unfold beginByte
  split <;> rfl

@[simp] theorem nextByte_holdCount (x : Sending) (s : State) : (nextByte x s).board.holdCount = s.board.holdCount := by
  simp [nextByte]

@[simp] theorem flagStep_holdCount (high : Bool) (s : State) : (flagStep high s).board.holdCount = s.board.holdCount := by
  unfold flagStep
  (repeat' split) <;> simp

@[simp] theorem leaveByYield_holdCount (s : State) : (leaveByYield s).board.holdCount = s.board.holdCount := by
  simp [leaveByYield_eq]

theorem leaveByRelease_holdCount (s : State) : (leaveByRelease s).board.holdCount = s.board.holdCount := by
  cases h : s.share.yieldPending with
  | true => simp [leaveByRelease, h]
  | false => simp [leaveByRelease_eq h]

theorem onRequest_holdCount (s : State) : (onRequest s).board.holdCount = s.board.holdCount := by
  obtain ⟨-, -, -, he⟩ | ⟨-, -, -, he⟩ | ⟨-, -, he⟩ | ⟨-, he⟩ := onRequest_cases s <;> rw [he]
  · simp
  · simp [handBoard_eq]

theorem releaseBoard_holdCount (s : State) : (releaseBoard s).board.holdCount = s.board.holdCount := by
  unfold releaseBoard
  (repeat' split) <;> simp [leaveByRelease_holdCount, setOwnership_eq, dropAsk]

theorem actRowMask_sizes (f : Frame) (s : State) :
    (actRowMask f s).board.mask.length = 22 ∧ (actRowMask f s).board.holdCount = s.board.holdCount := by
  have marked (rs : List Nat) (u : State) : (forEach rs markAnyRow u).board.mask = u.board.mask
      ∧ (forEach rs markAnyRow u).board.holdCount = u.board.holdCount := by
    induction rs generalizing u with
    | nil => exact ⟨rfl, rfl⟩
    | cons r rs ih => exact ih (markAnyRow r u)
  have slots (n : Nat) (u : State) : (adjustSlot n u).board.mask = u.board.mask
      ∧ (adjustSlot n u).board.holdCount = u.board.holdCount := by
    unfold adjustSlot
    dsimp only
    (repeat' split) <;> exact ⟨rfl, rfl⟩
  have length : (rowMaskOf f.payload).length = 22 := by rw [rowMaskOf, List.length_map, List.length_range]; rfl
  unfold actRowMask
  dsimp only
  refine ⟨(congrArg List.length ((slots _ _).1.trans (marked _ _).1)).trans length, (slots _ _).2.trans (marked _ _).2⟩

/-! ## The lists of a fixed length -/

/-- The lists of a fixed length outside the race record and the lanes have it. -/
structure Fitted (s : State) : Prop where
  lines : s.lines.length = 61
  mask : s.board.mask.length = 22
  holds : s.board.holdCount = 10
  flash : s.lamps.startFlash.length = 10
  alert : s.lamps.takeoffAlert.length = 10
  final : s.lamps.finalLength.length = 10

/-- Whatever the Race Engine does to board and lamps keeps the lengths. -/
theorem raceClosed_fitted : RaceClosed Fitted where
  race _ _ h := ⟨h.lines, h.mask, h.holds, h.flash, h.alert, h.final⟩
  lanes _ _ h := ⟨h.lines, h.mask, h.holds, h.flash, h.alert, h.final⟩
  lamps _ _ flash alert final h := ⟨h.lines, h.mask, h.holds, flash.trans h.flash, alert.trans h.alert, final.trans h.final⟩
  notice k p s h := by
    rw [handNotice_eq]
    exact ⟨h.lines, h.mask, h.holds, h.flash, h.alert, h.final⟩
  answer _ _ _ _ h := ⟨h.lines, h.mask, h.holds, h.flash, h.alert, h.final⟩
  mark _ _ _ h := ⟨h.lines, h.mask, h.holds, h.flash, h.alert, h.final⟩
  hold _ _ _ h := ⟨h.lines, h.mask, (List.length_modify ..).trans h.holds, h.flash, h.alert, h.final⟩
  stops _ h := ⟨h.lines, h.mask, (List.length_map ..).trans h.holds, h.flash, h.alert, h.final⟩

section
variable {s t : State}

theorem Fitted.of_lines (h : Fitted s) (lines : t.lines.length = s.lines.length) (board : t.board = s.board) (lamps : t.lamps = s.lamps) :
    Fitted t :=
  ⟨lines.trans h.lines, by rw [board]; exact h.mask, by rw [board]; exact h.holds, by rw [lamps]; exact h.flash,
    by rw [lamps]; exact h.alert, by rw [lamps]; exact h.final⟩

/-- A change of the board that keeps its lengths. -/
theorem Fitted.of_board (h : Fitted s) (lines : t.lines = s.lines) (mask : t.board.mask.length = s.board.mask.length)
    (holds : t.board.holdCount = s.board.holdCount) (lamps : t.lamps = s.lamps) : Fitted t :=
  ⟨by rw [lines]; exact h.lines, mask.trans h.mask, holds.trans h.holds, by rw [lamps]; exact h.flash, by rw [lamps]; exact h.alert,
    by rw [lamps]; exact h.final⟩

/-- A confirmed edge, a sample, a hold and a stuck time change lines one by one. -/
theorem exec_lines_fitted {c : Instr} (h : Fitted s)
    (hc : (∃ n b, c = .pendingEdge n b) ∨ (∃ n b, c = .pendingEdgeDropped n b) ∨ (∃ n, c = .padHoldExpiry n) ∨ (∃ n, c = .lineStuck n)
      ∨ c = .lineMask) : NextMeets Fitted (exec c s) := by
  have line (u : State) (n : Nat) (f : Line → Line) (hu : Fitted u) : Fitted (u.updLine n f) :=
    hu.of_lines (List.length_modify ..) rfl rfl
  have sampled (n : Nat) (b : Bool) : Fitted (s.sampleLine n b) := h.of_lines rfl rfl rfl
  rcases hc with ⟨n, b, rfl⟩ | ⟨n, b, rfl⟩ | ⟨n, rfl⟩ | ⟨n, rfl⟩ | rfl
  · change NextMeets _ (execPendingEdge n b s)
    unfold execPendingEdge
    dsimp only
    split
    · simp
    · split <;> refine (nextMeets_next _ _).mpr ?_
      · exact line _ _ _ (sampled n b)
      · exact sampled n b
  · change NextMeets _ (execPendingEdgeDropped n b s)
    unfold execPendingEdgeDropped
    dsimp only
    split
    · simp
    · split <;> refine (nextMeets_next _ _).mpr ?_
      · exact line _ _ _ (sampled n b)
      · exact sampled n b
  · change NextMeets _ (execPadHoldExpiry n s)
    unfold execPadHoldExpiry
    split
    · simp
    · split <;> refine (nextMeets_next _ _).mpr ?_
      · exact line _ _ _ h
      · exact h
  · change NextMeets _ (execLineStuck n s)
    unfold execLineStuck
    split
    · simp
    · split
      · split <;> refine (nextMeets_next _ _).mpr ?_
        · rw [handAlarm_eq]
          exact (line s n (fun l => { l with stuck := true }) h).of_lines rfl rfl rfl
        · exact h
      · exact (nextMeets_next _ _).mpr h
  · refine (nextMeets_next _ _).mpr (takeRequest_closed Fitted _ _ _ _ _ s h (fun _ h => h.of_lines rfl rfl rfl)
      (fun _ _ _ _ h => h.of_lines rfl rfl rfl) fun f u hu => hu.of_lines ?_ rfl rfl)
    change (u.lines.zipIdx.map _).length = _
    rw [List.length_map, List.length_zipIdx]

theorem exec_lamps_fitted {c : Instr} (h : Fitted s)
    (hc : (∃ f, c = .pulseExpiry f) ∨ (∃ f, c = .extendedExpiry f) ∨ ∃ n, c = .offDelayExpiry n) : NextMeets Fitted (exec c s) := by
  have lamps (x : Lamps) (flash : x.startFlash.length = s.lamps.startFlash.length)
      (alert : x.takeoffAlert.length = s.lamps.takeoffAlert.length) (final : x.finalLength.length = s.lamps.finalLength.length) :
      NextMeets Fitted (.next { s with lamps := x }) := (nextMeets_next _ _).mpr (raceClosed_fitted.lamps s x flash alert final h)
  rcases hc with ⟨f, rfl⟩ | ⟨f, rfl⟩ | ⟨n, rfl⟩
  · change NextMeets _ (execPulseExpiry f s)
    unfold execPulseExpiry
    (repeat' split)
    · simp
    · exact lamps _ (List.length_modify ..) rfl rfl
    · exact lamps _ rfl rfl rfl
  · change NextMeets _ (execExtendedExpiry f s)
    unfold execExtendedExpiry
    (repeat' split)
    · simp
    · exact lamps _ rfl (List.length_modify ..) rfl
    · exact lamps _ rfl rfl rfl
  · change NextMeets _ (execOffDelayExpiry n s)
    unfold execOffDelayExpiry
    split
    · simp
    · exact lamps _ rfl rfl (List.length_modify ..)

/-- The commands of the board and the share keep the number of split holds. -/
theorem exec_holdCount {c : Instr} (hb : .board ∈ touches c) (hrace : movesRace c = false) (hp : ∀ p, c ≠ .powerOn p)
    (hr : c ≠ .resetTakesEffect) (s : State) : NextMeets (fun t => t.board.holdCount = s.board.holdCount) (exec c s) := by
  cases c with
  | headerTenths =>
    change NextMeets _ (execHeaderTenths s)
    unfold execHeaderTenths
    split <;> simp [markRow_eq]
  | runningSeconds =>
    change NextMeets _ (execRunningSeconds s)
    unfold execRunningSeconds
    split <;> simp [forEach_markLaneRow_eq]
  | splitHoldExpiry n =>
    change NextMeets _ (execSplitHoldExpiry n s)
    unfold execSplitHoldExpiry endHold
    (repeat' split) <;> simp [markLaneRow_eq]
    exact List.length_modify ..
  | rowStart =>
    change NextMeets _ (execRowStart s)
    unfold execRowStart
    split <;> simp [startRow]
  | settleTimeExpiry =>
    change NextMeets _ (execSettleTimeExpiry s)
    unfold execSettleTimeExpiry
    (repeat' split) <;> simp
  | strobeWidthExpiry =>
    change NextMeets _ (execStrobeWidthExpiry s)
    unfold execStrobeWidthExpiry
    (repeat' split) <;> simp
  | slotExpiry =>
    change NextMeets _ (execSlotExpiry s)
    unfold execSlotExpiry
    (repeat' split) <;> simp [handAlarm_eq, Board.holdCount]
  | boardStall =>
    change NextMeets _ (execBoardStall s)
    unfold execBoardStall
    (repeat' split) <;> simp [handAlarm_eq, abandonRow, Board.holdCount, driveStb]
  | rowComplete flag =>
    change NextMeets _ (execRowComplete flag s)
    unfold execRowComplete
    dsimp only
    (repeat' split) <;> simp
  | flagWaitMet flag => exact (nextMeets_next _ _).mpr (flagStep_holdCount flag _)
  | claimWindowEnd =>
    change NextMeets _ (execClaimWindowEnd s)
    unfold execClaimWindowEnd
    split <;> simp [gainBoard_eq]
    rfl
  | stopAfterRow =>
    change NextMeets _ (execStopAfterRow s)
    unfold execStopAfterRow
    split <;> simp [leaveByRelease_holdCount]
  | reqInActive v =>
    change NextMeets _ (execReqInActive v s)
    unfold execReqInActive
    dsimp only
    split <;> simp [onRequest_holdCount]
  | boardLost v =>
    change NextMeets _ (execBoardLost v s)
    unfold execBoardLost
    dsimp only
    split <;> simp [setOwnership_eq, handAlarm_eq, loseBoard, abandonRow, Board.holdCount, driveStb]
  | boardRelease =>
    exact (nextMeets_next _ _).mpr (takeRequest_closed (fun t => t.board.holdCount = s.board.holdCount) _ _ _ _ _ s rfl
      (fun _ h => h) (fun _ _ _ _ h => h) fun f t h => (releaseBoard_holdCount t).trans h)
  | boardText =>
    refine (nextMeets_next _ _).mpr (takeRequest_closed (fun t => t.board.holdCount = s.board.holdCount) _ _ _ _ _ s rfl
      (fun _ h => h) (fun _ _ _ _ h => h) fun f t h => ?_)
    rw [actBoardText, markRow_eq]
    exact (marked_holdCount _ _).trans h
  | rowMask =>
    exact (nextMeets_next _ _).mpr (takeRequest_closed (fun t => t.board.holdCount = s.board.holdCount) _ _ _ _ _ s rfl
      (fun _ h => h) (fun _ _ _ _ h => h) fun f t h => (actRowMask_sizes f t).2.trans h)
  | powerOn p => exact absurd rfl (hp p)
  | resetTakesEffect => exact absurd rfl hr
  | edgeConfirmed | backupWindowExpiry | loadEvent | setLane | clearRace | arm | recallRace | stopRace | adjustLengthPlusOne
  | adjustLengthMinusOne | adjudicate | declareDns | declareDnf | declareDq | declareReinstate | close => cases hrace
  | _ => simp [touches] at hb

/-- The commands of the board and the share keep the number of row masks. -/
theorem exec_maskCount {c : Instr} (hp : ∀ p, c ≠ .powerOn p) (hr : c ≠ .resetTakesEffect) (hs : s.board.mask.length = 22) :
    NextMeets (fun t => t.board.mask.length = 22) (exec c s) := by
  by_cases hm : c = .rowMask
  · subst hm
    exact (nextMeets_next _ _).mpr (takeRequest_closed (fun t => t.board.mask.length = 22) _ _ _ _ _ s hs
      (fun _ h => h) (fun _ _ _ _ h => h) fun f t _ => (actRowMask_sizes f t).1)
  by_cases ht : c = .boardText
  · subst ht
    exact fun t h => (congrArg List.length (exec_boardText_mask s t h)).trans hs
  · exact fun t h => (congrArg (fun x => x.1.length) (exec_fittings hp hr hm ht s t h)).trans hs

theorem fitted_powerOn (p : Pins) (s : State) : Fitted (powerOn p s) where
  lines := by
    change (loadedLines p.lines).length = 61
    rw [loadedLines, List.length_map, List.length_range]
    rfl
  mask := by simp [powerOn, Board.powerOn]
  holds := by simp [powerOn, Board.powerOn, Board.holdCount]
  flash := by simp [powerOn, Lamps.powerOn]
  alert := by simp [powerOn, Lamps.powerOn]
  final := by simp [powerOn, Lamps.powerOn]

theorem exec_fitted (c : Instr) (h : Fitted s) : NextMeets Fitted (exec c s) := by
  by_cases hrace : movesRace c = true
  · exact raceClosed_fitted.exec (fun _ _ _ h => h.of_lines rfl rfl rfl) (fun _ _ _ h => h.of_lines (List.length_modify ..) rfl rfl)
      (fun _ h => h.of_lines rfl rfl rfl) (fun _ _ _ _ h => h.of_lines rfl rfl rfl) hrace h
  by_cases hp : ∃ p, c = .powerOn p
  · obtain ⟨p, rfl⟩ := hp
    exact (nextMeets_next _ _).mpr (fitted_powerOn p s)
  by_cases hr : c = .resetTakesEffect
  · subst hr
    change NextMeets _ (execResetTakesEffect s)
    unfold execResetTakesEffect
    split
    · exact (nextMeets_next _ _).mpr (fitted_powerOn _ s)
    · exact (nextMeets_next _ _).mpr h
  have powered := fun p hc => hp ⟨p, hc⟩
  have board (hb : .board ∈ touches c) (hl : .capture ∉ touches c) (hx : .lamps ∉ touches c) : NextMeets Fitted (exec c s) :=
    fun t ht => by
      have touched := exec_touches c s t ht
      have count := exec_holdCount hb (by simpa using hrace) powered hr s t ht
      have masks := exec_maskCount powered hr h.mask t ht
      exact h.of_board (touched .capture hl) (masks.trans h.mask.symm) count (touched .lamps hx)
  have untouched (hb : .board ∉ touches c) (hl : .capture ∉ touches c) (hx : .lamps ∉ touches c) : NextMeets Fitted (exec c s) :=
    nextMeets_of_touches fun t ht => h.of_lines (congrArg List.length (ht .capture hl)) (ht .board hb) (ht .lamps hx)
  cases c with
  | pendingEdge n b => exact exec_lines_fitted h (.inl ⟨n, b, rfl⟩)
  | pendingEdgeDropped n b => exact exec_lines_fitted h (.inr (.inl ⟨n, b, rfl⟩))
  | padHoldExpiry n => exact exec_lines_fitted h (.inr (.inr (.inl ⟨n, rfl⟩)))
  | lineStuck n => exact exec_lines_fitted h (.inr (.inr (.inr (.inl ⟨n, rfl⟩))))
  | lineMask => exact exec_lines_fitted h (.inr (.inr (.inr (.inr rfl))))
  | pulseExpiry f => exact exec_lamps_fitted h (.inl ⟨f, rfl⟩)
  | extendedExpiry f => exact exec_lamps_fitted h (.inr (.inl ⟨f, rfl⟩))
  | offDelayExpiry n => exact exec_lamps_fitted h (.inr (.inr ⟨n, rfl⟩))
  | headerTenths | runningSeconds | splitHoldExpiry | rowStart | settleTimeExpiry | strobeWidthExpiry | slotExpiry | boardStall
  | boardText | rowMask | rowComplete | flagWaitMet | claimWindowEnd | stopAfterRow | boardRelease | reqInActive | boardLost =>
    exact board (by simp [touches]) (by simp [touches]) (by simp [touches])
  | powerOn p => exact absurd rfl (powered p)
  | resetTakesEffect => exact absurd rfl hr
  | edgeConfirmed | backupWindowExpiry | loadEvent | setLane | setRecord | clearRace | arm | recallRace | stopRace
  | adjustLengthPlusOne | adjustLengthMinusOne | adjudicate | declareDns | declareDnf | declareDq | declareReinstate
  | close => exact absurd rfl hrace
  | _ => exact untouched (by simp [touches]) (by simp [touches]) (by simp [touches])

/-! ## The record slots (R22, R33) -/

theorem exec_slots (c : Instr) (hs : s.race.slots.length = 4) : NextMeets (fun t => t.race.slots.length = 4) (exec c s) := by
  have request {kind : Byte} {mine : List Byte → Bool} {ok : Nat → Bool} {bad : State → List Byte} {act : Frame → State → State}
      (hact : ∀ f t, t.race.slots.length = 4 → (act f t).race.slots.length = 4) :
      NextMeets (fun t => t.race.slots.length = 4) (.next (takeRequest kind mine ok bad act s)) :=
    (nextMeets_next _ _).mpr (takeRequest_closed (fun t => t.race.slots.length = 4) kind mine ok bad act s hs (fun _ h => h)
      (fun _ _ _ _ h => h) hact)
  have cleared (new : RaceState) (e : Option EventDesc) (u : State) : (setRaceState new (clearField e u)).race.slots.length = 4 := by
    rw [(emptiedField new e u).race]
    rfl
  have answered {f : Frame} {r : ReplyCode} {x : List Byte} {v : State} (u : State) (race : v.race = u.race)
      (hu : u.race.slots.length = 4) : (putReply f r x v).race.slots.length = 4 := by
    change v.race.slots.length = 4
    rw [race]
    exact hu
  have others (h1 : c ≠ .setRecord) (h2 : c ≠ .loadEvent) (h3 : c ≠ .clearRace) (h4 : ∀ p, c ≠ .powerOn p)
      (h5 : c ≠ .resetTakesEffect) : NextMeets (fun t => t.race.slots.length = 4) (exec c s) := fun t ht =>
    (congrArg List.length ((exec_tableMoves c s t ht).kept.slots h1 h2 h3 h4 h5)).trans hs
  cases c with
  | setRecord =>
    refine request fun f t ht => ?_
    unfold actSetRecord
    dsimp only
    split
    · exact ht
    split
    · exact ht
    split
    · exact ht
    split
    · exact ht
    split
    · exact ht
    · exact (List.length_modify ..).trans ht
  | loadEvent =>
    refine request fun f t ht => ?_
    unfold actLoadEvent
    split
    · exact ht
    split
    · exact ht
    · exact answered _ (watchCheck_race _) (cleared _ _ t)
  | clearRace =>
    refine request fun f t _ => ?_
    exact answered _ (answerClear_race _) (cleared _ _ t)
  | powerOn p => exact (nextMeets_next _ _).mpr rfl
  | resetTakesEffect =>
    change NextMeets _ (execResetTakesEffect s)
    unfold execResetTakesEffect
    split
    · exact (nextMeets_next _ _).mpr rfl
    · exact (nextMeets_next _ _).mpr hs
  | _ => exact others (by simp) (by simp) (by simp) (by simp) (by simp)

theorem shape_iff (s : State) : Shape s ↔ Fitted s ∧ s.race.slots.length = 4 ∧ s.lanes.length = 10 :=
  ⟨fun h => ⟨⟨h.lines, h.mask, h.holds, h.flash, h.alert, h.final⟩, h.slots, h.lanes⟩,
    fun ⟨h, slots, lanes⟩ => ⟨h.lines, lanes, slots, h.mask, h.holds, h.flash, h.alert, h.final⟩⟩

/-- Every step keeps the lists of a fixed length. -/
theorem step_shape (agrees : RaceAgrees s) (shape : Shape s) (h : step s = .next t) : Shape t := by
  obtain ⟨fitted, slots, lanes⟩ := (shape_iff s).mp shape
  obtain ⟨fittedT, slotsT⟩ : Fitted t ∧ t.race.slots.length = 4 := by
    refine step_keeps (P := fun s => Fitted s ∧ s.race.slots.length = 4) (fun u p d k hu => ⟨hu.1.of_lines rfl rfl rfl, hu.2⟩)
      (fun c u hu v hv => ⟨exec_fitted c hu.1 v hv, exec_slots c hu.2 v hv⟩) (fun u hu =>
        ⟨⟨?_, hu.1.mask, hu.1.holds, hu.1.flash, hu.1.alert, hu.1.final⟩, hu.2⟩) ⟨fitted, slots⟩ h
    change (u.lines.zipIdx.map _).length = 61
    rw [List.length_map, List.length_zipIdx]
    exact hu.1.lines
  exact (shape_iff t).mpr ⟨fittedT, slotsT, (step_raceOutcome agrees h).count lanes⟩

end

end Sys2Proof.Machine
end

section
/-!
The counts of the lanes (R38, R57, R69, R70, R76, R89), kept by every step.
-/
namespace Sys2Proof.Machine

section
variable {e : EventDesc} {l m : Lane}

/-! ## The counts of one lane -/

/-- The number of MISSED entries of a split list (R69). -/
def missedCount (xs : List Split) : Nat := (xs.filter (fun x => decide (x.kind = .missed))).length

/-- The counts of a lane: its misses (R69), and its lengths done by its state (R38, R57, R76, R89). -/
structure LaneCounts (e : EventDesc) (l : Lane) : Prop where
  misses : l.misses = missedCount l.splits
  set : l.state = .set → l.done = 0
  finishing : l.state = .finishing → l.done + 1 = e.total
  resolved : l.state = .finished ∨ l.state = .review → l.done = e.total ∧ ∃ x ∈ l.splits, x.kind = .final ∧ x.length = e.total

theorem missedCount_append (xs : List Split) (x : Split) :
    missedCount (xs ++ [x]) = missedCount xs + if x.kind = .missed then 1 else 0 := by
  unfold missedCount
  rw [List.filter_append, List.length_append]
  split <;> simp [*]

theorem LaneCounts.of_core (h : LaneCounts e l) (core : m.core = l.core) : LaneCounts e m := by
  refine ⟨?_, ?_, ?_, ?_⟩
  · rw [core_misses core, core_splits core]
    exact h.misses
  · rw [core_state core, core_done core]
    exact h.set
  · rw [core_state core, core_done core]
    exact h.finishing
  · rw [core_state core, core_done core, core_splits core]
    exact h.resolved

/-- A lane that is neither SET nor FINISHING nor resolved has its misses to count only. -/
theorem laneCounts_of_misses (misses : m.misses = missedCount m.splits)
    (state : ¬ (m.state = .set ∨ m.state = .finishing ∨ m.state = .finished ∨ m.state = .review)) : LaneCounts e m :=
  ⟨misses, fun s => absurd (.inl s) state, fun s => absurd (.inr (.inl s)) state, fun s => absurd (.inr (.inr s)) state⟩

theorem appended_counts (h : LaneCounts e l) (swims : l.state = .swimming) (k : SplitKind) (time : Option Nat) (mark : Bool) :
    LaneCounts e (l.appended e k time mark) := by
  refine laneCounts_of_misses ?_ (by simp [appended_state, swims])
  have kind : (nextEntry l k time mark).kind = k := rfl
  rw [appended_misses, appended_splits, missedCount_append, kind, h.misses]
  split <;> rfl

theorem removeTail_counts (h : LaneCounts e l) (swims : l.state = .swimming) : LaneCounts e l.removeTail := by
  have state : l.removeTail.state = .swimming := swims
  refine laneCounts_of_misses ?_ (by simp [state])
  have misses := h.misses
  rcases List.eq_nil_or_concat l.splits with none_ | ⟨xs, x, some_⟩
  · have kept : l.removeTail.misses = l.misses := by simp [Lane.removeTail, none_]
    have splits : l.removeTail.splits = [] := by simp [Lane.removeTail, none_]
    rw [kept, splits, misses, none_]
  · rw [List.concat_eq_append] at some_
    rw [removeTail_of_splits some_]
    rw [some_, missedCount_append] at misses
    dsimp only
    by_cases missed : x.kind = .missed
    · simp only [missed, if_true] at misses ⊢
      omega
    · simp only [missed, if_false] at misses ⊢
      omega

theorem ruled_counts (h : LaneCounts e l) (ev : Evidence) (src : ResultSource) (stands : l.state = .finished ∨ l.state = .review) :
    LaneCounts e (l.ruled ev src) := by
  have state : (l.ruled ev src).state = .finished := rfl
  have splits := adjudicate_splits ev src l
  refine ⟨?_, by simp [state], by simp [state], fun _ => ?_⟩
  · have misses : (l.ruled ev src).misses = l.misses := rfl
    rw [misses, h.misses, splits, missedCount, missedCount, List.filter_map, List.length_map]
    refine congrArg List.length (List.filter_congr fun x _ => ?_)
    dsimp only [Function.comp]
    split <;> simp [*]
  · obtain ⟨done, x, hx, final, length⟩ := h.resolved stands
    refine ⟨done, { x with time := some ev.time, overMark := ev.overMark }, ?_, final, length⟩
    rw [splits]
    exact List.mem_map.mpr ⟨x, hx, if_pos final⟩

theorem resolved_counts {lag : Nat} {x : Decision} (h : LaneCounts e l) (finishing : l.state = .finishing)
    (decides : decideFinish e l l.agreed (l.backup e lag) = some x) : LaneCounts e (l.resolved e lag x) := by
  have state : (l.resolved e lag x).state = .finished ∨ (l.resolved e lag x).state = .review := decideFinish_state decides
  have last := h.finishing finishing
  refine ⟨?_, by rcases state with s | s <;> simp [s], by rcases state with s | s <;> simp [s], fun _ => ⟨last, ?_⟩⟩
  · have misses : (l.resolved e lag x).misses = l.misses := rfl
    have splits : (l.resolved e lag x).splits
        = l.splits ++ [timedEntry (l.done + 1) .final { time := x.result, overMark := x.overMark }] := rfl
    have kind : (timedEntry (l.done + 1) .final { time := x.result, overMark := x.overMark }).kind = .final := rfl
    rw [misses, splits, missedCount_append, h.misses, if_neg (by simp [kind]), Nat.add_zero]
  · exact ⟨_, List.mem_append_right _ (List.mem_singleton_self _), rfl, last⟩

theorem withEvidence_misses (ev : Evidence) (button : Option Nat) (l : Lane) : (l.withEvidence ev button).misses = l.misses := by
  refine withEvidence_keeps Lane.misses (fun _ _ => rfl) (fun b x k => ?_) ev button l
  unfold Lane.setPress
  split <;> rfl

theorem evidence_counts (h : LaneCounts e l) (ev : Evidence) (button : Option Nat)
    (takes : l.state = .finishing ∨ (l.state = .swimming ∧ l.done + 1 = e.total)) :
    LaneCounts e ((l.toState .finishing).withEvidence ev button) := by
  have state : ((l.toState .finishing).withEvidence ev button).state = .finishing := withEvidence_state ..
  have done : ((l.toState .finishing).withEvidence ev button).done = l.done := withEvidence_done ..
  refine ⟨?_, by simp [state], fun _ => ?_, by simp [state]⟩
  · rw [withEvidence_misses, withEvidence_splits]
    exact h.misses
  · rw [done]
    exact takes.elim h.finishing fun t => t.2

theorem recalled_counts {st : LaneState} (hst : st = .ready ∨ st = .dns) : LaneCounts e (l.recalled st) := by
  refine laneCounts_of_misses rfl ?_
  have state : (l.recalled st).state = st := rfl
  rw [state]
  rcases hst with h | h <;> simp [h]

/-- Every change keeps the counts of its lane. -/
theorem laneCounts_keeps (v w : LaneView) (change : LaneChange e v w) (agrees : LaneAgrees v.race v.lane)
    (h : LaneCounts e v.lane) : LaneCounts e w.lane := by
  have fits := agrees.fits
  cases change with
  | besides same => exact h.of_core same
  | timed swims => exact appended_counts h swims ..
  | untimed swims => exact appended_counts h swims ..
  | evidence takes => exact evidence_counts h _ _ takes
  | resolved finishing decides => exact resolved_counts h finishing decides
  | removed swims => exact removeTail_counts h swims
  | ruled stands => exact ruled_counts h _ _ stands
  | @left _ l _ new _ allowed =>
    refine laneCounts_of_misses (m := l.toState new) h.misses ?_
    rcases allowed with ⟨rfl, -⟩ | ⟨rfl, -⟩ <;> simp [Lane.toState]
  | @used l _ new _ allowed =>
    refine laneCounts_of_misses (m := l.toState new) h.misses ?_
    rcases allowed with rfl | rfl <;> simp [Lane.toState]
  | @armed l _ far loaded dive =>
    have known : l.state = .vacant ∨ l.state = .ready ∨ l.state = .dns := by simpa [laneStateFits] using fits
    have empty : (l.atArm far loaded dive).misses = 0 ∧ (l.atArm far loaded dive).splits = [] ∧ (l.atArm far loaded dive).done = 0 := by
      unfold Lane.atArm
      (repeat' split) <;> exact ⟨rfl, rfl, rfl⟩
    obtain ⟨misses, splits, done⟩ := empty
    have state := atArm_state far loaded dive l
    refine ⟨by rw [misses, splits]; rfl, fun _ => done, fun s => ?_, fun s => ?_⟩
    · rw [state] at s
      rcases known with k | k | k <;> simp [k] at s
    · rw [state] at s
      rcases known with k | k | k <;> simp [k] at s
  | @started l =>
    refine LaneCounts.of_core (l := if l.state = .set then l.toState .swimming else l) ?_ (started_core ..)
    split
    · exact laneCounts_of_misses (m := l.toState .swimming) h.misses (by simp [Lane.toState])
    · exact h
  | @recalledArmed l =>
    have known : l.state = .vacant ∨ l.state = .set ∨ l.state = .dns := by simpa [laneStateFits] using fits
    unfold Lane.recalledArmed
    split
    · exact h
    · next used =>
      refine recalled_counts ?_
      rcases known with k | k | k
      · exact absurd k used
      · simp [k]
      · simp [k]
  | @recalledRunning l =>
    unfold Lane.recallRunning
    split
    · exact h
    · next used =>
      refine recalled_counts ?_
      have atArm : l.stateAtArm = some .ready ∨ l.stateAtArm = some .dns := agrees.atArm (.inr rfl) used
      rcases atArm with k | k <;> simp [k]
  | ended | closed => exact h

theorem laneCounts_blank (e : EventDesc) : LaneCounts e Lane.blank :=
  laneCounts_of_misses rfl (by simp [Lane.blank])

end

/-! ## All lanes, and their FINAL_LENGTH inputs -/

theorem inputRight_iff (n : Nat) (s : State) : InputRight n s ↔ s.lamps.finalLength[n]?.map (·.input)
    = some (decide (8 ≤ s.event.total ∧ (s.lane n).state = .swimming ∧ (s.lane n).done + 1 = s.event.total)) := by
  rw [InputRight, State.inputs, List.getElem?_map]
  rfl

theorem countsRight_iff (s : State) :
    CountsRight s ↔ (∀ n, LaneCounts s.event (s.lane n)) ∧ ∀ n < 10, InputRight n s := by
  rw [← forall_lanes (laneCounts_blank s.event)]
  refine ⟨fun h => ⟨fun l hl => ⟨h.misses l hl, h.set l hl, h.finishing l hl, h.resolved l hl⟩,
    fun n hn => (inputRight_iff n s).mpr (h.finalInput n hn)⟩, fun ⟨counts, inputs⟩ => ?_⟩
  exact ⟨fun l hl => (counts l hl).misses, fun l hl => (counts l hl).set, fun l hl => (counts l hl).finishing,
    fun l hl => (counts l hl).resolved, fun n hn => (inputRight_iff n s).mp (inputs n hn)⟩

theorem FieldEmpty.inputRight {t : State} (h : FieldEmpty t) (final : t.lamps.finalLength.length = 10) {n : Nat} (hn : n < 10) :
    InputRight n t := by
  have there : n < t.inputs.length := by rw [State.inputs, List.length_map, final]; exact hn
  rw [InputRight, h.lane n, onFinalLength_false (by simp [Lane.blank]), List.getElem?_eq_getElem there,
    h.inputs _ (List.getElem_mem there)]

theorem raceOutcome_countsRight {s t : State} (h : RaceOutcome s t) (agrees : RaceAgrees s) (counts : CountsRight s)
    (final : t.lamps.finalLength.length = 10) : CountsRight t := by
  have lanes := ((raceAgrees_iff s).mp agrees).2
  obtain ⟨right, inputs⟩ := (countsRight_iff s).mp counts
  refine (countsRight_iff t).mpr ⟨fun n => ?_, fun n hn => ?_⟩
  · refine (h.keeps (P := fun e v => LaneAgrees v.race v.lane ∧ LaneCounts e v.lane)
      (fun e v w change view => ⟨laneAgrees_keeps v w change view.1, laneCounts_keeps v w change view.1 view.2⟩)
      (fun empty m => ?_) (fun m => ⟨lanes m, right m⟩) n).2
    have lane : (t.view m).lane = Lane.blank := empty.lane m
    rw [lane]
    exact ⟨laneAgrees_blank _, laneCounts_blank _⟩
  · rcases h with move | empty
    · exact move.inputs n (fun ready => ready.2 ((right n).set ready.1)) (inputs n hn)
    · exact empty.inputRight final hn

/-- Settles O56: the lists keep their lengths, and every change that a step can make to a lane keeps its order, its state's place in
the race and its counts. -/
theorem statesAndSplitsStayInOrder : Obligations.StatesAndSplitsStayInOrder := by
  refine ⟨fun s t shape order agrees h => ?_, fun s t shape _ agrees counts h => ?_⟩
  · have outcome := step_raceOutcome agrees h
    exact ⟨step_shape agrees shape h, raceOutcome_splitsInOrder outcome order, raceOutcome_raceAgrees outcome agrees⟩
  · exact raceOutcome_countsRight (step_raceOutcome agrees h) agrees counts (step_shape agrees shape h).final

end Sys2Proof.Machine
end
